-- ==== Sys2Proof/Word.lean ====
section
/-! DEFINITION. Bytes, line sets and tables of a fixed length. -/

namespace Sys2Proof

/-- One byte of a command window or of a bus. -/
abbrev Byte := BitVec 8

/-- A set of lines in the encoding of R175: bit n is line Ln. -/
abbrev LineSet := BitVec 16

/-- A level mask in the encoding of R175: bit n is the level of Ln. -/
abbrev Levels := BitVec 16

/-- A level of a line: `false` is 0, `true` is 1 (section 0.5). -/
abbrev Level := Bool

/-- One of the ports P0 to P3. -/
abbrev Port := Fin 4

/-- One of the lines L0 to L15. -/
abbrev Line := Fin 16

/-- One of the 24 slots of the lease table. -/
abbrev Slot := Fin 24

/-- One of the 6 pattern channels. -/
abbrev PatChan := Fin 6

/-- One of the 4 guard channels. -/
abbrev GuardChan := Fin 4

/-- Entry `i` of a table. -/
def vget {α : Type} {n : Nat} (v : Vector α n) (i : Fin n) : α := v[i.val]

/-- The table with entry `i` replaced. -/
def vset {α : Type} {n : Nat} (v : Vector α n) (i : Fin n) (x : α) : Vector α n := v.set i.val x

/-- The table of the values of a function. -/
def vtab {α : Type} {n : Nat} (f : Fin n → α) : Vector α n := Vector.ofFn f

/-- The table with every entry rewritten. -/
def vmap {α β : Type} {n : Nat} (f : Fin n → α → β) (v : Vector α n) : Vector β n :=
  vtab fun i => f i (vget v i)

@[simp] theorem vget_vset_self {α : Type} {n : Nat} (v : Vector α n) (i : Fin n) (x : α) :
    vget (vset v i x) i = x := by simp [vget, vset]

theorem vget_vset_ne {α : Type} {n : Nat} (v : Vector α n) {i j : Fin n} (x : α) (h : j ≠ i) :
    vget (vset v i x) j = vget v j := by
  have : i.val ≠ j.val := fun e => h (Fin.ext e.symm)
  simp [vget, vset, this]

theorem vget_vset {α : Type} {n : Nat} (v : Vector α n) (i j : Fin n) (x : α) :
    vget (vset v i x) j = if j = i then x else vget v j := by
  by_cases h : j = i
  · subst h; simp
  · simp [h, vget_vset_ne]

@[simp] theorem vget_vtab {α : Type} {n : Nat} (f : Fin n → α) (i : Fin n) : vget (vtab f) i = f i := by
  simp [vget, vtab]

@[simp] theorem vget_vmap {α β : Type} {n : Nat} (f : Fin n → α → β) (v : Vector α n) (i : Fin n) :
    vget (vmap f v) i = f i (vget v i) := by simp [vmap]

@[simp] theorem vget_replicate {α : Type} {n : Nat} (x : α) (i : Fin n) :
    vget (Vector.replicate n x) i = x := by simp [vget]

/-- Two tables with the same entries are the same table. -/
theorem vext {α : Type} {n : Nat} {v w : Vector α n} (h : ∀ i, vget v i = vget w i) : v = w := by
  apply Vector.ext
  intro i hi
  exact h ⟨i, hi⟩

end Sys2Proof
end

