-- ==== Sys2Proof/Syntax.lean ====
section
/-! DEFINITION. The rows of spec/opcode_table.json: one constructor each.

A row carries no bits; its operands say which port, line, slot or channel the step concerns and, for a
step that takes something from a pin, what the pin carries. -/

namespace Sys2Proof

/-- One part of the work of a 1 ms tick. The blocks and cells take the tick in no fixed order (R85, R125). -/
inductive TickPart where
  /-- The sample of one pad with its debounce filter and drive-fault comparator (R130, R133). -/
  | sample (n : Line)
  /-- The step countdown of one pattern channel (R108). -/
  | pattern (c : PatChan)
  /-- The hold or pulse countdown of one guard channel (R85, R87). -/
  | guard (g : GuardChan)
  /-- The settle countdowns of one retirement (R60). -/
  | settle (k : Slot)
  /-- The stall count of one port (R168). -/
  | bus (p : Port)
  deriving DecidableEq, Repr

/-- What the SCL pins of the four ports carry at a 1 ms tick and since the tick before (R168). -/
structure SclTick where
  /-- Bit p: SCLp is low at the tick. -/
  low : BitVec 4
  /-- Bit p: SCLp has been high at some moment since the tick before. -/
  rose : BitVec 4
  deriving DecidableEq, Repr

/-- The steps of the VL1624. A host command names the port whose window the engine takes it from; its
arguments are the bytes of that window (R171). -/
inductive Instr where
  | request (p : Port)
  | cancelWait (p : Port)
  | queryQueue (p : Port)
  | queryLease (p : Port)
  | lookupLine (p : Port)
  | renew (p : Port)
  | release (p : Port)
  | revoke (p : Port)
  | offer (p : Port)
  | accept (p : Port)
  | decline (p : Port)
  | withdraw (p : Port)
  | setGuard (p : Port)
  | setLevels (p : Port)
  | restartPattern (p : Port)
  | readLevels (p : Port)
  | clearFault (p : Port)
  | setLineProfile (p : Port)
  | setCharter (p : Port)
  | readCharter (p : Port)
  | resetPort (p : Port)
  | nextNotice (p : Port)
  | ackNotice (p : Port)
  | unknownCommand (p : Port)
  /-- One 10 ms tick, whole (R44). -/
  | termTick
  | termEnd (k : Slot)
  | graceEnd (k : Slot)
  | offerLapse (k : Slot)
  | waitExpiry (p : Port) (ticket : Byte)
  | quietEnd (p : Port)
  /-- The engine takes the oldest report of a line, an edge report. -/
  | edgeReport (n : Line)
  | faultReport (n : Line)
  | restFaultReport (n : Line)
  /-- The engine takes the oldest settle-complete report that names the slot. -/
  | settleComplete (k : Slot)
  | patternDoneReport (k : Slot)
  | fireReport (k : Slot)
  /-- One 1 ms tick, whole: `pads` is what the pads carry, `scl` is what the SCL pins carry, and `order` lists parts
  that go first, in that order; the parts it does not list follow. -/
  | msTick (pads : Levels) (scl : SclTick) (order : List TickPart)
  | debouncedChange (n : Line)
  | driveFault (n : Line)
  | settleCountdownEnd (k : Slot)
  | stepEnd (c : PatChan)
  | guardFire (g : GuardChan)
  | pulseEnd (g : GuardChan)
  /-- The channel takes the instruction at the front of those the engine sent it. -/
  | patternSetup (c : PatChan)
  | patternPause (c : PatChan)
  | patternResume (c : PatChan)
  | patternRestart (c : PatChan)
  | patternFree (c : PatChan)
  | guardSetup (g : GuardChan)
  | guardArm (g : GuardChan)
  | guardDisarm (g : GuardChan)
  | guardSuspend (g : GuardChan)
  | guardUnsuspend (g : GuardChan)
  | guardFree (g : GuardChan)
  /-- A START or repeated START and the address byte that follows it. -/
  | i2cAddress (p : Port) (byte : Byte)
  | i2cOffset (p : Port) (byte : Byte)
  | windowWrite (p : Port) (byte : Byte)
  /-- A data byte with GO 1 at CONTROL; `upper` is its bits 7 to 1. -/
  | controlGo (p : Port) (upper : BitVec 7)
  /-- A START with the read address and `count` bytes clocked out. -/
  | i2cRead (p : Port) (count : Nat)
  | i2cStallTimeout (p : Port)
  | deviceReset
  /-- RSTN goes high; `pads` is what the pads carry then. -/
  | rstnRelease (pads : Levels)
  | i2cStop (p : Port)
  deriving DecidableEq, Repr

end Sys2Proof
end

