-- ==== Sys2Proof/Decode.lean ====
section
/-! DEFINITION. Decoding. No row of spec/opcode_table.json gives bits, so no table word spells a command;
what the engine decodes is the COMMAND byte of a window (R171). -/

namespace Sys2Proof

/-- The command a table word spells: none, since no row of the table has bits. -/
def decodeTableWord (_nbits _w : Nat) : Option Instr := none

/-- The step that carries out the command of a COMMAND byte for a port: the command table of R171, and
UNKNOWN_COMMAND for every other code, 0x00 included. -/
def decodeCommand (p : Port) (code : Byte) : Instr :=
  match code.toNat with
  | 0x01 => .request p
  | 0x02 => .cancelWait p
  | 0x03 => .queryQueue p
  | 0x08 => .queryLease p
  | 0x09 => .lookupLine p
  | 0x10 => .renew p
  | 0x11 => .release p
  | 0x12 => .revoke p
  | 0x18 => .offer p
  | 0x19 => .accept p
  | 0x1A => .decline p
  | 0x1B => .withdraw p
  | 0x20 => .setGuard p
  | 0x28 => .setLevels p
  | 0x29 => .restartPattern p
  | 0x2A => .readLevels p
  | 0x2B => .clearFault p
  | 0x30 => .setLineProfile p
  | 0x38 => .setCharter p
  | 0x39 => .readCharter p
  | 0x3A => .resetPort p
  | 0x40 => .nextNotice p
  | 0x41 => .ackNotice p
  | _ => .unknownCommand p

end Sys2Proof
end

