-- ==== Sys2Proof/Config.lean ====
section
/-! DEFINITION. The fixed numbers of the part (section 0.6 and the rules named). -/

namespace Sys2Proof.Config

/-- Highest term, wait limit and quiet time, in term units (section 0.6). -/
def maxUnits : Nat := 6000

/-- The offer window (R68). -/
def offerWindow : Nat := 200

/-- The wait budget of a port (R32). -/
def waitBudget : Nat := 3

/-- Entries the wait queue holds (R33). -/
def queueSize : Nat := 8

/-- Highest guard hold time (R22). -/
def maxHold : Nat := 1000

/-- Milliseconds in a term unit (section 0.5). -/
def msPerUnit : Nat := 10

/-- Consecutive mismatched samples that make a drive fault (R133). -/
def faultSamples : Nat := 4

/-- Consecutive ticks with SCL low that end a transaction (R168). -/
def stallTicks : Nat := 26

/-- The 7-bit target address (R165). -/
def i2cAddress : BitVec 7 := 0x3E#7

/-- The window bytes at 0x3E and 0x3F (R173). -/
def partCode : Byte := 0x16#8
def revision : Byte := 0x24#8

/-- Highest lease limit, grace and debounce (R138, R127). -/
def maxLeases : Nat := 24
def maxGrace : Nat := 200
def maxDebounce : Nat := 31

end Sys2Proof.Config
end

