-- ==== Sys2Proof/Machine/State.lean ====
section
/-! DEFINITION. Everything the spec gives the VL1624 to hold, as plain data, and its values after reset. -/

namespace Sys2Proof.Machine

/-- No row of the VL1624 stops the part: errors are status codes, notices, fault sets and flags. The type
has no constructor. -/
inductive Fault
  deriving DecidableEq, Repr

/-- Why a row has no meaning in the model. -/
inductive Refusal where
  /-- Raised by `exec`'s arm of a row that has no meaning yet (none is left). Safe: the model stops where
  the hardware goes on. -/
  | notModelled (mnemonic : String)
  deriving DecidableEq, Repr

/-! ## The lease table (chapter 1) -/

/-- The name of a lease: its slot and generation (section 1.1). -/
structure Handle where
  slot : Slot
  gen : Byte
  deriving DecidableEq, Repr

/-- Why a lease entered RETIRING (section 3.7). -/
inductive CloseReason where
  | released | expired | revoked | recalled | fault | portReset
  deriving DecidableEq, Repr

/-- The lease states with the fields that exist in one state only (R5, R66). -/
inductive LeaseState where
  | active
  | handover (offeredTo : Port) (offerRemaining : Nat)
  | grace (remaining : Nat)
  | retiring (reason : CloseReason)
  | closed (reason : CloseReason)
  deriving DecidableEq, Repr

/-- The drive types of R104. -/
inductive DriveType where
  | pushPull | openDrain
  deriving DecidableEq, Repr

/-- The pulls of a WATCH lease (R8). -/
inductive Pull where
  | none | up | down
  deriving DecidableEq, Repr

/-- One step of a pattern: its levels on the lease's lines and its duration in ms (R7). -/
structure PatternStep where
  levels : Levels
  duration : Nat
  deriving DecidableEq, Repr

/-- One condition of a guard (R9). -/
structure Condition where
  line : Line
  level : Level
  deriving DecidableEq, Repr

/-- The action line of a guard with its pulse (R9). -/
structure Action where
  line : Line
  pulseLevel : Level
  pulseWidth : Nat
  deriving DecidableEq, Repr

/-- The recall of a guard (R9). -/
structure Recall where
  target : Port
  quietTime : Nat
  deriving DecidableEq, Repr

/-- What a PATTERN asks for (R7, R20). -/
structure PatternSpec where
  drive : DriveType
  steps : List PatternStep
  /-- 0 is endless. -/
  loops : Nat
  safe : Option Levels
  deriving DecidableEq, Repr

/-- What a GUARD asks for (R9, R20), armed flag apart. -/
structure GuardSpec where
  conditions : List Condition
  /-- In term units. -/
  hold : Nat
  action : Option Action
  recallSpec : Option Recall
  deriving DecidableEq, Repr

/-- The kind parameters of a lease (R6 to R9). -/
inductive KindParams where
  | drive (type : DriveType) (levels : Levels) (safe : Option Levels)
  | pattern (spec : PatternSpec) (channel : PatChan)
  | watch (pull : Pull) (rising falling changed : LineSet)
  | guard (spec : GuardSpec) (armed : Bool) (channel : GuardChan)
  deriving DecidableEq, Repr

/-- The term fields of a lease that is not pinned. The remaining term is absent in CLOSED (R62). -/
structure Term where
  granted : Nat
  remaining : Option Nat
  deriving DecidableEq, Repr

/-- A ticket with its port, as in "P2-9" (section 0.5). -/
structure Ticket where
  port : Port
  number : Byte
  deriving DecidableEq, Repr

/-- A lease record (section 1.2). Its slot and generation are those of the slot it stands in. -/
structure Lease where
  holder : Port
  lines : LineSet
  params : KindParams
  state : LeaseState
  /-- `none` for a pinned lease (R63). -/
  term : Option Term
  grace : Nat
  warn : Nat
  termLow : Bool
  outOfCharter : Bool
  origin : Option Ticket
  faults : LineSet
  deriving DecidableEq, Repr

/-- A slot: FREE when it holds no lease; the generation stays (R1, R2). -/
structure SlotRec where
  gen : Byte
  lease : Option Lease
  deriving DecidableEq, Repr

/-! ## Requests and the wait queue (chapter 2) -/

/-- The kind part of a request (R20). -/
inductive RequestKind where
  | drive (type : DriveType) (levels : Levels) (safe : Option Levels)
  | pattern (spec : PatternSpec)
  | watch (pull : Pull) (rising falling : LineSet)
  | guard (spec : GuardSpec) (armed : Bool)
  deriving DecidableEq, Repr

/-- A request as taken (R20). -/
structure Request where
  kind : RequestKind
  lines : LineSet
  term : Nat
  pinned : Bool
  waitLimit : Nat
  deriving DecidableEq, Repr

/-- The 32 argument bytes of a window. -/
abbrev Args := Vector Byte 32

/-- An entry of the wait queue (R33). `args` are the bytes it was asked with (R177); `arrival` is the
model's stamp of the order of queueing (R156). -/
structure QueueEntry where
  ticket : Byte
  port : Port
  args : Args
  request : Request
  waitRemaining : Nat
  arrival : Nat
  deriving DecidableEq, Repr

/-- The engine's per-port record (R13, R31, R50). A port is quiet while its quiet remaining is above 0;
`none` is a port that is not quiet. -/
structure PortRec where
  occupied : Nat
  quiet : Option Nat
  ticketCounter : Byte
  deriving DecidableEq, Repr

/-! ## The charter store (chapters 7 and 8) -/

/-- What a drive fault does to a lease (R117). -/
inductive FaultPolicy where
  | hold | retire
  deriving DecidableEq, Repr

/-- A port charter (R138). -/
structure Charter where
  lines : LineSet
  leaseLimit : Nat
  maxTerm : Nat
  grace : Nat
  warn : Nat
  mayPin : Bool
  mayGuard : Bool
  policy : FaultPolicy
  deriving DecidableEq, Repr

/-- The rest modes of R126. -/
inductive RestMode where
  | hiZ | pullUp | pullDown | driveLow | driveHigh
  deriving DecidableEq, Repr

/-- A line profile (R127). -/
structure Profile where
  rest : RestMode
  debounce : Nat
  settle : Nat
  faultCheck : Bool
  restFault : Bool
  deriving DecidableEq, Repr

/-! ## The line bank (chapter 7) -/

/-- A pad cell (R123). The applied configuration is computed (`appliedConfig`). -/
structure Cell where
  assigned : Option Level
  debounced : Level
  stability : Nat
  mismatch : Nat
  settle : Nat
  deriving DecidableEq, Repr

/-- The line bank's record of a retirement (R132): its generation, its lines, and whether a 1 ms tick has
been counted since it began (R60). -/
structure Settling where
  gen : Byte
  lines : LineSet
  ticked : Bool
  deriving DecidableEq, Repr

/-! ## The pattern sequencer (chapter 6) -/

/-- The channel states of R107 with the items each has; loops remaining is `none` when endless. -/
inductive PatternPhase where
  | running (countdown : Nat) (loopsLeft : Option Nat)
  | paused (loopsLeft : Option Nat)
  | done
  deriving DecidableEq, Repr

/-- A taken pattern channel (R107). -/
structure PatternChannel where
  handle : Handle
  drive : DriveType
  steps : List PatternStep
  loops : Nat
  step : Nat
  phase : PatternPhase
  deriving DecidableEq, Repr

/-- What the lease engine tells a pattern channel (R107). -/
inductive PatternInstr where
  | setup (handle : Handle) (spec : PatternSpec)
  | pause
  | resume
  | restart
  | free
  deriving DecidableEq, Repr

/-! ## The guard monitor (chapter 5) -/

/-- The guard substates of R83 with the countdown each has, in ms. -/
inductive Substate where
  | disarmed
  | armed
  | holding (countdown : Nat)
  | firing (countdown : Nat)
  | spent
  | suspended
  deriving DecidableEq, Repr

/-- A taken guard channel (R83). -/
structure GuardChannel where
  handle : Handle
  conditions : List Condition
  hold : Nat
  action : Option Action
  recallAttached : Bool
  substate : Substate
  deriving DecidableEq, Repr

/-- What the lease engine tells a guard channel (R83). `combination` is whether every condition was true
on the debounced levels at the engine's step (R28, R54). -/
inductive GuardInstr where
  | setup (handle : Handle) (spec : GuardSpec) (armed combination : Bool)
  | arm
  | disarm
  | suspend
  | unsuspend (armed combination : Bool)
  | free
  deriving DecidableEq, Repr

/-! ## Reports on their way to the engine (R86, R109, R136) -/

inductive Report where
  | edge (handle : Handle) (line : Line) (level : Level)
  | fault (handle : Handle) (line : Line)
  | restFault (line : Line)
  | settleComplete (handle : Handle)
  | patternDone (handle : Handle)
  | fire (handle : Handle) (recallRequest : Bool)
  deriving DecidableEq, Repr

/-! ## The notice unit (chapter 9) -/

/-- A set of kinds of one subject type, in the encoding of R178. -/
abbrev KindSet := BitVec 16

/-- What became of a recall (R88). -/
inductive RecallOutcome where
  | none | done | dropped
  deriving DecidableEq, Repr

/-- The entry of a slot subject: the generation of its handle, its kinds and its detail parts (R152). -/
structure SlotNotice where
  gen : Byte
  kinds : KindSet
  reason : Option CloseReason
  outcome : Option RecallOutcome
  origin : Option Byte
  deriving DecidableEq, Repr

/-- The entry of a ticket subject; `arrival` is the stamp of its request (R156). -/
structure TicketNotice where
  ticket : Byte
  kinds : KindSet
  arrival : Nat
  deriving DecidableEq, Repr

/-- A notice map (R152). The port subject has an entry when its kind set is not empty; a line subject has
one kind only, so the lines with an entry are a set; ticket entries stand in the order of R156. -/
structure NoticeMap where
  port : KindSet
  lines : LineSet
  slots : Vector (Option SlotNotice) 24
  tickets : List TicketNotice
  deriving DecidableEq, Repr

/-! ## Host ports (chapter 10) -/

/-- The status codes of R172. -/
inductive Status where
  | idle | ok | queued | unknownCommand | badArgument | notAdmin | badHandle | wrongState | wrongKind
  | notPermitted | outOfCharter | portLimit | portQuiet | tableFull | queueFull | linesBusy | noChannel
  | notOffered | noSuchTicket | noNotice | portWasReset
  deriving DecidableEq, Repr

/-- The command states of R169. -/
inductive CommandPhase where
  | idle | pending | executing
  deriving DecidableEq, Repr

/-- The stored part of a command window (section 10.1). -/
structure Window where
  command : Byte
  phase : CommandPhase
  status : Status
  sequence : Byte
  args : Args
  result : Vector Byte 24
  deriving DecidableEq, Repr

/-- The state of a port's I2C interface (R165 to R168): outside an addressed transaction, or in a write
before or after its offset byte, or in a read with its copy of the window. -/
inductive BusState where
  | waiting
  | awaitOffset
  | writing
  | reading (copy : Vector Byte 64)
  deriving DecidableEq, Repr

/-- A port's I2C interface. `acked` is its answer on the last ninth clock it had to answer, and `sent` are
the bytes it has sent in the latest read transaction. -/
structure Bus where
  state : BusState
  pointer : BitVec 6
  stall : Nat
  acked : Bool
  sent : List Byte
  deriving DecidableEq, Repr

/-! ## The whole part -/

/-- The state of the VL1624. `pending` (the rows waiting to be run) and `arrivals` (the number of requests
queued since device reset) are the model's own. -/
structure State where
  rstnAsserted : Bool
  slots : Vector SlotRec 24
  heldBy : Vector (Option Slot) 16
  patTaken : Vector Bool 6
  guardTaken : Vector Bool 4
  portRecs : Vector PortRec 4
  queue : List QueueEntry
  arrivals : Nat
  charters : Vector Charter 4
  profiles : Vector Profile 16
  cells : Vector Cell 16
  settling : Vector (Option Settling) 24
  patChans : Vector (Option PatternChannel) 6
  patInbox : Vector (List PatternInstr) 6
  guardChans : Vector (Option GuardChannel) 4
  guardInbox : Vector (List GuardInstr) 4
  reports : List Report
  maps : Vector NoticeMap 4
  windows : Vector Window 4
  buses : Vector Bus 4
  lastServed : Port
  pending : List Instr
  deriving DecidableEq, Repr

/-! ## Values after reset -/

/-- The reset charters of R138. -/
def Charter.resetP0 : Charter :=
  { lines := 0xFFFF#16, leaseLimit := 24, maxTerm := 6000, grace := 100, warn := 100, mayPin := true,
    mayGuard := true, policy := .hold }

/-- The reset charter of P1 to P3 (R138). -/
def Charter.resetOther : Charter :=
  { lines := 0#16, leaseLimit := 0, maxTerm := 6000, grace := 100, warn := 100, mayPin := false,
    mayGuard := false, policy := .hold }

/-- The reset profile of R127. -/
def Profile.reset : Profile := { rest := .hiZ, debounce := 4, settle := 0, faultCheck := false, restFault := false }

/-- A cell after reset (R137). DESIGN CHOICE: the debounced level is 0 (log entry 1). Unsafe. -/
def Cell.reset : Cell := { assigned := none, debounced := false, stability := 0, mismatch := 0, settle := 0 }

/-- An empty notice map (R152). -/
def NoticeMap.empty : NoticeMap :=
  { port := 0#16, lines := 0#16, slots := Vector.replicate 24 none, tickets := [] }

/-- A window after device reset (R174). -/
def Window.reset : Window :=
  { command := 0#8, phase := .idle, status := .idle, sequence := 0#8, args := Vector.replicate 32 0#8,
    result := Vector.replicate 24 0#8 }

/-- A port's interface after device reset (R174). -/
def Bus.reset : Bus := { state := .waiting, pointer := 0#6, stall := 0, acked := false, sent := [] }

/-- The part right after device reset with RSTN released again (R19, R137, R138, R174; log entry 2). -/
def State.reset : State :=
  { rstnAsserted := false
    slots := Vector.replicate 24 { gen := 0#8, lease := none }
    heldBy := Vector.replicate 16 none
    patTaken := Vector.replicate 6 false
    guardTaken := Vector.replicate 4 false
    portRecs := Vector.replicate 4 { occupied := 0, quiet := none, ticketCounter := 0#8 }
    queue := []
    arrivals := 0
    charters := vset (Vector.replicate 4 Charter.resetOther) 0 Charter.resetP0
    profiles := Vector.replicate 16 Profile.reset
    cells := Vector.replicate 16 Cell.reset
    settling := Vector.replicate 24 none
    patChans := Vector.replicate 6 none
    patInbox := Vector.replicate 6 []
    guardChans := Vector.replicate 4 none
    guardInbox := Vector.replicate 4 []
    reports := []
    maps := Vector.replicate 4 NoticeMap.empty
    windows := Vector.replicate 4 Window.reset
    buses := Vector.replicate 4 Bus.reset
    lastServed := 3
    pending := [] }

/-! ## Named places of the state -/

/-- The lease in a slot, `none` when the slot is FREE. -/
def State.lease (s : State) (k : Slot) : Option Lease := (vget s.slots k).lease

/-- The handle of the record a slot holds now. -/
def State.handle (s : State) (k : Slot) : Handle := { slot := k, gen := (vget s.slots k).gen }

/-- The charter of a port. -/
def State.charter (s : State) (p : Port) : Charter := vget s.charters p

/-- The profile of a line. -/
def State.profile (s : State) (n : Line) : Profile := vget s.profiles n

/-- The pad cell of a line. -/
def State.cell (s : State) (n : Line) : Cell := vget s.cells n

/-- The engine's record of a port. -/
def State.portRec (s : State) (p : Port) : PortRec := vget s.portRecs p

/-- The notice map of a port. -/
def State.map (s : State) (p : Port) : NoticeMap := vget s.maps p

/-- The command window of a port. -/
def State.window (s : State) (p : Port) : Window := vget s.windows p

/-- The I2C interface of a port. -/
def State.bus (s : State) (p : Port) : Bus := vget s.buses p

/-- The argument bytes of a port's window. -/
def State.args (s : State) (p : Port) : Args := (s.window p).args

/-! ## Updates of one place -/

def State.setLease (s : State) (k : Slot) (l : Lease) : State :=
  { s with slots := vset s.slots k { vget s.slots k with lease := some l } }

def State.setCell (s : State) (n : Line) (c : Cell) : State := { s with cells := vset s.cells n c }

def State.setPortRec (s : State) (p : Port) (r : PortRec) : State := { s with portRecs := vset s.portRecs p r }

def State.setMap (s : State) (p : Port) (m : NoticeMap) : State := { s with maps := vset s.maps p m }

def State.setWindow (s : State) (p : Port) (w : Window) : State := { s with windows := vset s.windows p w }

def State.setBus (s : State) (p : Port) (b : Bus) : State := { s with buses := vset s.buses p b }

def State.setProfile (s : State) (n : Line) (f : Profile) : State := { s with profiles := vset s.profiles n f }

def State.setPatChan (s : State) (c : PatChan) (x : Option PatternChannel) : State :=
  { s with patChans := vset s.patChans c x }

def State.setGuardChan (s : State) (g : GuardChan) (x : Option GuardChannel) : State :=
  { s with guardChans := vset s.guardChans g x }

/-- The engine tells a pattern channel something; it is taken later, in order (R107). -/
def State.tellPattern (s : State) (c : PatChan) (i : PatternInstr) : State :=
  { s with patInbox := vset s.patInbox c (vget s.patInbox c ++ [i]) }

/-- The engine tells a guard channel something; it is taken later, in order (R83). -/
def State.tellGuard (s : State) (g : GuardChan) (i : GuardInstr) : State :=
  { s with guardInbox := vset s.guardInbox g (vget s.guardInbox g ++ [i]) }

/-- A block sends the engine a report. -/
def State.report (s : State) (r : Report) : State := { s with reports := s.reports ++ [r] }

end Sys2Proof.Machine
end

