-- ==== Sys2Proof/Machine/Operands.lean ====
section
/-! DEFINITION. Line sets, the argument fields of commands, and the result fields (R175 to R179). -/

namespace Sys2Proof.Machine

/-! ## Sets of lines -/

/-- The line is in the set (R175). Also the level of the line in a level mask. -/
def has (ls : LineSet) (n : Line) : Bool := ls.getLsbD n.val

/-- The set of one line. -/
def single (n : Line) : LineSet := 1#16 <<< n.val

/-- The lines of a set in ascending order. -/
def linesOf (ls : LineSet) : List Line := (List.finRange 16).filter fun n => has ls n

/-- The number of lines in a set. -/
def countLines (ls : LineSet) : Nat := (linesOf ls).length

/-- Every line of `a` is in `b`. -/
def subset (a b : LineSet) : Bool := a &&& b == a

/-- `a` and `b` share at least one line (R30). -/
def overlaps (a b : LineSet) : Bool := a &&& b != 0#16

/-- The set of the given lines. -/
def setOf (ns : List Line) : LineSet := ns.foldl (fun acc n => acc ||| single n) 0#16

/-! ## Reading argument bytes -/

/-- The byte at a window offset of ARGUMENTS; a field beyond 0x23 reads 0 (R175). -/
def argByte (a : Args) (off : Nat) : Byte :=
  if h : 0x04 ≤ off ∧ off < 0x24 then a[off - 0x04] else 0#8

/-- A one-byte field as a number. -/
def argNat (a : Args) (off : Nat) : Nat := (argByte a off).toNat

/-- A two-byte field as a number, most significant byte first (R175). -/
def argWord (a : Args) (off : Nat) : Nat := argNat a off * 256 + argNat a (off + 1)

/-- A two-byte line set or level mask (R175). -/
def argSet (a : Args) (off : Nat) : LineSet := argByte a off ++ argByte a (off + 1)

/-- A yes/no byte that a rule checks: neither 0 nor 1 is a bad argument (R175). -/
def badFlag (b : Byte) : Bool := 1 < b.toNat

/-- A yes/no byte as read (R175). -/
def flagOf (b : Byte) : Bool := b != 0#8

/-- A port byte above 3 is no port (R175). -/
def portOf (b : Byte) : Option Port := if h : b.toNat < 4 then some ⟨b.toNat, h⟩ else none

/-- A line byte above 15 is no line. -/
def lineOf (b : Byte) : Option Line := if h : b.toNat < 16 then some ⟨b.toNat, h⟩ else none

/-- A slot byte above 23 is no slot. -/
def slotOf (b : Byte) : Option Slot := if h : b.toNat < 24 then some ⟨b.toNat, h⟩ else none

/-- Drive type codes of R175. -/
def driveTypeOf (b : Byte) : Option DriveType :=
  match b.toNat with
  | 0 => some .pushPull
  | 1 => some .openDrain
  | _ => none

/-- Pull codes of R175. -/
def pullOf (b : Byte) : Option Pull :=
  match b.toNat with
  | 0 => some .none
  | 1 => some .up
  | 2 => some .down
  | _ => none

/-- Rest mode codes of R175. -/
def restModeOf (b : Byte) : Option RestMode :=
  match b.toNat with
  | 0 => some .hiZ
  | 1 => some .pullUp
  | 2 => some .pullDown
  | 3 => some .driveLow
  | 4 => some .driveHigh
  | _ => none

/-- Fault policy codes of R175. -/
def policyOf (b : Byte) : Option FaultPolicy :=
  match b.toNat with
  | 0 => some .hold
  | 1 => some .retire
  | _ => none

/-! ## Level lists (R176): one bit per line of the lease, the lowest line in the least significant bit -/

/-- The level mask that a level list gives to the lines of a set. -/
def spreadLevels (lines : LineSet) (list : Nat) : Levels :=
  setOf (((linesOf lines).zipIdx.filter fun e => list.testBit e.2).map (·.1))

/-- The level list of the lines of a set. -/
def gatherLevels (lines : LineSet) (levels : Levels) : Nat :=
  ((linesOf lines).zipIdx.filter fun e => has levels e.1).foldl (fun acc e => acc + 2 ^ e.2) 0

/-- A level list takes one byte for 1 to 8 lines and two bytes for 9 to 16. -/
def levelListSize (lines : LineSet) : Nat := if countLines lines ≤ 8 then 1 else 2

/-- A level list in the arguments. -/
def argLevelList (a : Args) (lines : LineSet) (off : Nat) : Levels :=
  spreadLevels lines (if levelListSize lines = 1 then argNat a off else argWord a off)

/-! ## REQUEST (R20, R176) -/

namespace Req

def kindCode (a : Args) : Nat := argNat a 0x04 / 16
def pinned (a : Args) : Bool := (argByte a 0x04).getLsbD 0
def armed (a : Args) : Bool := (argByte a 0x04).getLsbD 1
def safePresent (a : Args) : Bool := (argByte a 0x04).getLsbD 2
def recallPresent (a : Args) : Bool := (argByte a 0x04).getLsbD 3
def lines (a : Args) : LineSet := argSet a 0x06
def term (a : Args) : Nat := argWord a 0x08
def waitLimit (a : Args) : Nat := argWord a 0x0A
def hold (a : Args) : Nat := argWord a 0x0C
def conditionCount (a : Args) : Nat := argNat a 0x0E
def pulseLevel (a : Args) : Nat := argNat a 0x0F
def pulseWidth (a : Args) : Nat := argNat a 0x10
def recallTarget (a : Args) : Nat := argNat a 0x11
def quietTime (a : Args) : Nat := argWord a 0x12
def stepCount (a : Args) : Nat := argNat a 0x0C
def loops (a : Args) : Nat := argNat a 0x0D

/-- Observed line and required level of the conditions that are read, as bytes. -/
def conditionBytes (a : Args) : List (Nat × Nat) :=
  (List.range (min (conditionCount a) 4)).map fun i => (argNat a (0x14 + 2 * i), argNat a (0x15 + 2 * i))

/-- The offset of a pattern step. -/
def stepOffset (a : Args) (i : Nat) : Nat := 0x0E + i * (levelListSize (lines a) + 2)

/-- The duration of a pattern step. -/
def duration (a : Args) (i : Nat) : Nat := argWord a (stepOffset a i + levelListSize (lines a))

/-- The steps that are read. -/
def steps (a : Args) : List PatternStep :=
  (List.range (min (stepCount a) 6)).map fun i =>
    { levels := argLevelList a (lines a) (stepOffset a i), duration := duration a i }

/-- The safe levels of a DRIVE. -/
def driveSafe (a : Args) : Option Levels :=
  if safePresent a then some (argSet a 0x0E &&& lines a) else none

/-- The safe levels of a PATTERN stand after its last step. -/
def patternSafe (a : Args) : Option Levels :=
  if safePresent a then some (argLevelList a (lines a) (stepOffset a (stepCount a))) else none

/-- The action line with its pulse, when the line set is not empty. -/
def action (a : Args) : Option Action :=
  (linesOf (lines a)).head?.map fun n =>
    { line := n, pulseLevel := pulseLevel a == 1, pulseWidth := pulseWidth a }

def conditions (a : Args) : List Condition :=
  (conditionBytes a).map fun e => { line := Fin.ofNat 16 e.1, level := e.2 == 1 }

def recallSpec (a : Args) : Option Recall :=
  if recallPresent a then some { target := Fin.ofNat 4 (recallTarget a), quietTime := quietTime a } else none

/-- The kind part of a well-formed request. Levels outside the line set are ignored (R20), and so are lines
of a sense set (R8). -/
def kind (a : Args) : RequestKind :=
  match kindCode a with
  | 0 => .drive ((driveTypeOf (argByte a 0x05)).getD .pushPull) (argSet a 0x0C &&& lines a) (driveSafe a)
  | 1 => .pattern
      { drive := (driveTypeOf (argByte a 0x05)).getD .pushPull, steps := steps a, loops := loops a,
        safe := patternSafe a }
  | 2 => .watch ((pullOf (argByte a 0x05)).getD .none) (argSet a 0x0C &&& lines a) (argSet a 0x0E &&& lines a)
  | _ => .guard
      { conditions := conditions a, hold := hold a, action := action a, recallSpec := recallSpec a } (armed a)

/-- The rows of R22's table that every kind has. -/
def commonFaults (a : Args) : List Bool :=
  [4 ≤ kindCode a, !pinned a && decide (Config.maxUnits < term a), Config.maxUnits < waitLimit a]

/-- The rows of R22's table for DRIVE. -/
def driveFaults (a : Args) : List Bool := [lines a == 0#16, (driveTypeOf (argByte a 0x05)).isNone]

/-- The rows of R22's table for PATTERN. -/
def patternFaults (a : Args) : List Bool :=
  [lines a == 0#16, (driveTypeOf (argByte a 0x05)).isNone, stepCount a == 0 || decide (6 < stepCount a),
    (steps a).any fun st => st.duration == 0]

/-- The rows of R22's table for WATCH. -/
def watchFaults (a : Args) : List Bool := [lines a == 0#16, (pullOf (argByte a 0x05)).isNone]

/-- The rows of R22's table for GUARD, asked by port `p`. -/
def guardFaults (p : Port) (a : Args) : List Bool :=
  [1 < countLines (lines a),
    conditionCount a == 0 || decide (4 < conditionCount a),
    (conditionBytes a).any fun e => decide (15 < e.1) || decide (1 < e.2),
    !decide ((conditionBytes a).map (·.1)).Nodup,
    (conditions a).any fun c => has (lines a) c.line,
    hold a == 0 || decide (Config.maxHold < hold a),
    (lines a != 0#16) && (pulseWidth a == 0 || decide (1 < pulseLevel a)),
    recallPresent a && decide (3 < recallTarget a),
    recallPresent a && recallTarget a == p.val,
    recallPresent a && decide (Config.maxUnits < quietTime a)]

/-- The faults of R22 that a request has. -/
def faults (p : Port) (a : Args) : List Bool :=
  commonFaults a ++
    match kindCode a with
    | 0 => driveFaults a
    | 1 => patternFaults a
    | 2 => watchFaults a
    | _ => guardFaults p a

/-- The request of the argument bytes. -/
def read (a : Args) : Request :=
  { kind := kind a, lines := lines a, term := term a, pinned := pinned a, waitLimit := waitLimit a }

end Req

/-! ## Writing result bytes (R175) -/

/-- A one-byte field. -/
def b1 (n : Nat) : List Byte := [BitVec.ofNat 8 n]

/-- A two-byte field, most significant byte first. -/
def b2 (n : Nat) : List Byte := [BitVec.ofNat 8 (n / 256), BitVec.ofNat 8 n]

/-- A line set or level mask. -/
def bSet (ls : LineSet) : List Byte := b2 ls.toNat

/-- A yes/no field. -/
def bFlag (b : Bool) : List Byte := b1 b.toNat

/-- A one-byte field that may be absent: absent reads 0xFF. -/
def b1? (x : Option Nat) : List Byte := b1 (x.getD 0xFF)

/-- A two-byte field that may be absent: absent reads 0xFFFF. -/
def b2? (x : Option Nat) : List Byte := b2 (x.getD 0xFFFF)

/-- A ticket that may be absent: absent reads 0. -/
def bTicket? (x : Option Byte) : List Byte := [x.getD 0#8]

/-- A handle. -/
def bHandle (h : Handle) : List Byte := b1 h.slot.val ++ [h.gen]

/-- A handle that may be absent: a two-byte field. -/
def bHandle? (h : Option Handle) : List Byte :=
  match h with
  | some h => bHandle h
  | none => b2 0xFFFF

/-- A level as a byte. -/
def bLevel (v : Level) : List Byte := b1 v.toNat

/-- A level list in a result (R176, R177). -/
def bLevelList (lines : LineSet) (levels : Levels) : List Byte :=
  if levelListSize lines = 1 then b1 (gatherLevels lines levels) else b2 (gatherLevels lines levels)

/-- The 24 result bytes: 0 in every byte the command does not use (R172). -/
def padResult (l : List Byte) : Vector Byte 24 := vtab fun i => l.getD i.val 0#8

/-! ## Codes (R175) -/

def LeaseState.code : LeaseState → Nat
  | .active => 1
  | .handover _ _ => 2
  | .grace _ => 3
  | .retiring _ => 4
  | .closed _ => 5

def CloseReason.code : CloseReason → Nat
  | .released => 1
  | .expired => 2
  | .revoked => 3
  | .recalled => 4
  | .fault => 5
  | .portReset => 6

def KindParams.code : KindParams → Nat
  | .drive _ _ _ => 0
  | .pattern _ _ => 1
  | .watch _ _ _ _ => 2
  | .guard _ _ _ => 3

def RequestKind.code : RequestKind → Nat
  | .drive _ _ _ => 0
  | .pattern _ => 1
  | .watch _ _ _ => 2
  | .guard _ _ => 3

def DriveType.code : DriveType → Nat
  | .pushPull => 0
  | .openDrain => 1

def Pull.code : Pull → Nat
  | .none => 0
  | .up => 1
  | .down => 2

def RestMode.code : RestMode → Nat
  | .hiZ => 0
  | .pullUp => 1
  | .pullDown => 2
  | .driveLow => 3
  | .driveHigh => 4

def FaultPolicy.code : FaultPolicy → Nat
  | .hold => 0
  | .retire => 1

def Substate.code : Substate → Nat
  | .disarmed => 0
  | .armed => 1
  | .holding _ => 2
  | .firing _ => 3
  | .spent => 4
  | .suspended => 5

def PatternPhase.code : PatternPhase → Nat
  | .running _ _ => 0
  | .paused _ => 1
  | .done => 2

def RecallOutcome.code : RecallOutcome → Nat
  | .none => 0
  | .done => 1
  | .dropped => 2

end Sys2Proof.Machine
end

