-- ==== Sys2Proof/Machine/Flags.lean ====
section
/-! DEFINITION. Status codes, notice kinds, notice maps, attention lines and PORT_INFO (chapters 9 and 10). -/

namespace Sys2Proof.Machine

/-- The status codes of R172. -/
def Status.code : Status → Byte
  | .idle => 0x00#8
  | .ok => 0x01#8
  | .queued => 0x02#8
  | .unknownCommand => 0x10#8
  | .badArgument => 0x11#8
  | .notAdmin => 0x12#8
  | .badHandle => 0x13#8
  | .wrongState => 0x14#8
  | .wrongKind => 0x15#8
  | .notPermitted => 0x16#8
  | .outOfCharter => 0x17#8
  | .portLimit => 0x18#8
  | .portQuiet => 0x19#8
  | .tableFull => 0x1A#8
  | .queueFull => 0x1B#8
  | .linesBusy => 0x1C#8
  | .noChannel => 0x1D#8
  | .notOffered => 0x1E#8
  | .noSuchTicket => 0x1F#8
  | .noNotice => 0x20#8
  | .portWasReset => 0x30#8

/-! ## Kinds, in the encoding of R178 -/

namespace PortKind
def recalled : KindSet := 0x0001#16
def quietEnded : KindSet := 0x0002#16
def charterChanged : KindSet := 0x0004#16
/-- The kinds of the port subject. -/
def all : KindSet := 0x0007#16
end PortKind

namespace LineKind
def restFault : KindSet := 0x0001#16
def all : KindSet := 0x0001#16
end LineKind

namespace SlotKind
def granted : KindSet := 0x0001#16
def termLow : KindSet := 0x0002#16
def graceEntered : KindSet := 0x0004#16
def retired : KindSet := 0x0008#16
def revoked : KindSet := 0x0010#16
def edge : KindSet := 0x0020#16
def patternDone : KindSet := 0x0040#16
def lineFault : KindSet := 0x0080#16
def guardFired : KindSet := 0x0100#16
def charterNarrowed : KindSet := 0x0200#16
def offerReceived : KindSet := 0x0400#16
def offerDeclined : KindSet := 0x0800#16
def offerLapsed : KindSet := 0x1000#16
def offerWithdrawn : KindSet := 0x2000#16
def offerCancelled : KindSet := 0x4000#16
def handedOver : KindSet := 0x8000#16
def all : KindSet := 0xFFFF#16
end SlotKind

namespace TicketKind
def waitExpired : KindSet := 0x0001#16
def waitRefused : KindSet := 0x0002#16
def waitCancelled : KindSet := 0x0004#16
def all : KindSet := 0x0007#16
end TicketKind

/-- The detail part a post carries (R152, R153). -/
inductive Detail where
  | none
  | reason (r : CloseReason)
  | outcome (o : RecallOutcome)
  | origin (ticket : Byte)
  deriving DecidableEq, Repr

/-! ## Notice maps (R152 to R158) -/

/-- The detail part is written; the other parts stay (R153). -/
def SlotNotice.addDetail (e : SlotNotice) : Detail → SlotNotice
  | .none => e
  | .reason r => { e with reason := some r }
  | .outcome o => { e with outcome := some o }
  | .origin t => { e with origin := some t }

/-- A slot entry with one kind (R153). -/
def SlotNotice.fresh (gen : Byte) (kind : KindSet) (d : Detail) : SlotNotice :=
  { gen := gen, kinds := kind, reason := none, outcome := none, origin := none : SlotNotice }.addDetail d

/-- A post on the port subject. -/
def NoticeMap.postPort (m : NoticeMap) (kind : KindSet) : NoticeMap := { m with port := m.port ||| kind }

/-- A post on a line subject: REST_FAULT is its one kind. -/
def NoticeMap.postLine (m : NoticeMap) (n : Line) : NoticeMap := { m with lines := m.lines ||| single n }

/-- A post on a slot subject for the record with generation `gen`: it joins the entry of the same handle,
and replaces an entry of another (R153, R154). -/
def NoticeMap.postSlot (m : NoticeMap) (k : Slot) (gen : Byte) (kind : KindSet) (d : Detail) : NoticeMap :=
  let entry :=
    match vget m.slots k with
    | some e => if e.gen = gen then { e with kinds := e.kinds ||| kind : SlotNotice }.addDetail d
                else SlotNotice.fresh gen kind d
    | none => SlotNotice.fresh gen kind d
  { m with slots := vset m.slots k (some entry) }

/-- Ticket entries stand in the order their tickets were issued (R156). -/
def insertTicket (e : TicketNotice) : List TicketNotice → List TicketNotice
  | [] => [e]
  | x :: xs =>
    if x.ticket = e.ticket then { x with kinds := x.kinds ||| e.kinds } :: xs
    else if e.arrival < x.arrival then e :: x :: xs
    else x :: insertTicket e xs

/-- A post on a ticket subject. -/
def NoticeMap.postTicket (m : NoticeMap) (ticket : Byte) (arrival : Nat) (kind : KindSet) : NoticeMap :=
  { m with tickets := insertTicket { ticket := ticket, kinds := kind, arrival := arrival } m.tickets }

/-- The number of slot entries. -/
def NoticeMap.slotCount (m : NoticeMap) : Nat :=
  ((List.finRange 24).filter fun k => (vget m.slots k).isSome).length

/-- The number of entries in the map, NOTICE_COUNT (R164). -/
def NoticeMap.count (m : NoticeMap) : Nat :=
  (if m.port = 0#16 then 0 else 1) + countLines m.lines + m.slotCount + m.tickets.length

/-- The map holds at least one entry. -/
def NoticeMap.nonEmpty (m : NoticeMap) : Bool := decide (0 < m.count)

/-- The kinds leave the entry, with the detail parts they carry (R158); `none` when no kind is left. -/
def SlotNotice.remove (e : SlotNotice) (kinds : KindSet) : Option SlotNotice :=
  let left := e.kinds &&& ~~~kinds
  if left = 0#16 then none
  else some
    { e with
      kinds := left
      reason := if left &&& SlotKind.retired = 0#16 then none else e.reason
      outcome := if left &&& SlotKind.guardFired = 0#16 then none else e.outcome
      origin := if left &&& SlotKind.granted = 0#16 then none else e.origin }

/-- The kinds leave the entry of a slot subject if it has this generation; an entry without kinds goes. -/
def NoticeMap.removeSlot (m : NoticeMap) (k : Slot) (gen : Byte) (kinds : KindSet) : NoticeMap :=
  match vget m.slots k with
  | some e => if e.gen = gen then { m with slots := vset m.slots k (e.remove kinds) } else m
  | none => m

/-- The kinds leave a ticket entry; an entry without kinds goes (R160). -/
def NoticeMap.removeTicket (m : NoticeMap) (ticket : Byte) (kinds : KindSet) : NoticeMap :=
  { m with
    tickets := m.tickets.filterMap fun e =>
      if e.ticket = ticket then
        (if e.kinds &&& ~~~kinds = 0#16 then none else some { e with kinds := e.kinds &&& ~~~kinds })
      else some e }

/-- The entry of a ticket subject. -/
def NoticeMap.ticket? (m : NoticeMap) (ticket : Byte) : Option TicketNotice :=
  m.tickets.find? fun e => e.ticket = ticket

/-- The four subject types with what identifies the subject (R152). -/
inductive Subject where
  | port
  | line (n : Line)
  | slot (k : Slot)
  | ticket (t : Byte)
  deriving DecidableEq, Repr

/-- The subjects with an entry, in the order of R156. -/
def NoticeMap.subjects (m : NoticeMap) : List Subject :=
  (if m.port = 0#16 then [] else [.port]) ++ (linesOf m.lines).map .line
    ++ ((List.finRange 24).filter fun k => (vget m.slots k).isSome).map .slot
    ++ m.tickets.map fun e => .ticket e.ticket

/-! ## What the port shows of the part's state -/

/-- A port is quiet while its quiet remaining is above 0 (R50). -/
def PortRec.quietRemaining (r : PortRec) : Nat := r.quiet.getD 0

def State.isQuiet (s : State) (p : Port) : Bool := decide (0 < (s.portRec p).quietRemaining)

/-- ATTn is asserted if and only if the map is not empty and RSTN is not asserted (R163). -/
def attention (s : State) (p : Port) : Bool := !s.rstnAsserted && (s.map p).nonEmpty

/-- PORT_INFO: the port number, the quiet bit and the notices-pending bit (R173). -/
def portInfo (s : State) (p : Port) : Byte :=
  BitVec.ofNat 8 (p.val + (if s.isQuiet p then 4 else 0) + (if (s.map p).nonEmpty then 8 else 0))

/-- The port is busy in PENDING and EXECUTING; GO reads 1 (R169). -/
def Window.busy (w : Window) : Bool := w.phase != .idle

/-- The byte a read sees at a window offset (section 10.1). -/
def windowByte (s : State) (p : Port) (off : Nat) : Byte :=
  let w := s.window p
  if off = 0x00 then w.command
  else if off = 0x01 then BitVec.ofNat 8 w.busy.toNat
  else if off = 0x02 then w.status.code
  else if off = 0x03 then w.sequence
  else if off < 0x24 then argByte w.args off
  else if h : off - 0x24 < 24 then w.result[off - 0x24]
  else if off = 0x3C then portInfo s p
  else if off = 0x3D then BitVec.ofNat 8 (s.map p).count
  else if off = 0x3E then Config.partCode
  else Config.revision

/-- The copy of the 64 window bytes (R167). -/
def windowCopy (s : State) (p : Port) : Vector Byte 64 := vtab fun i => windowByte s p i.val

end Sys2Proof.Machine
end

