-- ==== Sys2Proof/Machine/LineBank.lean ====
section
/-! DEFINITION. The line bank (chapter 7): what a pad shows, who may set its level, and when its checks
start afresh. -/

namespace Sys2Proof.Machine

/-- ACTIVE, HANDOVER and GRACE are the live states (R10). -/
def LeaseState.live : LeaseState → Bool
  | .active | .handover _ _ | .grace _ => true
  | .retiring _ | .closed _ => false

/-- ACTIVE or HANDOVER. -/
def LeaseState.working : LeaseState → Bool
  | .active | .handover _ _ => true
  | .grace _ | .retiring _ | .closed _ => false

def LeaseState.isActive : LeaseState → Bool
  | .active => true
  | .handover _ _ | .grace _ | .retiring _ | .closed _ => false

def LeaseState.isGrace : LeaseState → Bool
  | .grace _ => true
  | .active | .handover _ _ | .retiring _ | .closed _ => false

/-- The lease that the held-by entry of a line names, with its slot (R11). -/
def holding (s : State) (n : Line) : Option (Slot × Lease) :=
  match vget s.heldBy n with
  | some k => (s.lease k).map fun l => (k, l)
  | none => none

/-- The applied configurations of R123. Push-pull and open-drain outputs carry their level. -/
inductive AppliedConfig where
  | highImpedance
  | pullUp
  | pullDown
  | pushPull (level : Level)
  | openDrain (level : Level)
  deriving DecidableEq, Repr

/-- An output with a drive type (R104). -/
def outputConfig (t : DriveType) (v : Level) : AppliedConfig :=
  match t with
  | .pushPull => .pushPull v
  | .openDrain => .openDrain v

/-- The kind's configuration of R124 with the cell's assigned level. A WATCH pull NONE leaves the line to
the outside, which is high impedance (DEDUCED, log entry 17). Safe. -/
def kindConfig (params : KindParams) (assigned : Option Level) : AppliedConfig :=
  match params, assigned with
  | .drive t _ _, some v => outputConfig t v
  | .pattern spec _, some v => outputConfig spec.drive v
  | .guard _ _ _, some v => .pushPull v
  | .watch .up _ _ _, _ => .pullUp
  | .watch .down _ _ _, _ => .pullDown
  | .watch .none _ _ _, _ => .highImpedance
  | .drive _ _ _, none => .highImpedance
  | .pattern _ _, none => .highImpedance
  | .guard _ _ _, none => .highImpedance

/-- The rest configuration of R126, or high impedance while the rest-fault flag is set. -/
def restConfig (f : Profile) : AppliedConfig :=
  if f.restFault then .highImpedance
  else
    match f.rest with
    | .hiZ => .highImpedance
    | .pullUp => .pullUp
    | .pullDown => .pullDown
    | .driveLow => .pushPull false
    | .driveHigh => .pushPull true

/-- The live lease that holds the line, if one does. -/
def liveHolding (s : State) (n : Line) : Option (Slot × Lease) :=
  (holding s n).filter fun e => e.2.state.live

/-- The choice of R123, made from its inputs. -/
def appliedConfig (s : State) (n : Line) : AppliedConfig :=
  if s.rstnAsserted then .highImpedance
  else
    match liveHolding s n with
    | some (_, l) => if has l.faults n then .highImpedance else kindConfig l.params (s.cell n).assigned
    | none => restConfig (s.profile n)

/-- The level that a configuration drives (R104, R133). -/
def AppliedConfig.driven : AppliedConfig → Option Level
  | .pushPull v => some v
  | .openDrain false => some false
  | .openDrain true | .highImpedance | .pullUp | .pullDown => none

/-- The driven level of a line that the comparator checks: a held line always, a line at rest when its
profile's fault check is on (R133). -/
def checkedLevel (s : State) (n : Line) : Option Level :=
  if (liveHolding s n).isSome || (s.profile n).faultCheck then (appliedConfig s n).driven else none

/-- The mismatch count restarts on every line whose configuration, driven level or checking the step has
changed (R133). -/
def restartChecks (before after : State) : State :=
  { after with
    cells := vmap (fun n c =>
      if appliedConfig before n = appliedConfig after n ∧ checkedLevel before n = checkedLevel after n then c
      else { c with mismatch := 0 }) after.cells }

/-- The cells of a set of lines are rewritten. -/
def State.mapCells (s : State) (lines : LineSet) (f : Line → Cell → Cell) : State :=
  { s with cells := vmap (fun n c => if has lines n then f n c else c) s.cells }

/-- The drive-fault check of the lines starts afresh (R28, R120, R133). -/
def restartLines (lines : LineSet) (s : State) : State := s.mapCells lines fun _ c => { c with mismatch := 0 }

/-- A level sent for a lease is applied on the lines whose held-by entry names its slot, while the slot
holds the handle and the lease is in a state its source may act in; otherwise it is void (R125). A change
of the driven level restarts the mismatch count. -/
def applyLevels (h : Handle) (mayAct : Lease → Bool) (levels : Line → Level) (s : State) : State :=
  match s.lease h.slot with
  | some l =>
    if s.handle h.slot = h ∧ mayAct l then
      restartChecks s
        { s with
          cells := vmap (fun n c =>
            if vget s.heldBy n = some h.slot ∧ has l.lines n then { c with assigned := some (levels n) } else c)
            s.cells }
    else s
  | none => s

/-- Settle-complete is due: a tick has been counted and every line of the retirement has reached 0 (R60). -/
def settleDue (s : State) (r : Settling) : Bool :=
  r.ticked && (linesOf r.lines).all fun n => (s.cell n).settle == 0

/-- The line bank sends settle-complete when the last countdown has reached 0 (R60, R132). -/
def settleEnd (k : Slot) (s : State) : State :=
  match vget s.settling k with
  | some r =>
    if settleDue s r then
      { s with settling := vset s.settling k none }.report (.settleComplete { slot := k, gen := r.gen })
    else s
  | none => s

/-- A 1 ms tick at the settle countdowns of one retirement (R60). -/
def settleTick (k : Slot) (s : State) : State :=
  match vget s.settling k with
  | some r =>
    settleEnd k
      { s.mapCells r.lines (fun _ c => { c with settle := c.settle - 1 }) with
        settling := vset s.settling k (some { r with ticked := true }) }
  | none => s

/-- The count has reached 4: a drive fault is declared and the count returns to 0. On a held line it makes
a fault report (R134). On a line at rest it sets the rest-fault flag, which puts the line at high impedance,
and makes a rest-fault report (R135). -/
def driveFaultEnd (n : Line) (s : State) : State :=
  if Config.faultSamples ≤ (s.cell n).mismatch then
    let s := s.setCell n { s.cell n with mismatch := 0 }
    match liveHolding s n with
    | some (k, _) => s.report (.fault (s.handle k) n)
    | none => (s.setProfile n { s.profile n with restFault := true }).report (.restFault n)
  else s

end Sys2Proof.Machine
end

