-- ==== Sys2Proof/Machine/GuardMonitor.lean ====
section
/-! DEFINITION. The guard monitor (chapter 5): the guard channels, and the debounced changes that reach
them from the line bank. -/

namespace Sys2Proof.Machine

/-- A condition is true when the debounced level of its line equals its required level (R83). -/
def Condition.holds (s : State) (c : Condition) : Bool := (s.cell c.line).debounced == c.level

/-- The combination is true when every condition is (R83). -/
def combination (s : State) (cs : List Condition) : Bool := cs.all (Condition.holds s)

/-- The hold countdown of a fresh hold, in ms (R84). -/
def holdMs (g : GuardChannel) : Nat := Config.msPerUnit * g.hold

/-- What a guard does with the present combination once it has become true or false: ARMED starts the hold,
HOLDING and SPENT return to ARMED (R84). -/
def GuardChannel.react (g : GuardChannel) (now : Bool) : GuardChannel :=
  match g.substate, now with
  | .armed, true => { g with substate := .holding (holdMs g) }
  | .holding _, false => { g with substate := .armed }
  | .spent, false => { g with substate := .armed }
  | .armed, false | .holding _, true | .spent, true => g
  | .disarmed, _ | .firing _, _ | .suspended, _ => g

/-- DISARMED when not armed, SPENT when the combination is true, ARMED otherwise (R28, R54, R89). -/
def startSubstate (armed combinationTrue : Bool) : Substate :=
  if !armed then .disarmed else if combinationTrue then .spent else .armed

/-- A debounced change of line `n` reaches one guard channel (R84). -/
def guardSees (n : Line) (g : GuardChan) (s : State) : State :=
  match vget s.guardChans g with
  | some ch =>
    if ch.conditions.any fun c => c.line == n then
      s.setGuardChan g (some (ch.react (combination s ch.conditions)))
    else s
  | none => s

/-- The line bank passes a debounced change to every guard channel that observes the line (R131). -/
def tellGuards (n : Line) (s : State) : State :=
  (List.finRange 4).foldl (fun s g => guardSees n g s) s

/-- The line bank sends an edge report when a WATCH lease in a live state holds the line (R113, R131). -/
def sendEdge (n : Line) (s : State) : State :=
  match liveHolding s n with
  | some (k, l) =>
    match l.params with
    | .watch _ _ _ _ => s.report (.edge (s.handle k) n (s.cell n).debounced)
    | .drive _ _ _ | .pattern _ _ | .guard _ _ _ => s
  | none => s

/-- The debounced level of a line changes, and the change goes to the guard monitor and as an edge report
(R130, R131). -/
def debouncedTo (n : Line) (v : Level) (s : State) : State :=
  sendEdge n (tellGuards n (s.setCell n { s.cell n with debounced := v, stability := 0 }))

/-- A sample of line `n` at its debounce filter (R130). -/
def debounceSample (n : Line) (v : Level) (s : State) : State :=
  let c := s.cell n
  if v = c.debounced then s.setCell n { c with stability := 0 }
  else if c.stability < (s.profile n).debounce then s.setCell n { c with stability := c.stability + 1 }
  else debouncedTo n v s

/-- A sample of line `n` at its drive-fault comparator (R133). -/
def compareSample (n : Line) (v : Level) (s : State) : State :=
  let c := s.cell n
  driveFaultEnd n <|
    match checkedLevel s n with
    | some d => s.setCell n { c with mismatch := if d = v then 0 else c.mismatch + 1 }
    | none => s.setCell n { c with mismatch := 0 }

/-- The level a guard's action line shows while no pulse runs (R83). -/
def Action.idle (a : Action) : Level := !a.pulseLevel

/-- A guard's level on its action line is applied while the lease is ACTIVE (R125). -/
def sendAction (ch : GuardChannel) (v : Action → Level) (s : State) : State :=
  match ch.action with
  | some a => applyLevels ch.handle (fun l => l.state.isActive) (fun _ => v a) s
  | none => s

/-- The hold countdown has reached 0: the guard fires (R86). -/
def guardFireEnd (g : GuardChan) (s : State) : State :=
  match vget s.guardChans g with
  | some ch =>
    match ch.substate with
    | .holding 0 =>
      let next : Substate := match ch.action with
        | some a => .firing (Config.msPerUnit * a.pulseWidth)
        | none => .spent
      (sendAction ch (·.pulseLevel) (s.setGuardChan g (some { ch with substate := next }))).report
        (.fire ch.handle ch.recallAttached)
    | .holding (_ + 1) | .disarmed | .armed | .firing _ | .spent | .suspended => s
  | none => s

/-- The pulse countdown has reached 0: the action line returns to idle, and the guard goes to SPENT or
ARMED (R87). -/
def pulseEndStep (g : GuardChan) (s : State) : State :=
  match vget s.guardChans g with
  | some ch =>
    match ch.substate with
    | .firing 0 =>
      sendAction ch Action.idle
        (s.setGuardChan g (some { ch with substate := startSubstate true (combination s ch.conditions) }))
    | .firing (_ + 1) | .disarmed | .armed | .holding _ | .spent | .suspended => s
  | none => s

/-- A 1 ms tick at a guard channel (R85, R87). -/
def guardTick (g : GuardChan) (s : State) : State :=
  match vget s.guardChans g with
  | some ch =>
    match ch.substate with
    | .holding n => guardFireEnd g (s.setGuardChan g (some { ch with substate := .holding (n - 1) }))
    | .firing n => pulseEndStep g (s.setGuardChan g (some { ch with substate := .firing (n - 1) }))
    | .disarmed | .armed | .spent | .suspended => s
  | none => s

/-- The channel leaves its present substate for another; a pulse in progress is cut (R89 to R92). -/
def leaveFor (g : GuardChan) (ch : GuardChannel) (next : Option GuardChannel) (s : State) : State :=
  let s := s.setGuardChan g next
  match ch.substate with
  | .firing _ => sendAction ch Action.idle s
  | .disarmed | .armed | .holding _ | .spent | .suspended => s

/-- The channel after a set-up (R28): its first substate follows the combination at the engine's step, and
it then takes the change that came before it took the instruction, if one did (log entry 10). -/
def GuardChannel.ofSetup (s : State) (h : Handle) (spec : GuardSpec) (armed combinationThen : Bool) : GuardChannel :=
  { handle := h, conditions := spec.conditions, hold := spec.hold, action := spec.action,
    recallAttached := spec.recallSpec.isSome, substate := startSubstate armed combinationThen
    : GuardChannel }.react (combination s spec.conditions)

/-- A guard channel takes one instruction of the lease engine. A free channel takes a set-up alone. -/
def takeGuardInstr (g : GuardChan) (i : GuardInstr) (s : State) : State :=
  match i, vget s.guardChans g with
  | .setup h spec armed comb, _ => s.setGuardChan g (some (GuardChannel.ofSetup s h spec armed comb))
  | .arm, some ch =>
    if ch.substate = .disarmed then
      s.setGuardChan g (some { ch with substate := startSubstate true (combination s ch.conditions) })
    else s
  | .disarm, some ch =>
    if ch.substate = .suspended then s else leaveFor g ch (some { ch with substate := .disarmed }) s
  | .suspend, some ch => leaveFor g ch (some { ch with substate := .suspended }) s
  | .unsuspend armed comb, some ch =>
    if ch.substate = .suspended then
      s.setGuardChan g
        (some ({ ch with substate := startSubstate armed comb : GuardChannel }.react (combination s ch.conditions)))
    else s
  | .free, some ch => leaveFor g ch none s
  | .arm, none | .disarm, none | .suspend, none | .unsuspend _ _, none | .free, none => s

/-- The instruction at the front of those sent to the channel is taken if it is of the wanted sort. -/
def takeGuardFront (g : GuardChan) (wanted : GuardInstr → Bool) (s : State) : State :=
  match vget s.guardInbox g with
  | i :: rest =>
    if wanted i then takeGuardInstr g i { s with guardInbox := vset s.guardInbox g rest } else s
  | [] => s

end Sys2Proof.Machine
end

