-- ==== Sys2Proof/Machine/Sequencer.lean ====
section
/-! DEFINITION. The pattern sequencer (chapter 6). -/

namespace Sys2Proof.Machine

/-- The levels of a step. -/
def levelsOfStep (steps : List PatternStep) (i : Nat) : Levels := (steps[i]?.map (·.levels)).getD 0#16

/-- The duration of a step. -/
def durationOfStep (steps : List PatternStep) (i : Nat) : Nat := (steps[i]?.map (·.duration)).getD 0

/-- Loops remaining of a program not yet begun: endless for a loop count of 0 (R107). -/
def fullLoops (loops : Nat) : Option Nat := if loops = 0 then none else some loops

/-- A step's levels are applied while the lease is ACTIVE or HANDOVER (R125). -/
def sendStep (ch : PatternChannel) (s : State) : State :=
  applyLevels ch.handle (fun l => l.state.working) (fun n => has (levelsOfStep ch.steps ch.step) n) s

/-- Step `i` begins: its countdown is its duration and its levels are sent (R108). -/
def beginStep (c : PatChan) (ch : PatternChannel) (i : Nat) (loopsLeft : Option Nat) (s : State) : State :=
  let ch := { ch with step := i, phase := .running (durationOfStep ch.steps i) loopsLeft }
  sendStep ch (s.setPatChan c (some ch))

/-- The channel enters DONE and sends a pattern-done report (R109). -/
def patternDone (c : PatChan) (ch : PatternChannel) (s : State) : State :=
  (s.setPatChan c (some { ch with phase := .done })).report (.patternDone ch.handle)

/-- A step countdown has reached 0: the next step, the next loop or DONE follows (R108). -/
def stepEndStep (c : PatChan) (s : State) : State :=
  match vget s.patChans c with
  | some ch =>
    match ch.phase with
    | .running 0 loopsLeft =>
      if ch.step + 1 < ch.steps.length then beginStep c ch (ch.step + 1) loopsLeft s
      else
        match loopsLeft with
        | none => beginStep c ch 0 none s
        | some n => if 1 < n then beginStep c ch 0 (some (n - 1)) s else patternDone c ch s
    | .running (_ + 1) _ | .paused _ | .done => s
  | none => s

/-- A 1 ms tick at a pattern channel (R108). -/
def patternTick (c : PatChan) (s : State) : State :=
  match vget s.patChans c with
  | some ch =>
    match ch.phase with
    | .running n loopsLeft => stepEndStep c (s.setPatChan c (some { ch with phase := .running (n - 1) loopsLeft }))
    | .paused _ | .done => s
  | none => s

/-- The safe levels of a lease, if its kind has them and the request gave them (R6, R7). -/
def KindParams.safe : KindParams → Option Levels
  | .drive _ _ safe => safe
  | .pattern spec _ => spec.safe
  | .watch _ _ _ _ | .guard _ _ _ => none

/-- A pattern channel takes one instruction of the lease engine (R107, R110, R112). The levels handed with
a pause are applied while the lease is in GRACE and its record has no safe levels (R110, R125). -/
def takePatternInstr (c : PatChan) (i : PatternInstr) (s : State) : State :=
  match i, vget s.patChans c with
  | .setup h spec, _ =>
    s.setPatChan c (some
      { handle := h, drive := spec.drive, steps := spec.steps, loops := spec.loops, step := 0,
        phase := .running (durationOfStep spec.steps 0) (fullLoops spec.loops) })
  | .pause, some ch =>
    match ch.phase with
    | .running _ loopsLeft =>
      applyLevels ch.handle (fun l => l.state.isGrace && l.params.safe.isNone)
        (fun n => has (levelsOfStep ch.steps ch.step) n)
        (s.setPatChan c (some { ch with phase := .paused loopsLeft }))
    | .paused _ | .done => s
  | .resume, some ch =>
    match ch.phase with
    | .paused loopsLeft => beginStep c ch ch.step loopsLeft s
    | .running _ _ | .done => s
  | .restart, some ch =>
    match ch.phase with
    | .running _ _ | .done => beginStep c ch 0 (fullLoops ch.loops) s
    | .paused _ => s
  | .free, some _ => s.setPatChan c none
  | .pause, none | .resume, none | .restart, none | .free, none => s

/-- The instruction at the front of those sent to the channel is taken if it is of the wanted sort. -/
def takePatternFront (c : PatChan) (wanted : PatternInstr → Bool) (s : State) : State :=
  match vget s.patInbox c with
  | i :: rest =>
    if wanted i then takePatternInstr c i { s with patInbox := vset s.patInbox c rest } else s
  | [] => s

end Sys2Proof.Machine
end

