-- ==== Sys2Proof/Machine/Ops.lean ====
section
/-! DEFINITION. The lease engine's shared operations: posts, grants, scans, retirement, the state changes of
leases, and how a command is taken and completed. -/

namespace Sys2Proof.Machine

/-! ## Loops over the table -/

/-- An operation on every slot in turn. -/
def forSlots (f : Slot → State → State) (s : State) : State := (List.finRange 24).foldl (fun s k => f k s) s

/-- An operation on every port in turn. -/
def forPorts (f : Port → State → State) (s : State) : State := (List.finRange 4).foldl (fun s p => f p s) s

/-- The first check that fails gives the answer (the tables of chapters 2 to 9). -/
def firstFailure {α : Type} : List (Bool × α) → Option α
  | [] => none
  | (failed, answer) :: rest => if failed then some answer else firstFailure rest

/-! ## Posts (R153) -/

def postPort (p : Port) (kind : KindSet) (s : State) : State := s.setMap p ((s.map p).postPort kind)

/-- REST_FAULT goes to P0 (R135). -/
def postLine (n : Line) (s : State) : State := s.setMap 0 ((s.map 0).postLine n)

/-- A slot post names the handle of the record the slot holds at that moment. -/
def postSlot (p : Port) (k : Slot) (kind : KindSet) (d : Detail) (s : State) : State :=
  s.setMap p ((s.map p).postSlot k (s.handle k).gen kind d)

def postTicket (e : QueueEntry) (kind : KindSet) (s : State) : State :=
  s.setMap e.port ((s.map e.port).postTicket e.ticket e.arrival kind)

/-- Kinds leave a slot entry of a port's map without an acknowledgment (R161). -/
def dropSlotKinds (p : Port) (k : Slot) (kinds : KindSet) (s : State) : State :=
  s.setMap p ((s.map p).removeSlot k (s.handle k).gen kinds)

/-! ## Handles (R3) -/

/-- The first three checks of R3. -/
def checkHandle (s : State) (slot gen : Byte) : Except Status (Slot × Lease) :=
  match slotOf slot with
  | none => .error .badArgument
  | some k =>
    match s.lease k with
    | none => .error .badHandle
    | some l => if (s.handle k).gen = gen then .ok (k, l) else .error .badHandle

/-- The four checks of R3 for a holder command. -/
def checkHolder (s : State) (p : Port) (slot gen : Byte) : Except Status (Slot × Lease) :=
  match checkHandle s slot gen with
  | .error e => .error e
  | .ok (k, l) => if l.holder = p then .ok (k, l) else .error .badHandle

/-! ## Charters (R23, R140) -/

/-- The lines of a request's conditions. -/
def observedLines (cs : List Condition) : LineSet := setOf (cs.map (·.line))

/-- The three conditions of R23. -/
def permits (c : Charter) (r : Request) : Bool :=
  subset r.lines c.lines && (!r.pinned || c.mayPin)
    && match r.kind with
      | .guard spec _ => subset (observedLines spec.conditions) c.lines && c.mayGuard
      | .drive _ _ _ | .pattern _ | .watch _ _ _ => true

/-- A record fits its holder's charter (R140). -/
def fits (c : Charter) (l : Lease) : Bool :=
  subset l.lines c.lines && (l.term.isSome || c.mayPin)
    && match l.params with
      | .guard spec _ _ => subset (observedLines spec.conditions) c.lines && c.mayGuard
      | .drive _ _ _ | .pattern _ _ | .watch _ _ _ _ => true

/-- A term clamped to the charter's maximum, and whether it was clamped (R53, R71). -/
def clampTerm (c : Charter) (t : Nat) : Nat × Bool := (min t c.maxTerm, decide (c.maxTerm < t))

/-- The term of a grant (R27): the maximum for term 0, else the requested term clamped. -/
def grantTerm (c : Charter) (r : Request) : Nat × Bool :=
  if r.term = 0 then (c.maxTerm, false) else clampTerm c r.term

/-! ## What a grant needs (R25, R36) -/

def lineHeld (s : State) (n : Line) : Bool := (vget s.heldBy n).isSome

def freeSlot? (s : State) : Option Slot := (List.finRange 24).find? fun k => (s.lease k).isNone

def freePat? (s : State) : Option PatChan := (List.finRange 6).find? fun c => !vget s.patTaken c

def freeGuard? (s : State) : Option GuardChan := (List.finRange 4).find? fun g => !vget s.guardTaken g

/-- A channel of the kind is free, for PATTERN and GUARD. -/
def channelFree (s : State) (r : Request) : Bool :=
  match r.kind with
  | .pattern _ => (freePat? s).isSome
  | .guard _ _ => (freeGuard? s).isSome
  | .drive _ _ _ | .watch _ _ _ => true

/-- The entries of a list that ask for the line. -/
def naming (q : List QueueEntry) (n : Line) : List QueueEntry := q.filter fun e => has e.request.lines n

/-- The reasons QUERY_QUEUE reports (R41, R42). -/
inductive Blocked where
  | lines (n : Line)
  | order (n : Line) (older : Option Ticket)
  | slot
  | limit
  | channel
  deriving DecidableEq, Repr

/-- The first grant condition of R36 that a request of port `p` fails, the older waiting entries being
`older`; `none` when it can be granted. -/
def blockedBy (s : State) (older : List QueueEntry) (p : Port) (r : Request) : Option Blocked :=
  match (linesOf r.lines).find? (lineHeld s) with
  | some n => some (.lines n)
  | none =>
    match (linesOf r.lines).find? fun n => !(naming older n).isEmpty with
    | some n =>
      some (.order n ((naming older n).head?.map fun (e : QueueEntry) =>
        ({ port := e.port, number := e.ticket } : Ticket)))
    | none =>
      firstFailure
        [ ((freeSlot? s).isNone, .slot),
          (decide ((s.charter p).leaseLimit ≤ (s.portRec p).occupied), .limit),
          (!channelFree s r, .channel) ]

/-! ## The grant (R4, R27, R28) -/

/-- Generations go 0, 1, ..., 255, 1 (R2). -/
def nextGen (g : Byte) : Byte := if g = 0xFF#8 then 1#8 else g + 1#8

/-- The kind parameters of a grant, with the lowest-numbered free channel (R12). -/
def grantParams (s : State) (r : Request) : KindParams :=
  match r.kind with
  | .drive t lv safe => .drive t lv safe
  | .pattern spec => .pattern spec ((freePat? s).getD 0)
  | .watch pull rising falling => .watch pull rising falling 0#16
  | .guard spec armed => .guard spec armed ((freeGuard? s).getD 0)

/-- The level a line of a new lease starts with (R28, R124). -/
def startLevel (params : KindParams) (n : Line) : Option Level :=
  match params with
  | .drive _ lv _ => some (has lv n)
  | .pattern spec _ => some (has (levelsOfStep spec.steps 0) n)
  | .watch _ _ _ _ => none
  | .guard spec _ _ => spec.action.map Action.idle

/-- The record of a grant (R4). -/
def grantRecord (s : State) (p : Port) (r : Request) (origin : Option Ticket) : Lease :=
  let c := s.charter p
  { holder := p
    lines := r.lines
    params := grantParams s r
    state := .active
    term := if r.pinned then none
            else some { granted := (grantTerm c r).1, remaining := some (grantTerm c r).1 }
    grace := c.grace
    warn := c.warn
    termLow := false
    outOfCharter := false
    origin := origin
    faults := 0#16 }

/-- The channel of a PATTERN or GUARD is taken and told its set-up (R12, R28). -/
def takeChannel (h : Handle) (params : KindParams) (s : State) : State :=
  match params with
  | .pattern spec c => { s with patTaken := vset s.patTaken c true }.tellPattern c (.setup h spec)
  | .guard spec armed g =>
    { s with guardTaken := vset s.guardTaken g true }.tellGuard g
      (.setup h spec armed (combination s spec.conditions))
  | .drive _ _ _ | .watch _ _ _ _ => s

/-- The slot's generation advances and the record is filled in (R2, R4). -/
def fillSlot (k : Slot) (l : Lease) (s : State) : State :=
  { s with slots := vset s.slots k { gen := nextGen (vget s.slots k).gen, lease := some l } }

/-- The slot is written into the held-by entry of every line of the set (R11). -/
def claimLines (k : Slot) (lines : LineSet) (s : State) : State :=
  { s with heldBy := vmap (fun n h => if has lines n then some k else h) s.heldBy }

/-- A port's occupied count rises by one (R13). -/
def raiseCount (p : Port) (s : State) : State :=
  s.setPortRec p { s.portRec p with occupied := (s.portRec p).occupied + 1 }

/-- A port's occupied count falls by one (R13). -/
def lowerCount (p : Port) (s : State) : State :=
  s.setPortRec p { s.portRec p with occupied := (s.portRec p).occupied - 1 }

/-- A grant into slot `k`. -/
def grantInto (k : Slot) (p : Port) (r : Request) (origin : Option Ticket) (s : State) : State :=
  let l := grantRecord s p r origin
  let s := raiseCount p (claimLines k l.lines (fillSlot k l s))
  let s := s.mapCells l.lines fun n c => { c with assigned := startLevel l.params n, mismatch := 0 }
  takeChannel (s.handle k) l.params s

/-! ## Ends of offers and leases -/

/-- The lease returns to ACTIVE with its holder; offered-to and offer remaining go (R5). -/
def endOffer (k : Slot) (s : State) : State :=
  match s.lease k with
  | some l =>
    match l.state with
    | .handover _ _ => s.setLease k { l with state := .active }
    | .active | .grace _ | .retiring _ | .closed _ => s
  | none => s

/-- An open offer ends with OFFER_WITHDRAWN to its target (R47, R75, R77). -/
def withdrawOffer (k : Slot) (s : State) : State :=
  match s.lease k with
  | some l =>
    match l.state with
    | .handover target _ => postSlot target k SlotKind.offerWithdrawn .none (endOffer k s)
    | .active | .grace _ | .retiring _ | .closed _ => s
  | none => s

/-- An offer of the slot's lease to port `t` is cancelled, and its holder is told (R78). -/
def cancelOffer (t : Port) (k : Slot) (s : State) : State :=
  match s.lease k with
  | some l =>
    match l.state with
    | .handover target _ =>
      if target = t then postSlot l.holder k SlotKind.offerCancelled .none (endOffer k s) else s
    | .active | .grace _ | .retiring _ | .closed _ => s
  | none => s

/-- Every offer to port `t` is cancelled (R78). -/
def cancelOffersTo (t : Port) : State → State := forSlots (cancelOffer t)

/-- The channel of a PATTERN or GUARD is freed and told so (R12, R59). -/
def freeChannel (params : KindParams) (s : State) : State :=
  match params with
  | .pattern _ c => { s with patTaken := vset s.patTaken c false }.tellPattern c .free
  | .guard _ _ g => { s with guardTaken := vset s.guardTaken g false }.tellGuard g .free
  | .drive _ _ _ | .watch _ _ _ _ => s

/-- The lines of the lease go to rest and start their settle countdowns (R59, R60). -/
def restLines (k : Slot) (lines : LineSet) (s : State) : State :=
  { s.mapCells lines (fun n c =>
      { c with assigned := none, mismatch := 0, settle := (s.profile n).settle }) with
    settling := vset s.settling k
      (some { gen := (s.handle k).gen, lines := lines, ticked := false }) }

/-- A live lease enters RETIRING (R59). A lease that is not live is left as it is. -/
def retire (k : Slot) (reason : CloseReason) (s : State) : State :=
  match s.lease k with
  | some l =>
    if l.state.live then
      let s := withdrawOffer k s
      let s := s.setLease k { l with state := .retiring reason, faults := 0#16 }
      freeChannel l.params (restLines k l.lines s)
    else s
  | none => s

/-- The slot becomes FREE: its record goes, its generation stays, its holder's count falls (R1, R13). -/
def freeRecord (k : Slot) (s : State) : State :=
  match s.lease k with
  | some l =>
    lowerCount l.holder { s with slots := vset s.slots k { vget s.slots k with lease := none } }
  | none => s

/-! ## GRACE (R48, R54) -/

/-- The level a line shows on entry to GRACE; `none` leaves the level the cell holds (R48, R124). -/
def graceLevel (params : KindParams) (n : Line) : Option Level :=
  match params with
  | .drive _ lv safe => some (has (safe.getD lv) n)
  | .pattern spec _ => spec.safe.map fun lv => has lv n
  | .watch _ _ _ _ => none
  | .guard spec _ _ => spec.action.map Action.idle

/-- The step that a PATTERN's channel is at; step 0 until the channel has taken its set-up. -/
def patternStep (s : State) (h : Handle) (c : PatChan) : Nat :=
  match vget s.patChans c with
  | some ch => if ch.handle = h then ch.step else 0
  | none => 0

/-- The level a line returns to from GRACE; `none` leaves the level the cell holds (R54, R110). -/
def activeLevel (s : State) (h : Handle) (params : KindParams) (n : Line) : Option Level :=
  match params with
  | .drive _ lv _ => some (has lv n)
  | .pattern spec c => some (has (levelsOfStep spec.steps (patternStep s h c)) n)
  | .watch _ _ _ _ => none
  | .guard spec _ _ => spec.action.map Action.idle

/-- The engine writes levels into the cells of a lease's lines; their checks start afresh (R125, R133). -/
def writeLevels (lines : LineSet) (level : Line → Option Level) (s : State) : State :=
  s.mapCells lines fun n c =>
    { c with assigned := (level n).or c.assigned, mismatch := 0 }

/-- The channel is told that its lease has entered GRACE (R48). -/
def tellGrace (params : KindParams) (s : State) : State :=
  match params with
  | .pattern _ c => s.tellPattern c .pause
  | .guard _ _ g => s.tellGuard g .suspend
  | .drive _ _ _ | .watch _ _ _ _ => s

/-- The channel is told that its lease is ACTIVE again (R54). -/
def tellActive (params : KindParams) (s : State) : State :=
  match params with
  | .pattern _ c => s.tellPattern c .resume
  | .guard spec armed g => s.tellGuard g (.unsuspend armed (combination s spec.conditions))
  | .drive _ _ _ | .watch _ _ _ _ => s

/-- The lease in slot `k` enters GRACE (R48). -/
def enterGrace (k : Slot) (l : Lease) (s : State) : State :=
  let s := s.setLease k { l with state := .grace l.grace }
  tellGrace l.params (writeLevels l.lines (graceLevel l.params) s)

/-- The lease in slot `k` returns from GRACE to ACTIVE (R54). -/
def leaveGrace (k : Slot) (l : Lease) (s : State) : State :=
  let s := s.setLease k { l with state := .active }
  tellActive l.params (writeLevels l.lines (activeLevel s (s.handle k) l.params) s)

/-! ## The queue -/

/-- The port's waiting entries. -/
def waitingOf (s : State) (p : Port) : List QueueEntry := s.queue.filter fun e => e.port = p

/-- The wait budget in use: waiting entries plus ticket notices (R32). -/
def waitBudget (s : State) (p : Port) : Nat := (waitingOf s p).length + (s.map p).tickets.length

/-- The ticket values a port has in use (R31). -/
def ticketsInUse (s : State) (p : Port) : List Byte :=
  (waitingOf s p).map (·.ticket) ++ (s.map p).tickets.map (·.ticket)

/-- Tickets advance 0, 1, ..., 255, 1 and skip values in use (R31). The advance ends within four steps,
since a port has at most three values in use; the fuel covers every value. -/
def advanceTicket (inUse : List Byte) : Nat → Byte → Byte
  | 0, t => nextGen t
  | fuel + 1, t => if nextGen t ∈ inUse then advanceTicket inUse fuel (nextGen t) else nextGen t

/-- The port's next ticket. -/
def nextTicket (s : State) (p : Port) : Byte := advanceTicket (ticketsInUse s p) 255 (s.portRec p).ticketCounter

/-- An entry leaves the queue; the entries behind it move up (R33). -/
def removeEntry (p : Port) (ticket : Byte) (s : State) : State :=
  { s with queue := s.queue.filter fun e => !(e.port = p && e.ticket = ticket) }

/-- Every entry of a port leaves the queue (R94, R147). -/
def dropWaits (p : Port) (s : State) : State := { s with queue := s.queue.filter fun e => e.port ≠ p }

/-! ## The scan (R35, R36) -/

/-- A grant made by the scan (R29). -/
def scanGrant (e : QueueEntry) (s : State) : State :=
  match freeSlot? s with
  | some k =>
    postSlot e.port k SlotKind.granted (.origin e.ticket)
      (grantInto k e.port e.request (some { port := e.port, number := e.ticket }) s)
  | none => s

/-- The entries examined once each, oldest first. `older` are the entries already examined that stay. The
answer is the entries that stay, the state, and the number of entries refused. -/
def scanList (older : List QueueEntry) : List QueueEntry → State → List QueueEntry × State × Nat
  | [], s => (older, s, 0)
  | e :: rest, s =>
    if !permits (s.charter e.port) e.request then
      let r := scanList older rest (postTicket e TicketKind.waitRefused s)
      (r.1, r.2.1, r.2.2 + 1)
    else if (blockedBy s older e.port e.request).isNone then scanList older rest (scanGrant e s)
    else scanList (older ++ [e]) rest s

/-- The queue scan, with the number of entries it refuses. -/
def scanCounted (s : State) : State × Nat :=
  let r := scanList [] s.queue s
  ({ r.2.1 with queue := r.1 }, r.2.2)

def scan (s : State) : State := (scanCounted s).1

/-- One of the triggers of R35 occurred between the start of the step and now. (A charter change and a
settle-complete run their scan themselves.) -/
def scanTriggered (before after : State) : Bool :=
  (List.finRange 24).any (fun k => (before.lease k).isSome && (after.lease k).isNone)
    || (List.finRange 16).any (fun n => lineHeld before n && !lineHeld after n)
    || (List.finRange 6).any (fun c => vget before.patTaken c && !vget after.patTaken c)
    || (List.finRange 4).any (fun g => vget before.guardTaken g && !vget after.guardTaken g)
    || decide (after.queue.length < before.queue.length)
    || (List.finRange 4).any (fun p => decide ((after.portRec p).occupied < (before.portRec p).occupied))
    || (List.finRange 4).any (fun p => before.isQuiet p && !after.isQuiet p)

/-- The end of a step of the engine: one scan if it had a trigger, after every other change; the line bank
then follows what changed. -/
def endStep (before after : State) : State :=
  restartChecks before (if scanTriggered before after then scan after else after)

/-- The end of a step that always ends with a scan. -/
def endStepScan (before after : State) : State := restartChecks before (scan after)

/-! ## Commands (R169 to R172) -/

/-- The intake arbiter's choice: the first port with a PENDING command after the last port served (R170). -/
def nextPort (s : State) : Option Port :=
  [s.lastServed + 1, s.lastServed + 2, s.lastServed + 3, s.lastServed].find? fun p =>
    (s.window p).phase == .pending

/-- The engine takes command `i` of port `p` now: the arbiter passes it and its code says so. -/
def takes (s : State) (i : Instr) (p : Port) : Bool :=
  !s.rstnAsserted && nextPort s == some p && decodeCommand p (s.window p).command == i

/-- The command goes from PENDING to EXECUTING, and its port is the last one served (R169, R170). -/
def State.take (s : State) (p : Port) : State :=
  { s.setWindow p { s.window p with phase := .executing } with lastServed := p }

/-- What a command answers: a status and the result bytes it uses. -/
structure Reply where
  status : Status
  result : List Byte
  deriving DecidableEq, Repr

/-- A refusal, or any answer with an empty result (R172). -/
def Reply.bare (st : Status) : Reply := { status := st, result := [] }

/-- OK with result bytes. -/
def Reply.ok (result : List Byte) : Reply := { status := .ok, result := result }

/-- The completion of a command (R172). -/
def State.complete (s : State) (p : Port) (r : Reply) : State :=
  s.setWindow p
    { s.window p with
      phase := .idle, status := r.status, result := padResult r.result, sequence := (s.window p).sequence + 1#8 }

/-- A host command as a step: when the engine can take it, it is taken, carried out and completed. A step
that cannot happen in this state changes nothing (DESIGN CHOICE, log entry 4). Safe. -/
def command (i : Instr) (p : Port) (body : State → State × Reply) (s : State) :
    Host.Outcome State Fault Refusal :=
  if takes s i p then
    let r := body (s.take p)
    .next (r.1.complete p r.2)
  else .next s

/-- A command that answers a status and changes nothing. -/
def refuse (s : State) (st : Status) : State × Reply := (s, Reply.bare st)

end Sys2Proof.Machine
end

