-- ==== Sys2Proof/Machine/Handover.lean ====
section
/-! DEFINITION. OFFER, ACCEPT, DECLINE and WITHDRAW (chapter 4). -/

namespace Sys2Proof.Machine

/-- OFFER in the order of R67, with the effect of R68. -/
def offerBody (p : Port) (s : State) : State × Reply :=
  let a := s.args p
  match checkHolder s p (argByte a 0x04) (argByte a 0x05) with
  | .error e => refuse s e
  | .ok (k, l) =>
    match portOf (argByte a 0x06) with
    | none => refuse s .badArgument
    | some target =>
      match firstFailure
          [ (decide (target = l.holder), Status.badArgument),
            (!l.state.isActive, .wrongState),
            (l.params.code == 3, .wrongKind) ] with
      | some e => refuse s e
      | none =>
        (postSlot target k SlotKind.offerReceived .none
            (s.setLease k { l with state := .handover target Config.offerWindow }),
          Reply.ok [])

/-- OFFER (R67, R68). -/
def execOffer (p : Port) (s : State) : Host.Outcome State Fault Refusal :=
  command (.offer p) p (offerBody p) s

/-- The lease is in HANDOVER toward the port. -/
def offeredToPort (l : Lease) (p : Port) : Bool :=
  match l.state with
  | .handover target _ => target = p
  | .active | .grace _ | .retiring _ | .closed _ => false

/-- The changed set of a WATCH lease; empty for the other kinds (R115). -/
def KindParams.changed : KindParams → LineSet
  | .watch _ _ _ changed => changed
  | .drive _ _ _ | .pattern _ _ | .guard _ _ _ => 0#16

/-- The kind parameters with the changed set replaced. -/
def KindParams.setChanged (ls : LineSet) : KindParams → KindParams
  | .watch pull rising falling _ => .watch pull rising falling ls
  | .drive t lv safe => .drive t lv safe
  | .pattern spec c => .pattern spec c
  | .guard spec armed g => .guard spec armed g

def KindParams.isWatch : KindParams → Bool
  | .watch _ _ _ _ => true
  | .drive _ _ _ | .pattern _ _ | .guard _ _ _ => false

/-- EDGE at a change of holder (R72): posted to the new holder when the changed set is not empty, removed
from its entry for the slot when it is. -/
def edgeToNewHolder (p : Port) (k : Slot) (l : Lease) (s : State) : State :=
  if l.params.isWatch then
    if l.params.changed = 0#16 then dropSlotKinds p k SlotKind.edge s
    else postSlot p k SlotKind.edge .none s
  else s

/-- The record after an ACCEPT by port `p` with charter `c` (R71). -/
def handedOver (c : Charter) (p : Port) (l : Lease) : Lease :=
  { l with
    holder := p
    state := .active
    term := l.term.map fun t =>
      { granted := (clampTerm c t.granted).1, remaining := some (clampTerm c t.granted).1 }
    grace := c.grace
    warn := c.warn
    termLow := false
    outOfCharter := false }

/-- The transfer of R71 and R72. -/
def transfer (p : Port) (k : Slot) (l : Lease) (s : State) : State :=
  let s := s.setLease k (handedOver (s.charter p) p l)
  let s := raiseCount p (lowerCount l.holder s)
  edgeToNewHolder p k l (postSlot l.holder k SlotKind.handedOver .none s)

/-- ACCEPT in the order of R70. -/
def acceptBody (p : Port) (s : State) : State × Reply :=
  let a := s.args p
  match checkHandle s (argByte a 0x04) (argByte a 0x05) with
  | .error e => refuse s e
  | .ok (k, l) =>
    let c := s.charter p
    match firstFailure
        [ (!offeredToPort l p, Status.notOffered),
          (s.isQuiet p, .portQuiet),
          (!(subset l.lines c.lines && (l.term.isSome || c.mayPin)), .notPermitted),
          (decide (c.leaseLimit ≤ (s.portRec p).occupied), .portLimit) ] with
    | some e => refuse s e
    | none =>
      let applied := match l.term with
        | some t => clampTerm c t.granted
        | none => (0, false)
      (endStep s (transfer p k l s), Reply.ok (b2 applied.1 ++ bFlag applied.2))

/-- ACCEPT (R70 to R73). -/
def execAccept (p : Port) (s : State) : Host.Outcome State Fault Refusal :=
  command (.accept p) p (acceptBody p) s

/-- DECLINE (R74). -/
def declineBody (p : Port) (s : State) : State × Reply :=
  let a := s.args p
  match checkHandle s (argByte a 0x04) (argByte a 0x05) with
  | .error e => refuse s e
  | .ok (k, l) =>
    if offeredToPort l p then
      (postSlot l.holder k SlotKind.offerDeclined .none (endOffer k s), Reply.ok [])
    else refuse s .notOffered

/-- DECLINE (R74). -/
def execDecline (p : Port) (s : State) : Host.Outcome State Fault Refusal :=
  command (.decline p) p (declineBody p) s

/-- WITHDRAW (R75). -/
def withdrawBody (p : Port) (s : State) : State × Reply :=
  let a := s.args p
  match checkHolder s p (argByte a 0x04) (argByte a 0x05) with
  | .error e => refuse s e
  | .ok (k, l) =>
    match l.state with
    | .handover _ _ => (withdrawOffer k s, Reply.ok [])
    | .active | .grace _ => refuse s .notOffered
    | .retiring _ | .closed _ => refuse s .wrongState

/-- WITHDRAW (R75). -/
def execWithdraw (p : Port) (s : State) : Host.Outcome State Fault Refusal :=
  command (.withdraw p) p (withdrawBody p) s

end Sys2Proof.Machine
end

