-- ==== Sys2Proof/Machine/Kinds.lean ====
section
/-! DEFINITION. SET_GUARD, SET_LEVELS, RESTART_PATTERN, READ_LEVELS and CLEAR_FAULT (chapters 5 and 6). -/

namespace Sys2Proof.Machine

/-- A SET_GUARD that has passed its checks: armed-requested is written, and in ACTIVE the channel is told
(R89). -/
def setArmed (k : Slot) (l : Lease) (spec : GuardSpec) (g : GuardChan) (arm : Bool) (s : State) : State :=
  let s := s.setLease k { l with params := .guard spec arm g }
  if l.state.isActive then s.tellGuard g (if arm then .arm else .disarm) else s

/-- SET_GUARD in the order of R89. -/
def setGuardBody (p : Port) (s : State) : State × Reply :=
  let a := s.args p
  match checkHolder s p (argByte a 0x04) (argByte a 0x05) with
  | .error e => refuse s e
  | .ok (k, l) =>
    match firstFailure
        [ (badFlag (argByte a 0x06), Status.badArgument),
          (!(l.state.isActive || l.state.isGrace), .wrongState) ] with
    | some e => refuse s e
    | none =>
      match l.params with
      | .guard spec _ g => (setArmed k l spec g (flagOf (argByte a 0x06)) s, Reply.ok [])
      | .drive _ _ _ | .pattern _ _ | .watch _ _ _ _ => refuse s .wrongKind

/-- SET_GUARD (R89, R90). -/
def execSetGuard (p : Port) (s : State) : Host.Outcome State Fault Refusal :=
  command (.setGuard p) p (setGuardBody p) s

/-- The new current levels are recorded and sent to the line bank as one (R105). -/
def replaceLevels (k : Slot) (l : Lease) (t : DriveType) (safe : Option Levels) (lv : Levels) (s : State) : State :=
  let s' := s.setLease k { l with params := .drive t lv safe }
  restartChecks s (s'.mapCells l.lines fun n c => { c with assigned := some (has lv n) })

/-- SET_LEVELS in the order of R105. -/
def setLevelsBody (p : Port) (s : State) : State × Reply :=
  let a := s.args p
  match checkHolder s p (argByte a 0x04) (argByte a 0x05) with
  | .error e => refuse s e
  | .ok (k, l) =>
    if l.state.working then
      match l.params with
      | .drive t _ safe => (replaceLevels k l t safe (argSet a 0x06 &&& l.lines) s, Reply.ok [])
      | .pattern _ _ | .watch _ _ _ _ | .guard _ _ _ => refuse s .wrongKind
    else refuse s .wrongState

/-- SET_LEVELS (R105, R106). -/
def execSetLevels (p : Port) (s : State) : Host.Outcome State Fault Refusal :=
  command (.setLevels p) p (setLevelsBody p) s

/-- RESTART_PATTERN in the order of R111: the channel is told, and takes it later (R112). -/
def restartPatternBody (p : Port) (s : State) : State × Reply :=
  let a := s.args p
  match checkHolder s p (argByte a 0x04) (argByte a 0x05) with
  | .error e => refuse s e
  | .ok (_, l) =>
    if l.state.working then
      match l.params with
      | .pattern _ c => (s.tellPattern c .restart, Reply.ok [])
      | .drive _ _ _ | .watch _ _ _ _ | .guard _ _ _ => refuse s .wrongKind
    else refuse s .wrongState

/-- RESTART_PATTERN (R111, R112). -/
def execRestartPattern (p : Port) (s : State) : Host.Outcome State Fault Refusal :=
  command (.restartPattern p) p (restartPatternBody p) s

/-- The debounced levels of a set of lines, the other lines at 0 (R115). -/
def debouncedLevels (s : State) (lines : LineSet) : Levels :=
  setOf ((linesOf lines).filter fun n => (s.cell n).debounced)

def LeaseState.isClosed : LeaseState → Bool
  | .closed _ => true
  | .active | .handover _ _ | .grace _ | .retiring _ => false

/-- The changed set is emptied, and EDGE leaves the holder's entry (R115). -/
def takeChanged (p : Port) (k : Slot) (l : Lease) (s : State) : State :=
  dropSlotKinds p k SlotKind.edge (s.setLease k { l with params := l.params.setChanged 0#16 })

/-- READ_LEVELS in the order of R115. -/
def readLevelsBody (p : Port) (s : State) : State × Reply :=
  let a := s.args p
  match checkHolder s p (argByte a 0x04) (argByte a 0x05) with
  | .error e => refuse s e
  | .ok (k, l) =>
    match firstFailure
        [(badFlag (argByte a 0x06), Status.badArgument), (l.state.isClosed, .wrongState)] with
    | some e => refuse s e
    | none =>
      (if flagOf (argByte a 0x06) && l.params.isWatch && l.state.live then takeChanged p k l s else s,
        Reply.ok (bSet (debouncedLevels s l.lines) ++ bSet l.params.changed ++ bSet l.faults))

/-- READ_LEVELS (R115, R116). -/
def execReadLevels (p : Port) (s : State) : Host.Outcome State Fault Refusal :=
  command (.readLevels p) p (readLevelsBody p) s

/-- The named lines leave the fault set; the checks of the removed lines start afresh (R120). -/
def clearFaults (k : Slot) (l : Lease) (named : LineSet) (s : State) : State :=
  let s' := s.setLease k { l with faults := l.faults &&& ~~~named }
  restartChecks s (restartLines (l.faults &&& named) s')

/-- CLEAR_FAULT in the order of R120. -/
def clearFaultBody (p : Port) (s : State) : State × Reply :=
  let a := s.args p
  match checkHolder s p (argByte a 0x04) (argByte a 0x05) with
  | .error e => refuse s e
  | .ok (k, l) =>
    if l.state.live then
      (clearFaults k l (argSet a 0x06) s, Reply.ok (bSet (l.faults &&& ~~~(argSet a 0x06))))
    else refuse s .wrongState

/-- CLEAR_FAULT (R120). -/
def execClearFault (p : Port) (s : State) : Host.Outcome State Fault Refusal :=
  command (.clearFault p) p (clearFaultBody p) s

end Sys2Proof.Machine
end

