-- ==== Sys2Proof/Machine/Requests.lean ====
section
/-! DEFINITION. REQUEST, CANCEL_WAIT and QUERY_QUEUE (chapter 2). -/

namespace Sys2Proof.Machine

/-- The answer to a request that fails step 5 and does not wait (R25): the lowest line that is held or named
by a waiting entry, else the missing slot or channel. -/
def stepFiveRefusal (s : State) (r : Request) : Option Reply :=
  match (linesOf r.lines).find? fun n => lineHeld s n || !(naming s.queue n).isEmpty with
  | some n =>
    some
      { status := .linesBusy
        result := b1 n.val ++
          match vget s.heldBy n with
          | some k => b1 0 ++ bHandle (s.handle k)
          | none => b1 1 ++ bHandle? none }
  | none =>
    firstFailure
      [((freeSlot? s).isNone, Reply.bare .tableFull), (!channelFree s r, Reply.bare .noChannel)]

/-- The request joins the queue at the young end with the port's next ticket (R26, R31). -/
def enqueue (p : Port) (a : Args) (r : Request) (s : State) : State × Reply :=
  let t := nextTicket s p
  let e : QueueEntry :=
    { ticket := t, port := p, args := a, request := r, waitRemaining := r.waitLimit, arrival := s.arrivals }
  let s' := s.setPortRec p { s.portRec p with ticketCounter := t }
  ({ s' with queue := s.queue ++ [e], arrivals := s.arrivals + 1 },
    { status := .queued, result := [t] ++ b1 s.queue.length ++ b2 r.waitLimit })

/-- A request that fails step 5: refused, or queued when it may wait and the queue and the wait budget have
room (R25, R26). -/
def notNow (p : Port) (a : Args) (r : Request) (refusal : Reply) (s : State) : State × Reply :=
  if r.waitLimit = 0 then (s, refusal)
  else
    match firstFailure
        [ (decide (Config.queueSize ≤ s.queue.length), Reply.bare .queueFull),
          (decide (Config.waitBudget ≤ waitBudget s p), { status := .portLimit, result := b1 2 }) ] with
    | some reply => (s, reply)
    | none => enqueue p a r s

/-- A grant by a REQUEST (R27): the result is the handle, the term applied and the clamped flag. -/
def directGrant (p : Port) (r : Request) (s : State) : State × Reply :=
  match freeSlot? s with
  | some k =>
    let s' := grantInto k p r none s
    let t := if r.pinned then (0, false) else grantTerm (s.charter p) r
    (restartChecks s s', Reply.ok (bHandle (s'.handle k) ++ b2 t.1 ++ bFlag t.2))
  | none => refuse s .tableFull

/-- REQUEST in the order of R21. -/
def requestBody (p : Port) (s : State) : State × Reply :=
  let a := s.args p
  let r := Req.read a
  match firstFailure
      [ (s.isQuiet p, Reply.bare .portQuiet),
        ((Req.faults p a).any id, Reply.bare .badArgument),
        (!permits (s.charter p) r, Reply.bare .notPermitted),
        (decide ((s.charter p).leaseLimit ≤ (s.portRec p).occupied), { status := .portLimit, result := b1 1 }) ] with
  | some reply => (s, reply)
  | none =>
    match stepFiveRefusal s r with
    | some refusal => notNow p a r refusal s
    | none => directGrant p r s

/-- REQUEST (R20 to R31). -/
def execRequest (p : Port) (s : State) : Host.Outcome State Fault Refusal :=
  command (.request p) p (requestBody p) s

/-- CANCEL_WAIT (R39). -/
def cancelWaitBody (p : Port) (s : State) : State × Reply :=
  let t := argByte (s.args p) 0x04
  if (waitingOf s p).any fun e => e.ticket = t then
    (endStep s (removeEntry p t s), Reply.ok [])
  else refuse s .noSuchTicket

/-- CANCEL_WAIT (R39, R40). -/
def execCancelWait (p : Port) (s : State) : Host.Outcome State Fault Refusal :=
  command (.cancelWait p) p (cancelWaitBody p) s

/-- The blocked-by item with its line and its handle or ticket (R42, R177). -/
def blockedBytes (s : State) : Option Blocked → List Byte
  | some (.lines n) => b1 1 ++ b1 n.val ++ bHandle? ((vget s.heldBy n).map s.handle)
  | some (.order n older) =>
    b1 2 ++ b1 n.val ++ b1? (older.map (·.port.val)) ++ bTicket? (older.map (·.number))
  | some .slot => b1 3 ++ b1? none ++ b2? none
  | some .limit => b1 4 ++ b1? none ++ b2? none
  | some .channel => b1 5 ++ b1? none ++ b2? none
  | none => b1? none ++ b1? none ++ b2? none

/-- View 0 of QUERY_QUEUE for an entry with `older` in front of it (R41, R177). -/
def queueRecord (s : State) (p : Port) (older : List QueueEntry) (e : QueueEntry) : List Byte :=
  let entitled := e.port = p ∨ p = 0
  b1 s.queue.length ++ b1 1 ++ [e.ticket] ++ b1 e.port.val ++ b1 e.request.kind.code ++ bSet e.request.lines
    ++ b2 e.waitRemaining ++ blockedBytes s (blockedBy s older e.port e.request)
    ++ bFlag (!decide entitled)
    ++ b2? (if entitled then some e.request.term else none)
    ++ b1? (if entitled then some e.request.pinned.toNat else none)
    ++ b2? (if entitled then some e.request.waitLimit else none)

/-- The header of the parted views: bit 0 withheld, bit 1 no such part (R177). -/
def viewHeader (withheld missing : Bool) : List Byte := b1 (withheld.toNat + 2 * missing.toNat)

/-- The argument bytes from one window offset to another (R177). -/
def argRange (a : Args) (first last : Nat) : List Byte :=
  (List.range (last + 1 - first)).map fun i => argByte a (first + i)

/-- Views 1 and 2 of QUERY_QUEUE (R177). -/
def queueArgs (p : Port) (e : QueueEntry) (view : Nat) : List Byte :=
  if e.port = p ∨ p = 0 then
    viewHeader false false ++ (if view = 1 then argRange e.args 0x04 0x1A else argRange e.args 0x1B 0x23)
  else viewHeader true false

/-- QUERY_QUEUE (R41, R42, R177). -/
def queryQueueBody (p : Port) (s : State) : State × Reply :=
  let a := s.args p
  let pos := argNat a 0x04
  let view := argNat a 0x05
  if 7 < pos then refuse s .badArgument
  else if 2 < view then refuse s .badArgument
  else
    match s.queue[pos]? with
    | some e =>
      (s, Reply.ok (if view = 0 then queueRecord s p (s.queue.take pos) e else queueArgs p e view))
    | none =>
      (s, Reply.ok (if view = 0 then b1 s.queue.length ++ b1 0 else viewHeader false true))

/-- QUERY_QUEUE (R41, R42). -/
def execQueryQueue (p : Port) (s : State) : Host.Outcome State Fault Refusal :=
  command (.queryQueue p) p (queryQueueBody p) s

end Sys2Proof.Machine
end

