-- ==== Sys2Proof/Machine/Leases.lean ====
section
/-! DEFINITION. QUERY_LEASE, LOOKUP_LINE, RENEW, RELEASE and REVOKE (chapters 1 and 3). -/

namespace Sys2Proof.Machine

/-! ## Lookups -/

/-- The progress in a lease's channel (R16): channel state or guard substate, current step, loops remaining
(0 endless). Absent when the channel is freed, has not taken the lease's set-up yet, or there is none. -/
def progress (s : State) (h : Handle) (l : Lease) : Option Nat × Option Nat × Option Nat :=
  if l.state.live then
    match l.params with
    | .pattern _ c =>
      match vget s.patChans c with
      | some ch =>
        if ch.handle = h then
          (some ch.phase.code, some ch.step,
            match ch.phase with
            | .running _ left | .paused left => some (left.getD 0)
            | .done => none)
        else (none, none, none)
      | none => (none, none, none)
    | .guard _ _ g =>
      match vget s.guardChans g with
      | some ch => if ch.handle = h then (some ch.substate.code, none, none) else (none, none, none)
      | none => (none, none, none)
    | .drive _ _ _ | .watch _ _ _ _ => (none, none, none)
  else (none, none, none)

/-- The remaining grace, offered-to and close reason of a state (R16). -/
def LeaseState.graceLeft : LeaseState → Option Nat
  | .grace g => some g
  | .active | .handover _ _ | .retiring _ | .closed _ => none

def LeaseState.offeredTo : LeaseState → Option Port
  | .handover t _ => some t
  | .active | .grace _ | .retiring _ | .closed _ => none

def LeaseState.reason : LeaseState → Option CloseReason
  | .retiring r | .closed r => some r
  | .active | .handover _ _ | .grace _ => none

/-- A restricted field: absent when withheld (R175). -/
def restrict {α : Type} (entitled : Bool) (x : Option α) : Option α := if entitled then x else none

/-- View 0 of QUERY_LEASE for an occupied slot (R177). -/
def leaseRecord (s : State) (h : Handle) (l : Lease) (entitled : Bool) : List Byte :=
  let pr := progress s h l
  b1 l.state.code ++ bHandle h ++ b1 l.holder.val ++ b1 l.params.code ++ bSet l.lines
    ++ b1 (l.term.isNone.toNat + 2 * l.outOfCharter.toNat + 4 * (!entitled).toNat)
    ++ b2? (l.term.bind (·.remaining)) ++ b1? l.state.graceLeft ++ b1? (l.state.offeredTo.map (·.val))
    ++ bSet l.faults ++ b1? (l.state.reason.map CloseReason.code)
    ++ b2? (restrict entitled (l.term.map (·.granted)))
    ++ b1? (restrict entitled (some l.grace)) ++ b1? (restrict entitled (some l.warn))
    ++ bTicket? (restrict entitled (l.origin.map (·.number)))
    ++ b1? (restrict entitled pr.1) ++ b1? (restrict entitled pr.2.1) ++ b1? (restrict entitled pr.2.2)
    ++ b1? (restrict entitled (l.origin.map (·.port.val)))

/-- View 1 of QUERY_LEASE: the kind parameters in the order of R177. -/
def kindBytes : KindParams → List Byte
  | .drive t lv safe => b1 t.code ++ bSet lv ++ b2? (safe.map (·.toNat))
  | .pattern spec c => b1 spec.drive.code ++ b1 spec.steps.length ++ b1 spec.loops ++ b1 c.val
  | .watch pull rising falling changed => b1 pull.code ++ bSet rising ++ bSet falling ++ bSet changed
  | .guard spec armed g =>
    b1 g.val ++ bFlag armed ++ b2 spec.hold ++ b1 spec.conditions.length
      ++ b1? (spec.action.map (·.line.val)) ++ b1? (spec.action.map (·.pulseLevel.toNat))
      ++ b1? (spec.action.map (·.pulseWidth)) ++ b1? (spec.recallSpec.map (·.target.val))
      ++ b2? (spec.recallSpec.map (·.quietTime))
      ++ spec.conditions.flatMap fun c => b1 c.line.val ++ bLevel c.level

/-- View 2 of QUERY_LEASE: a PATTERN's steps and safe levels in the form of R176. Absent safe levels read as
an absent field of their size (DEDUCED, log entry 19). Safe. -/
def patternBytes (lines : LineSet) (spec : PatternSpec) : List Byte :=
  (spec.steps.flatMap fun st => bLevelList lines st.levels ++ b2 st.duration)
    ++ match spec.safe with
      | some lv => bLevelList lines lv
      | none => if levelListSize lines = 1 then b1? none else b2? none

/-- Views 1 and 2 of QUERY_LEASE for an occupied slot (R177). -/
def leasePart (l : Lease) (view : Nat) (entitled : Bool) : List Byte :=
  let part : Option (List Byte) :=
    if view = 1 then some (kindBytes l.params)
    else
      match l.params with
      | .pattern spec _ => some (patternBytes l.lines spec)
      | .drive _ _ _ | .watch _ _ _ _ | .guard _ _ _ => none
  viewHeader (!entitled) part.isNone ++ (restrict entitled part).getD []

/-- QUERY_LEASE (R16, R17, R177). -/
def queryLeaseBody (p : Port) (s : State) : State × Reply :=
  let a := s.args p
  let view := argNat a 0x05
  match slotOf (argByte a 0x04) with
  | none => refuse s .badArgument
  | some k =>
    if 2 < view then refuse s .badArgument
    else
      match s.lease k with
      | none => (s, Reply.ok (if view = 0 then b1 0 ++ bHandle (s.handle k) else viewHeader false true))
      | some l =>
        let entitled := decide (l.holder = p ∨ p = 0)
        (s, Reply.ok (if view = 0 then leaseRecord s (s.handle k) l entitled else leasePart l view entitled))

/-- QUERY_LEASE (R17). -/
def execQueryLease (p : Port) (s : State) : Host.Outcome State Fault Refusal :=
  command (.queryLease p) p (queryLeaseBody p) s

/-- The number of GUARD leases in ACTIVE or GRACE with a condition on the line (R18). -/
def observers (s : State) (n : Line) : Nat :=
  ((List.finRange 24).filter fun k =>
    match s.lease k with
    | some l =>
      (l.state.isActive || l.state.isGrace)
        && match l.params with
          | .guard spec _ _ => spec.conditions.any fun c => c.line == n
          | .drive _ _ _ | .pattern _ _ | .watch _ _ _ _ => false
    | none => false).length

/-- The result of LOOKUP_LINE (R18, R179). -/
def lineRecord (s : State) (n : Line) : List Byte :=
  (match holding s n with
    | some (k, l) => b1 1 ++ bHandle (s.handle k) ++ b1 l.holder.val ++ b1 l.state.code
    | none => b1 0 ++ bHandle? none ++ b1? none ++ b1? none)
    ++ b1 (observers s n) ++ b1 (s.profile n).rest.code ++ bLevel (s.cell n).debounced
    ++ bFlag (s.profile n).restFault

/-- LOOKUP_LINE (R18). -/
def lookupLineBody (p : Port) (s : State) : State × Reply :=
  match lineOf (argByte (s.args p) 0x04) with
  | none => refuse s .badArgument
  | some n => (s, Reply.ok (lineRecord s n))

/-- LOOKUP_LINE (R18). -/
def execLookupLine (p : Port) (s : State) : Host.Outcome State Fault Refusal :=
  command (.lookupLine p) p (lookupLineBody p) s

/-! ## RENEW (R52 to R55) -/

/-- The term a RENEW applies, and whether it is clamped (R53). -/
def renewTerm (c : Charter) (granted arg : Nat) : Nat × Bool := clampTerm c (if arg = 0 then granted else arg)

/-- A RENEW that has passed its checks, on a lease with the given term (R53, R54). -/
def renewLease (k : Slot) (l : Lease) (granted applied : Nat) (s : State) : State :=
  let l := { l with term := some { granted := granted, remaining := some applied }, termLow := false }
  match l.state with
  | .grace _ => restartChecks s (leaveGrace k l s)
  | .active | .handover _ _ | .retiring _ | .closed _ => s.setLease k l

/-- RENEW in the order of R52. -/
def renewBody (p : Port) (s : State) : State × Reply :=
  let a := s.args p
  match checkHolder s p (argByte a 0x04) (argByte a 0x05) with
  | .error e => refuse s e
  | .ok (k, l) =>
    match firstFailure
        [ (decide (Config.maxUnits < argWord a 0x06), Status.badArgument),
          (!l.state.live, .wrongState) ] with
    | some e => refuse s e
    | none =>
      match l.term with
      | none => refuse s .wrongKind
      | some t =>
        if l.outOfCharter then refuse s .outOfCharter
        else
          let r := renewTerm (s.charter p) t.granted (argWord a 0x06)
          (renewLease k l t.granted r.1 s, Reply.ok (b2 r.1 ++ bFlag r.2))

/-- RENEW (R52 to R55). -/
def execRenew (p : Port) (s : State) : Host.Outcome State Fault Refusal :=
  command (.renew p) p (renewBody p) s

/-! ## RELEASE and REVOKE (R56 to R58) -/

/-- RELEASE (R56). -/
def releaseBody (p : Port) (s : State) : State × Reply :=
  let a := s.args p
  match checkHolder s p (argByte a 0x04) (argByte a 0x05) with
  | .error e => refuse s e
  | .ok (k, l) =>
    if l.state.live then (endStep s (retire k .released s), Reply.ok []) else refuse s .wrongState

/-- RELEASE (R56). -/
def execRelease (p : Port) (s : State) : Host.Outcome State Fault Refusal :=
  command (.release p) p (releaseBody p) s

/-- REVOKE (R57, R58): a live lease retires with REVOKED posted; a CLOSED record is freed and RETIRED leaves
the holder's map. -/
def revokeBody (p : Port) (s : State) : State × Reply :=
  let a := s.args p
  if p ≠ 0 then refuse s .notAdmin
  else
    match checkHandle s (argByte a 0x04) (argByte a 0x05) with
    | .error e => refuse s e
    | .ok (k, l) =>
      match l.state with
      | .retiring _ => refuse s .wrongState
      | .closed _ =>
        (endStep s (freeRecord k (dropSlotKinds l.holder k SlotKind.retired s)), Reply.ok [])
      | .active | .handover _ _ | .grace _ =>
        (endStep s (postSlot l.holder k SlotKind.revoked .none (retire k .revoked s)), Reply.ok [])

/-- REVOKE (R57, R58). -/
def execRevoke (p : Port) (s : State) : Host.Outcome State Fault Refusal :=
  command (.revoke p) p (revokeBody p) s

end Sys2Proof.Machine
end

