-- ==== Sys2Proof/Machine/Admin.lean ====
section
/-! DEFINITION. SET_LINE_PROFILE, SET_CHARTER, READ_CHARTER, RESET_PORT and UNKNOWN_COMMAND (chapters 7, 8
and 10). -/

namespace Sys2Proof.Machine

/-! ## SET_LINE_PROFILE (R128) -/

/-- The profile in argument order (R179). -/
def profileBytes (n : Line) (f : Profile) : List Byte :=
  b1 n.val ++ b1 f.rest.code ++ b1 f.debounce ++ b1 f.settle ++ bFlag f.faultCheck

/-- The profile is rewritten with its flag cleared. The stability count restarts, and the mismatch count of
a line at rest (R128). -/
def writeProfile (n : Line) (f : Profile) (s : State) : State :=
  let c := s.cell n
  let s' := (s.setProfile n f).setCell n
    { c with stability := 0, mismatch := if (liveHolding s n).isSome then c.mismatch else 0 }
  restartChecks s s'

/-- SET_LINE_PROFILE (R128). -/
def setLineProfileBody (p : Port) (s : State) : State × Reply :=
  let a := s.args p
  if p ≠ 0 then refuse s .notAdmin
  else
    match lineOf (argByte a 0x04), restModeOf (argByte a 0x05) with
    | some n, some rest =>
      if Config.maxDebounce < argNat a 0x06 ∨ badFlag (argByte a 0x08) then refuse s .badArgument
      else
        let f : Profile :=
          { rest := rest, debounce := argNat a 0x06, settle := argNat a 0x07,
            faultCheck := flagOf (argByte a 0x08), restFault := false }
        (writeProfile n f s, Reply.ok (profileBytes n f ++ bFlag (s.profile n).restFault))
    | some _, none => refuse s .badArgument
    | none, _ => refuse s .badArgument

/-- SET_LINE_PROFILE (R128, R129). -/
def execSetLineProfile (p : Port) (s : State) : Host.Outcome State Fault Refusal :=
  command (.setLineProfile p) p (setLineProfileBody p) s

/-! ## Charters (R139 to R144) -/

/-- The eight fields of a charter in SET_CHARTER order (R179). -/
def charterBytes (c : Charter) : List Byte :=
  bSet c.lines ++ b1 c.leaseLimit ++ b2 c.maxTerm ++ b1 c.grace ++ b1 c.warn ++ bFlag c.mayPin
    ++ bFlag c.mayGuard ++ b1 c.policy.code

/-- The faults of R139 in a SET_CHARTER, the target and the policy code apart. -/
def charterFaults (a : Args) : List Bool :=
  [ Config.maxLeases < argNat a 0x07,
    argWord a 0x08 == 0,
    Config.maxUnits < argWord a 0x08,
    Config.maxGrace < argNat a 0x0A,
    badFlag (argByte a 0x0C),
    badFlag (argByte a 0x0D) ]

/-- The charter of the argument bytes. -/
def charterOf (a : Args) (policy : FaultPolicy) : Charter :=
  { lines := argSet a 0x05, leaseLimit := argNat a 0x07, maxTerm := argWord a 0x08, grace := argNat a 0x0A,
    warn := argNat a 0x0B, mayPin := flagOf (argByte a 0x0C), mayGuard := flagOf (argByte a 0x0D),
    policy := policy }

/-- A record of port `t` that the charter newly does not fit (R140). -/
def narrows (t : Port) (c : Charter) (l : Lease) : Bool :=
  decide (l.holder = t) && !fits c l && !l.outOfCharter

/-- Step 2 of R139 at one slot: the flag is set and CHARTER_NARROWED posted (R140). -/
def flagRecord (t : Port) (c : Charter) (k : Slot) (s : State) : State :=
  match s.lease k with
  | some l =>
    if narrows t c l then
      postSlot l.holder k SlotKind.charterNarrowed .none (s.setLease k { l with outOfCharter := true })
    else s
  | none => s

/-- Step 2 of R139. -/
def flagRecords (t : Port) (c : Charter) : State → State := forSlots (flagRecord t c)

/-- The number of records that step 2 flags. -/
def countFlagged (t : Port) (c : Charter) (s : State) : Nat :=
  ((List.finRange 24).filter fun k => (s.lease k).any (narrows t c)).length

/-- Steps 1 to 3 of R139. -/
def writeCharter (t : Port) (c : Charter) (s : State) : State :=
  postPort t PortKind.charterChanged (flagRecords t c { s with charters := vset s.charters t c })

/-- SET_CHARTER (R139). -/
def setCharterBody (p : Port) (s : State) : State × Reply :=
  let a := s.args p
  if p ≠ 0 then refuse s .notAdmin
  else
    match portOf (argByte a 0x04), policyOf (argByte a 0x0E) with
    | some t, some policy =>
      if (charterFaults a).any id then refuse s .badArgument
      else
        let c := charterOf a policy
        let s' := writeCharter t c s
        (endStepScan s s',
          Reply.ok (charterBytes c ++ b1 (countFlagged t c s) ++ b1 (scanCounted s').2))
    | some _, none => refuse s .badArgument
    | none, _ => refuse s .badArgument

/-- SET_CHARTER (R139 to R143). -/
def execSetCharter (p : Port) (s : State) : Host.Outcome State Fault Refusal :=
  command (.setCharter p) p (setCharterBody p) s

/-- READ_CHARTER (R144). -/
def readCharterBody (p : Port) (s : State) : State × Reply :=
  match portOf (argByte (s.args p) 0x04) with
  | none => refuse s .badArgument
  | some t =>
    if p ≠ 0 ∧ t ≠ p then refuse s .notAdmin
    else
      (s, Reply.ok (charterBytes (s.charter t) ++ b1 (s.portRec t).occupied ++ b1 (waitBudget s t)
        ++ b2 (s.portRec t).quietRemaining))

/-- READ_CHARTER (R144). -/
def execReadCharter (p : Port) (s : State) : Host.Outcome State Fault Refusal :=
  command (.readCharter p) p (readCharterBody p) s

/-! ## RESET_PORT (R145 to R150) -/

/-- A reset of port `t` at one slot (R146). -/
def resetSlot (t : Port) (k : Slot) (s : State) : State :=
  match s.lease k with
  | some l =>
    if l.holder = t then
      match l.state with
      | .closed _ => freeRecord k s
      | .retiring _ => s
      | .active | .handover _ _ | .grace _ =>
        if l.term.isNone then
          let s := s.setLease k { l with params := l.params.setChanged 0#16 }
          withdrawOffer k s
        else retire k .portReset s
    else s
  | none => s

/-- The window of a reset port (R148). -/
def clearWindow (t : Port) (s : State) : State :=
  s.setWindow t
    { command := 0#8, phase := .idle, status := .portWasReset, sequence := (s.window t).sequence + 1#8,
      args := Vector.replicate 32 0#8, result := Vector.replicate 24 0#8 }

/-- The reset of port `t`: its leases, the offers to it, its waiting entries, its map and its window (R146
to R148). The map is emptied last, so nothing the reset posts stays in it. -/
def resetPortEffect (t : Port) (s : State) : State :=
  let s := dropWaits t (cancelOffersTo t (forSlots (resetSlot t) s))
  clearWindow t (s.setMap t NoticeMap.empty)

/-- RESET_PORT (R145): when the target is the asker, the clearing of its window is the completion. -/
def resetPortStep (p : Port) (s : State) : State :=
  match portOf (argByte (s.args p) 0x04) with
  | none => s.complete p (Reply.bare .badArgument)
  | some t =>
    if t ≠ p ∧ p ≠ 0 then s.complete p (Reply.bare .notAdmin)
    else
      let s' := endStepScan s (resetPortEffect t s)
      if t = p then s' else s'.complete p (Reply.ok [])

/-- RESET_PORT (R145 to R150). -/
def execResetPort (p : Port) (s : State) : Host.Outcome State Fault Refusal :=
  if takes s (.resetPort p) p then .next (resetPortStep p (s.take p)) else .next s

/-! ## A code that is not in the table -/

/-- UNKNOWN_COMMAND (R171): the arguments are not looked at and nothing but the window changes. -/
def execUnknownCommand (p : Port) (s : State) : Host.Outcome State Fault Refusal :=
  command (.unknownCommand p) p (fun s => refuse s .unknownCommand) s

end Sys2Proof.Machine
end

