-- ==== Sys2Proof/Machine/Ticks.lean ====
section
/-! DEFINITION. The 1 ms tick and the ends inside it (chapters 3, 5, 6, 7 and 10).

MS_TICK is whole: it counts every countdown down and carries out the ends it brings about. The rows of the ends
run the same operations on a count that stands at its threshold (log entry 6). -/

namespace Sys2Proof.Machine

/-! ## The bus of one port (R168) -/

/-- From the acknowledge of a matching address to the next STOP or START (R168). -/
def BusState.addressed : BusState → Bool
  | .waiting => false
  | .awaitOffset | .writing | .reading _ => true

/-- The stall count has reached 26: the port releases SDA, abandons the transaction and ignores the bus until
the next START. The pointer and the window stay (R168). -/
def stallEnd (p : Port) (s : State) : State :=
  let b := s.bus p
  if b.state.addressed ∧ Config.stallTicks ≤ b.stall then
    s.setBus p { b with state := .waiting, stall := 0, acked := false }
  else s

/-- The stall count that a tick leaves: 0 outside an addressed transaction and while SCL is high; else one more
tick with SCL low, counted from 0 when SCL has been high since the tick before (R168). -/
def stallAfter (b : Bus) (low rose : Bool) : Nat :=
  if b.state.addressed && low then (if rose then 0 else b.stall) + 1 else 0

/-- A 1 ms tick at one port's stall count (R168). -/
def busTick (p : Port) (low rose : Bool) (s : State) : State :=
  stallEnd p (s.setBus p { s.bus p with stall := stallAfter (s.bus p) low rose })

/-! ## The tick -/

/-- A sample of line `n`, which feeds the debounce filter and the comparator in the same tick (R130). -/
def sampleLine (n : Line) (v : Level) (s : State) : State := compareSample n v (debounceSample n v s)

/-- The guard channel is in HOLDING. -/
def isHolding (s : State) (g : GuardChan) : Bool :=
  match vget s.guardChans g with
  | some ch =>
    match ch.substate with
    | .holding _ => true
    | .disarmed | .armed | .firing _ | .spent | .suspended => false
  | none => false

/-- The guard channels whose hold has begun between two states. -/
def freshHolds (before after : State) : List GuardChan :=
  (List.finRange 4).filter fun g => !isHolding before g && isHolding after g

/-- One part of the tick's work. `x.2` are the guard channels whose hold a sample of this tick has started;
their hold counts from the next tick on (R85). -/
def tickPart (pads : Levels) (scl : SclTick) (x : State × List GuardChan) : TickPart → State × List GuardChan
  | .sample n => (sampleLine n (has pads n) x.1, freshHolds x.1 (sampleLine n (has pads n) x.1) ++ x.2)
  | .pattern c => (patternTick c x.1, x.2)
  | .guard g => (if g ∈ x.2 then x.1 else guardTick g x.1, x.2)
  | .settle k => (settleTick k x.1, x.2)
  | .bus p => (busTick p (scl.low.getLsbD p.val) (scl.rose.getLsbD p.val) x.1, x.2)

/-- Every part of the tick's work, in the order they go when `order` says nothing (DESIGN CHOICE, log entry 6).
Safe: `order` may give any other. -/
def allParts : List TickPart :=
  (List.finRange 4).map .guard ++ (List.finRange 16).map .sample ++ (List.finRange 6).map .pattern
    ++ (List.finRange 24).map .settle ++ (List.finRange 4).map .bus

/-- The parts in the order they take the tick: those `order` lists first, and each part once. -/
def tickParts (order : List TickPart) : List TickPart :=
  order.eraseDups ++ allParts.filter fun x => !order.contains x

/-- MS_TICK (R60, R85, R87, R108, R130, R133, R168). No tick is counted while RSTN is asserted (R137). -/
def execMsTick (pads : Levels) (scl : SclTick) (order : List TickPart) (s : State) :
    Host.Outcome State Fault Refusal :=
  .next (if s.rstnAsserted then s else ((tickParts order).foldl (tickPart pads scl) (s, [])).1)

/-! ## The ends inside the tick -/

/-- DEBOUNCED_CHANGE (R130, R131): the stability count stands at the debounce value, and the sample that
differs again makes the change. -/
def execDebouncedChange (n : Line) (s : State) : Host.Outcome State Fault Refusal :=
  .next
    (if !s.rstnAsserted ∧ (s.profile n).debounce ≤ (s.cell n).stability then
      debouncedTo n (!(s.cell n).debounced) s
    else s)

/-- DRIVE_FAULT (R133 to R135). -/
def execDriveFault (n : Line) (s : State) : Host.Outcome State Fault Refusal := .next (driveFaultEnd n s)

/-- SETTLE_COUNTDOWN_END (R60, R132). -/
def execSettleCountdownEnd (k : Slot) (s : State) : Host.Outcome State Fault Refusal := .next (settleEnd k s)

/-- STEP_END (R108, R109). -/
def execStepEnd (c : PatChan) (s : State) : Host.Outcome State Fault Refusal := .next (stepEndStep c s)

/-- GUARD_FIRE (R86). -/
def execGuardFire (g : GuardChan) (s : State) : Host.Outcome State Fault Refusal := .next (guardFireEnd g s)

/-- PULSE_END (R87). -/
def execPulseEnd (g : GuardChan) (s : State) : Host.Outcome State Fault Refusal := .next (pulseEndStep g s)

end Sys2Proof.Machine
end

