-- ==== Sys2Proof/Machine/Bus.lean ====
section
/-! DEFINITION. The I2C target of each port, the command window behind it, and device reset (chapter 10, R19,
R137). A row of a bus carries a whole byte; SCL has been high within it, so the stall count is 0 after it. -/

namespace Sys2Proof.Machine

/-- The address byte matches the part: the seven address bits stand above the direction bit (R165). -/
def addressMatches (byte : Byte) : Bool := byte.extractLsb' 1 7 == Config.i2cAddress

/-- The direction bit is 1 for a read (R165). -/
def isReadAddress (byte : Byte) : Bool := byte.getLsbD 0

/-- The port after a START and the address byte (R165, R167). The pointer keeps its value. -/
def afterAddress (s : State) (p : Port) (byte : Byte) : Bus :=
  let b := s.bus p
  if !s.rstnAsserted && addressMatches byte then
    { b with
      state := if isReadAddress byte then .reading (windowCopy s p) else .awaitOffset
      stall := 0, acked := true, sent := [] }
  else { b with state := .waiting, stall := 0, acked := false, sent := [] }

/-- I2C_ADDRESS (R165). -/
def execI2cAddress (p : Port) (byte : Byte) (s : State) : Host.Outcome State Fault Refusal :=
  .next (s.setBus p (afterAddress s p byte))

/-- I2C_OFFSET (R165): the first byte of a write transaction. -/
def execI2cOffset (p : Port) (byte : Byte) (s : State) : Host.Outcome State Fault Refusal :=
  .next
    (if (s.bus p).state = .awaitOffset then
      s.setBus p { s.bus p with state := .writing, pointer := byte.setWidth 6, stall := 0, acked := true }
    else s)

/-! ## Data bytes (R166) -/

/-- The byte is acknowledged: always on an idle port, and at 0x24 and above on a busy one (R166). -/
def dataAcked (w : Window) (off : Nat) : Bool := !w.busy || decide (0x24 ≤ off)

/-- The window after a data byte at an offset (R166). -/
def writeWindow (w : Window) (off : Nat) (byte : Byte) : Window :=
  if w.busy then w
  else if off = 0x00 then { w with command := byte }
  else if off = 0x01 then (if byte.getLsbD 0 then { w with phase := .pending } else w)
  else if h : 0x04 ≤ off ∧ off < 0x24 then { w with args := w.args.set (off - 0x04) byte }
  else w

/-- A data byte at the pointer, which then advances by one, acknowledged or not (R165, R166). -/
def dataByte (p : Port) (byte : Byte) (s : State) : State :=
  let b := s.bus p
  let off := b.pointer.toNat
  (s.setWindow p (writeWindow (s.window p) off byte)).setBus p
    { b with pointer := b.pointer + 1#6, stall := 0, acked := dataAcked (s.window p) off }

/-- WINDOW_WRITE (R166): a data byte of a write transaction. -/
def execWindowWrite (p : Port) (byte : Byte) (s : State) : Host.Outcome State Fault Refusal :=
  .next (if (s.bus p).state = .writing then dataByte p byte s else s)

/-- CONTROL_GO (R166, R169): a data byte with GO 1 while the pointer is at CONTROL. -/
def execControlGo (p : Port) (upper : BitVec 7) (s : State) : Host.Outcome State Fault Refusal :=
  .next
    (if (s.bus p).state = .writing ∧ (s.bus p).pointer = 1#6 then dataByte p (upper ++ 1#1) s else s)

/-! ## Reads (R167) -/

/-- The bytes a read of `count` bytes sends from the copy, from the pointer onward with wrap (R165, R167). -/
def readBytes (copy : Vector Byte 64) (pointer : BitVec 6) (count : Nat) : List Byte :=
  (List.range count).map fun i => vget copy (Fin.ofNat 64 (pointer.toNat + i))

/-- I2C_READ (R167): a START with the matching read address, and `count` bytes. -/
def execI2cRead (p : Port) (count : Nat) (s : State) : Host.Outcome State Fault Refusal :=
  let b := s.bus p
  .next <|
    s.setBus p <|
      if s.rstnAsserted then { b with state := .waiting, stall := 0, acked := false, sent := [] }
      else
        { state := .reading (windowCopy s p)
          pointer := b.pointer + BitVec.ofNat 6 count
          stall := 0
          acked := true
          sent := readBytes (windowCopy s p) b.pointer count }

/-- I2C_STALL_TIMEOUT (R168). -/
def execI2cStallTimeout (p : Port) (s : State) : Host.Outcome State Fault Refusal := .next (stallEnd p s)

/-- I2C_STOP (R165): the port leaves the transaction until the next START. -/
def execI2cStop (p : Port) (s : State) : Host.Outcome State Fault Refusal :=
  .next (s.setBus p { s.bus p with state := .waiting, stall := 0 })

/-! ## Device reset (R19, R137, R138, R174) -/

/-- DEVICE_RESET: RSTN goes low. Everything the part holds takes its reset value. -/
def execDeviceReset (s : State) : Host.Outcome State Fault Refusal :=
  .next { State.reset with rstnAsserted := true, pending := s.pending }

/-- RSTN_RELEASE (R137): each cell loads its debounced level from a sample, and no change is made or
reported for it. -/
def execRstnRelease (pads : Levels) (s : State) : Host.Outcome State Fault Refusal :=
  .next
    (if s.rstnAsserted then
      { s with
        rstnAsserted := false
        cells := vmap (fun n c => { c with debounced := has pads n }) s.cells }
    else s)

end Sys2Proof.Machine
end

