-- ==== Sys2Proof/Machine/Channels.lean ====
section
/-! DEFINITION. The instructions of the lease engine as the channels take them (R83, R107). A channel takes
them in the order sent; a row of another sort than the one in front changes nothing (log entry 4). -/

namespace Sys2Proof.Machine

def PatternInstr.isSetup : PatternInstr → Bool
  | .setup _ _ => true
  | .pause | .resume | .restart | .free => false

def GuardInstr.isSetup : GuardInstr → Bool
  | .setup _ _ _ _ => true
  | .arm | .disarm | .suspend | .unsuspend _ _ | .free => false

def GuardInstr.isUnsuspend : GuardInstr → Bool
  | .unsuspend _ _ => true
  | .setup _ _ _ _ | .arm | .disarm | .suspend | .free => false

/-- PATTERN_SETUP (R28, R107). -/
def execPatternSetup (c : PatChan) (s : State) : Host.Outcome State Fault Refusal :=
  .next (takePatternFront c PatternInstr.isSetup s)

/-- PATTERN_PAUSE (R48, R110). -/
def execPatternPause (c : PatChan) (s : State) : Host.Outcome State Fault Refusal :=
  .next (takePatternFront c (fun i => i = .pause) s)

/-- PATTERN_RESUME (R54, R110). -/
def execPatternResume (c : PatChan) (s : State) : Host.Outcome State Fault Refusal :=
  .next (takePatternFront c (fun i => i = .resume) s)

/-- PATTERN_RESTART (R111, R112). -/
def execPatternRestart (c : PatChan) (s : State) : Host.Outcome State Fault Refusal :=
  .next (takePatternFront c (fun i => i = .restart) s)

/-- PATTERN_FREE (R12, R59). -/
def execPatternFree (c : PatChan) (s : State) : Host.Outcome State Fault Refusal :=
  .next (takePatternFront c (fun i => i = .free) s)

/-- GUARD_SETUP (R28, R83). -/
def execGuardSetup (g : GuardChan) (s : State) : Host.Outcome State Fault Refusal :=
  .next (takeGuardFront g GuardInstr.isSetup s)

/-- GUARD_ARM (R89). -/
def execGuardArm (g : GuardChan) (s : State) : Host.Outcome State Fault Refusal :=
  .next (takeGuardFront g (fun i => i = .arm) s)

/-- GUARD_DISARM (R89, R90). -/
def execGuardDisarm (g : GuardChan) (s : State) : Host.Outcome State Fault Refusal :=
  .next (takeGuardFront g (fun i => i = .disarm) s)

/-- GUARD_SUSPEND (R48, R91). -/
def execGuardSuspend (g : GuardChan) (s : State) : Host.Outcome State Fault Refusal :=
  .next (takeGuardFront g (fun i => i = .suspend) s)

/-- GUARD_UNSUSPEND (R54). -/
def execGuardUnsuspend (g : GuardChan) (s : State) : Host.Outcome State Fault Refusal :=
  .next (takeGuardFront g GuardInstr.isUnsuspend s)

/-- GUARD_FREE (R59, R92). -/
def execGuardFree (g : GuardChan) (s : State) : Host.Outcome State Fault Refusal :=
  .next (takeGuardFront g (fun i => i = .free) s)

end Sys2Proof.Machine
end

