-- ==== Sys2Proof/Machine/Notices.lean ====
section
/-! DEFINITION. NEXT_NOTICE and ACK_NOTICE (chapter 9). -/

namespace Sys2Proof.Machine

/-- The result of NEXT_NOTICE for a subject of the map (R155, R178). Fields a subject does not have read as
absent (DEDUCED, log entry 20). Safe. -/
def noticeBytes (m : NoticeMap) : Subject → List Byte
  | .port => b1 0 ++ b1? none ++ b1? none ++ bSet m.port ++ b1? none ++ b1? none ++ bTicket? none ++ b1 m.count
  | .line n =>
    b1 1 ++ b1 n.val ++ b1? none ++ bSet LineKind.restFault ++ b1? none ++ b1? none ++ bTicket? none ++ b1 m.count
  | .slot k =>
    match vget m.slots k with
    | some e =>
      b1 2 ++ b1 k.val ++ [e.gen] ++ bSet e.kinds ++ b1? (e.reason.map CloseReason.code)
        ++ b1? (e.outcome.map RecallOutcome.code) ++ bTicket? e.origin ++ b1 m.count
    | none => []
  | .ticket t =>
    b1 3 ++ [t] ++ b1? none ++ bSet ((m.ticket? t).elim 0#16 (·.kinds)) ++ b1? none ++ b1? none ++ bTicket? none
      ++ b1 m.count

/-- NEXT_NOTICE (R155, R156). -/
def nextNoticeBody (p : Port) (s : State) : State × Reply :=
  match (s.map p).subjects with
  | [] => refuse s .noNotice
  | subject :: _ => (s, Reply.ok (noticeBytes (s.map p) subject))

/-- NEXT_NOTICE (R155). -/
def execNextNotice (p : Port) (s : State) : Host.Outcome State Fault Refusal :=
  command (.nextNotice p) p (nextNoticeBody p) s

/-- The subject an ACK_NOTICE names, and the kinds of its subject type; `none` for a bad subject (step 1 of
R157, R178). -/
def ackSubject (a : Args) : Option (Subject × KindSet) :=
  match argNat a 0x04 with
  | 0 => some (.port, PortKind.all)
  | 1 => (lineOf (argByte a 0x05)).map fun n => (.line n, LineKind.all)
  | 2 => (slotOf (argByte a 0x05)).map fun k => (.slot k, SlotKind.all)
  | 3 => some (.ticket (argByte a 0x05), TicketKind.all)
  | _ => none

/-- The result of an ACK_NOTICE: the kinds removed, the kinds left, and the entries in the map as the whole
step leaves it (R158, R178). DEDUCED (log entry 23), unsafe: the kinds left are those of the acknowledged entry
as the removal leaves it, also when the scan of the same step grants the slot to the asker and GRANTED
replaces that entry (R154); the number of entries is counted after that scan. -/
def ackBytes (held named : KindSet) (after : State) (p : Port) : List Byte :=
  bSet (held &&& named) ++ bSet (held &&& ~~~named) ++ b1 (after.map p).count

/-- The changed set of a live WATCH lease of port `p` under this handle is emptied (R159). -/
def ackEdge (p : Port) (k : Slot) (gen : Byte) (s : State) : State :=
  match s.lease k with
  | some l =>
    if l.holder = p ∧ (s.handle k).gen = gen ∧ l.params.isWatch ∧ l.state.live then
      s.setLease k { l with params := l.params.setChanged 0#16 }
    else s
  | none => s

/-- The CLOSED record of port `p` under this handle becomes FREE (R15, R159). -/
def ackRetired (p : Port) (k : Slot) (gen : Byte) (s : State) : State :=
  match s.lease k with
  | some l =>
    if l.holder = p ∧ (s.handle k).gen = gen ∧ l.state.isClosed then freeRecord k s else s
  | none => s

/-- An acknowledgment that has passed its checks on a slot subject (R158, R159). -/
def ackSlot (p : Port) (k : Slot) (e : SlotNotice) (named : KindSet) (s : State) : State :=
  let removed := e.kinds &&& named
  let s := s.setMap p ((s.map p).removeSlot k e.gen named)
  let s := if removed &&& SlotKind.edge = 0#16 then s else ackEdge p k e.gen s
  if removed &&& SlotKind.retired = 0#16 then s else ackRetired p k e.gen s

/-- Step 3 of R157: the first three checks of R3, asked when RETIRED is named. -/
def retiredNameBad (s : State) (k : Slot) (gen : Byte) (named : KindSet) : Bool :=
  (named &&& SlotKind.retired != 0#16) && ((s.lease k).isNone || (s.handle k).gen != gen)

/-- Steps 3 to 5 of R157 and the effect of R158 to R160. -/
def ackOn (p : Port) (gen : Byte) (named : KindSet) (s : State) : Subject → State × Reply
  | .port =>
    let held := (s.map p).port
    if held = 0#16 then refuse s .noNotice
    else
      let s' := s.setMap p { s.map p with port := held &&& ~~~named }
      (s', Reply.ok (ackBytes held named s' p))
  | .line n =>
    if has (s.map p).lines n then
      let s' := s.setMap p { s.map p with lines := (s.map p).lines &&& ~~~(single n) }
      (s', Reply.ok (ackBytes LineKind.restFault named s' p))
    else refuse s .noNotice
  | .slot k =>
    if retiredNameBad s k gen named then refuse s .badHandle
    else
      match vget (s.map p).slots k with
      | none => refuse s .noNotice
      | some e =>
        if e.gen ≠ gen then refuse s .badHandle
        else
          let s' := endStep s (ackSlot p k e named s)
          (s', Reply.ok (ackBytes e.kinds named s' p))
  | .ticket t =>
    match (s.map p).ticket? t with
    | none => refuse s .noSuchTicket
    | some e =>
      let s' := s.setMap p ((s.map p).removeTicket t named)
      (s', Reply.ok (ackBytes e.kinds named s' p))

/-- ACK_NOTICE in the order of R157. -/
def ackNoticeBody (p : Port) (s : State) : State × Reply :=
  let a := s.args p
  let named := argSet a 0x07
  match ackSubject a with
  | none => refuse s .badArgument
  | some (subject, kinds) =>
    if named = 0#16 ∨ !subset named kinds then refuse s .badArgument
    else ackOn p (argByte a 0x06) named s subject

/-- ACK_NOTICE (R157 to R160). -/
def execAckNotice (p : Port) (s : State) : Host.Outcome State Fault Refusal :=
  command (.ackNotice p) p (ackNoticeBody p) s

end Sys2Proof.Machine
end

