-- ==== Sys2Proof/Machine/Reports.lean ====
section
/-! DEFINITION. The reports as the engine takes them (R62, R88, R94, R109, R114, R117, R135, R136). -/

namespace Sys2Proof.Machine

/-- The oldest report that satisfies a test, and the reports without it. -/
def takeFirst (test : Report → Bool) : List Report → Option (Report × List Report)
  | [] => none
  | r :: rest => if test r then some (r, rest) else (takeFirst test rest).map fun x => (x.1, r :: x.2)

/-- The line a report of the line bank concerns; the reports of one line are taken in order (R136). -/
def Report.line? : Report → Option Line
  | .edge _ n _ => some n
  | .fault _ n => some n
  | .restFault n => some n
  | .settleComplete _ | .patternDone _ | .fire _ _ => none

/-- The record that the report's handle names, while the slot still holds it. -/
def named (s : State) (h : Handle) : Option Lease := if s.handle h.slot = h then s.lease h.slot else none

/-! ## Reports of the line bank -/

/-- An edge qualifies on its line: rising to 1, falling to 0 (R113). -/
def qualifies (params : KindParams) (n : Line) (v : Level) : Bool :=
  match params with
  | .watch _ rising falling _ => if v then has rising n else has falling n
  | .drive _ _ _ | .pattern _ _ | .guard _ _ _ => false

/-- The line joins the changed set, and EDGE is posted when the set was empty (R114). -/
def edgeEffect (h : Handle) (n : Line) (v : Level) (s : State) : State :=
  match named s h with
  | some l =>
    if l.state.live ∧ qualifies l.params n v then
      let s' := s.setLease h.slot { l with params := l.params.setChanged (l.params.changed ||| single n) }
      if l.params.changed = 0#16 then postSlot l.holder h.slot SlotKind.edge .none s' else s'
    else s
  | none => s

/-- EDGE_REPORT (R114). -/
def execEdgeReport (n : Line) (s : State) : Host.Outcome State Fault Refusal :=
  match takeFirst (fun r => r.line? = some n) s.reports with
  | some (.edge h m v, rest) => .next (edgeEffect h m v { s with reports := rest })
  | some (.fault _ _, _) | some (.restFault _, _) | some (.settleComplete _, _) | some (.patternDone _, _)
  | some (.fire _ _, _) | none => .next s

/-- A fault report on a held line of a live lease, not yet in the fault set (R117). -/
def faultEffect (h : Handle) (n : Line) (s : State) : State :=
  match named s h with
  | some l =>
    if l.state.live ∧ has l.lines n ∧ ¬has l.faults n then
      let s := s.setLease h.slot { l with faults := l.faults ||| single n }
      let s := postSlot l.holder h.slot SlotKind.lineFault .none s
      if (s.charter l.holder).policy = .retire ∧ l.term.isSome then retire h.slot .fault s else s
    else s
  | none => s

/-- FAULT_REPORT (R117 to R119). -/
def execFaultReport (n : Line) (s : State) : Host.Outcome State Fault Refusal :=
  match takeFirst (fun r => r.line? = some n) s.reports with
  | some (.fault h m, rest) =>
    let s := { s with reports := rest }
    .next (endStep s (faultEffect h m s))
  | some (.edge _ _ _, _) | some (.restFault _, _) | some (.settleComplete _, _) | some (.patternDone _, _)
  | some (.fire _ _, _) | none => .next s

/-- REST_FAULT_REPORT (R135). -/
def execRestFaultReport (n : Line) (s : State) : Host.Outcome State Fault Refusal :=
  match takeFirst (fun r => r.line? = some n) s.reports with
  | some (.restFault m, rest) => .next (postLine m { s with reports := rest })
  | some (.edge _ _ _, _) | some (.fault _ _, _) | some (.settleComplete _, _) | some (.patternDone _, _)
  | some (.fire _ _, _) | none => .next s

/-- The held-by entries of the slot's lines become none (R11, R62). -/
def unholdLines (k : Slot) (s : State) : State :=
  { s with heldBy := vmap (fun _ h => if h = some k then none else h) s.heldBy }

/-- The lease of a settle-complete ends by its close reason (R62). -/
def closeRecord (k : Slot) (l : Lease) (reason : CloseReason) (s : State) : State :=
  let s := unholdLines k s
  if reason = .portReset then freeRecord k s
  else
    postSlot l.holder k SlotKind.retired (.reason reason)
      (s.setLease k { l with state := .closed reason, term := l.term.map fun t => { t with remaining := none } })

/-- A report whose lease is RETIRING; any other is discarded (R62). -/
def settleEffect (h : Handle) (s : State) : State :=
  match named s h with
  | some l =>
    match l.state with
    | .retiring reason => endStepScan s (closeRecord h.slot l reason s)
    | .active | .handover _ _ | .grace _ | .closed _ => s
  | none => s

/-- SETTLE_COMPLETE (R62). -/
def execSettleComplete (k : Slot) (s : State) : Host.Outcome State Fault Refusal :=
  match takeFirst (fun r => match r with | .settleComplete h => h.slot = k | _ => false) s.reports with
  | some (.settleComplete h, rest) => .next (settleEffect h { s with reports := rest })
  | some (.edge _ _ _, _) | some (.fault _ _, _) | some (.restFault _, _) | some (.patternDone _, _)
  | some (.fire _ _, _) | none => .next s

/-! ## Reports of the sequencer and the guard monitor -/

/-- PATTERN_DONE is posted for a live lease (R109). -/
def patternDoneEffect (h : Handle) (s : State) : State :=
  match named s h with
  | some l => if l.state.live then postSlot l.holder h.slot SlotKind.patternDone .none s else s
  | none => s

/-- PATTERN_DONE_REPORT (R109). -/
def execPatternDoneReport (k : Slot) (s : State) : Host.Outcome State Fault Refusal :=
  match takeFirst (fun r => match r with | .patternDone h => h.slot = k | _ => false) s.reports with
  | some (.patternDone h, rest) => .next (patternDoneEffect h { s with reports := rest })
  | some (.edge _ _ _, _) | some (.fault _ _, _) | some (.restFault _, _) | some (.settleComplete _, _)
  | some (.fire _ _, _) | none => .next s

/-- Step 1 of R94 at one slot. -/
def recallSlot (t : Port) (k : Slot) (s : State) : State :=
  match s.lease k with
  | some l => if l.holder = t then retire k .recalled s else s
  | none => s

/-- Step 3 of R94: T's entries leave, each with WAIT_CANCELLED. -/
def cancelWaits (t : Port) (s : State) : State :=
  (waitingOf s t).foldl (fun s e => postTicket e TicketKind.waitCancelled s) (dropWaits t s)

/-- Step 4 of R94: the quiet remaining is set to the quiet time if that is larger. -/
def makeQuiet (t : Port) (time : Nat) (s : State) : State :=
  if (s.portRec t).quietRemaining < time then s.setPortRec t { s.portRec t with quiet := some time } else s

/-- The recall of port `t` (R94), its last step apart. A lease of T that is not live is left as it is. -/
def recallPort (t : Port) (time : Nat) (s : State) : State :=
  let s := cancelOffersTo t (forSlots (recallSlot t) s)
  postPort t PortKind.recalled (makeQuiet t time (cancelWaits t s))

/-- A fire report under a handle that the slot still holds: the recall is carried out in ACTIVE and dropped
otherwise, and GUARD_FIRED tells which (R88). -/
def fireEffect (h : Handle) (carried : Bool) (s : State) : State :=
  match named s h with
  | some l =>
    match carried, l.params with
    | true, .guard spec _ _ =>
      match l.state.isActive, spec.recallSpec with
      | true, some r =>
        postSlot l.holder h.slot SlotKind.guardFired (.outcome .done) (recallPort r.target r.quietTime s)
      | false, _ => postSlot l.holder h.slot SlotKind.guardFired (.outcome .dropped) s
      | true, none => postSlot l.holder h.slot SlotKind.guardFired (.outcome .none) s
    | true, .drive _ _ _ | true, .pattern _ _ | true, .watch _ _ _ _ | false, _ =>
      postSlot l.holder h.slot SlotKind.guardFired (.outcome .none) s
  | none => s

/-- FIRE_REPORT (R88, R94). -/
def execFireReport (k : Slot) (s : State) : Host.Outcome State Fault Refusal :=
  match takeFirst (fun r => match r with | .fire h _ => h.slot = k | _ => false) s.reports with
  | some (.fire h carried, rest) =>
    let s := { s with reports := rest }
    .next (endStep s (fireEffect h carried s))
  | some (.edge _ _ _, _) | some (.fault _ _, _) | some (.restFault _, _) | some (.settleComplete _, _)
  | some (.patternDone _, _) | none => .next s

end Sys2Proof.Machine
end

