-- ==== Sys2Proof/Machine/Terms.lean ====
section
/-! DEFINITION. The term tick and the ends inside it (chapter 3).

The whole of a tick is one step of the engine (R44). The ends (TERM_END, GRACE_END, OFFER_LAPSE, WAIT_EXPIRY,
QUIET_END) are operations on a countdown that stands at 0; TERM_TICK counts every countdown down and carries
out the ends it brings about. The rows of the ends run the same operations (log entry 5). -/

namespace Sys2Proof.Machine

/-! ## Counting down -/

/-- The remaining term of the term fields falls by one. -/
def Term.count (t : Term) : Term := { t with remaining := t.remaining.map (· - 1) }

/-- The countdowns of a lease record fall by one (R44): term in ACTIVE and HANDOVER, offer window in
HANDOVER, grace in GRACE. -/
def Lease.count (l : Lease) : Lease :=
  match l.state with
  | .active => { l with term := l.term.map Term.count }
  | .handover target left => { l with term := l.term.map Term.count, state := .handover target (left - 1) }
  | .grace left => { l with state := .grace (left - 1) }
  | .retiring _ | .closed _ => l

/-- The remaining term of a lease, when it has one. -/
def Lease.remaining (l : Lease) : Option Nat := l.term.bind (·.remaining)

/-- TERM_LOW is due: R46's three conditions. -/
def lowDue (l : Lease) : Bool :=
  l.state.working && decide (0 < l.warn) && !l.termLow
    && match l.remaining with
      | some r => decide (r ≤ l.warn)
      | none => false

/-- TERM_LOW is posted once per term (R46). -/
def termLowStep (k : Slot) (s : State) : State :=
  match s.lease k with
  | some l =>
    if lowDue l then postSlot l.holder k SlotKind.termLow .none (s.setLease k { l with termLow := true }) else s
  | none => s

/-! ## The ends -/

/-- The remaining term stands at 0 in ACTIVE or HANDOVER: the offer is cancelled, and the lease enters GRACE
or, with grace 0, RETIRING (R45, R47). -/
def termEndStep (k : Slot) (s : State) : State :=
  match s.lease k with
  | some l =>
    if l.state.working ∧ l.remaining = some 0 then
      if l.grace = 0 then retire k .expired s
      else postSlot l.holder k SlotKind.graceEntered .none (enterGrace k l (withdrawOffer k s))
    else s
  | none => s

/-- The grace remaining stands at 0: the lease enters RETIRING with reason EXPIRED (R49). -/
def graceEndStep (k : Slot) (s : State) : State :=
  match s.lease k with
  | some l =>
    match l.state with
    | .grace 0 => retire k .expired s
    | .grace (_ + 1) | .active | .handover _ _ | .retiring _ | .closed _ => s
  | none => s

/-- The offer remaining stands at 0 and the term does not: the lease returns to ACTIVE with OFFER_LAPSED to
its holder (R51, R76). -/
def offerLapseStep (k : Slot) (s : State) : State :=
  match s.lease k with
  | some l =>
    match l.state with
    | .handover _ 0 =>
      if l.remaining = some 0 then s
      else postSlot l.holder k SlotKind.offerLapsed .none (endOffer k s)
    | .handover _ (_ + 1) | .active | .grace _ | .retiring _ | .closed _ => s
  | none => s

/-- An entry whose wait remaining stands at 0 leaves with WAIT_EXPIRED (R38). -/
def waitExpiryStep (p : Port) (ticket : Byte) (s : State) : State :=
  match s.queue.find? fun e => e.port = p && e.ticket = ticket with
  | some e =>
    if e.waitRemaining = 0 then postTicket e TicketKind.waitExpired (removeEntry p ticket s) else s
  | none => s

/-- A quiet remaining that has reached 0: the port is no longer quiet, and QUIET_ENDED is posted (R50). -/
def quietEndStep (p : Port) (s : State) : State :=
  match (s.portRec p).quiet with
  | some 0 => postPort p PortKind.quietEnded (s.setPortRec p { s.portRec p with quiet := none })
  | some (_ + 1) | none => s

/-! ## The tick -/

/-- The tick at one slot: its countdowns fall, TERM_LOW is posted, and what has reached 0 ends. -/
def tickSlot (k : Slot) (s : State) : State :=
  match s.lease k with
  | some l =>
    offerLapseStep k (graceEndStep k (termEndStep k (termLowStep k (s.setLease k l.count))))
  | none => s

/-- Every wait remaining falls by one (R37, R44). -/
def countWaits (s : State) : State :=
  { s with queue := s.queue.map fun (e : QueueEntry) => { e with waitRemaining := e.waitRemaining - 1 } }

/-- The tick at the wait queue: every wait remaining falls by one, and the entries at 0 leave. -/
def tickQueue (s : State) : State :=
  let s := countWaits s
  s.queue.foldl (fun s (e : QueueEntry) => waitExpiryStep e.port e.ticket s) s

/-- The tick at one port's quiet remaining. -/
def tickQuiet (p : Port) (s : State) : State :=
  quietEndStep p (s.setPortRec p { s.portRec p with quiet := (s.portRec p).quiet.map (· - 1) })

/-- TERM_TICK (R44): every countdown, every end, and one scan if there was a trigger. -/
def execTermTick (s : State) : Host.Outcome State Fault Refusal :=
  .next (endStep s (forPorts tickQuiet (tickQueue (forSlots tickSlot s))))

/-- TERM_END (R45, R47, R48). -/
def execTermEnd (k : Slot) (s : State) : Host.Outcome State Fault Refusal :=
  .next (endStep s (termEndStep k s))

/-- GRACE_END (R49). -/
def execGraceEnd (k : Slot) (s : State) : Host.Outcome State Fault Refusal :=
  .next (endStep s (graceEndStep k s))

/-- OFFER_LAPSE (R51, R76). -/
def execOfferLapse (k : Slot) (s : State) : Host.Outcome State Fault Refusal :=
  .next (endStep s (offerLapseStep k s))

/-- WAIT_EXPIRY (R38). -/
def execWaitExpiry (p : Port) (ticket : Byte) (s : State) : Host.Outcome State Fault Refusal :=
  .next (endStep s (waitExpiryStep p ticket s))

/-- QUIET_END (R50). It ends with a queue scan. -/
def execQuietEnd (p : Port) (s : State) : Host.Outcome State Fault Refusal :=
  .next (if (s.portRec p).quiet = some 0 then endStepScan s (quietEndStep p s) else s)

end Sys2Proof.Machine
end

