-- ==== Sys2Proof/Machine/Dispatch.lean ====
section
/-! DEFINITION. One arm per row of spec/opcode_table.json. -/

namespace Sys2Proof.Machine

def exec (i : Instr) (s : State) : Host.Outcome State Fault Refusal :=
  match i with
  | .request p => Sys2Proof.Machine.execRequest p s
  | .cancelWait p => Sys2Proof.Machine.execCancelWait p s
  | .queryQueue p => Sys2Proof.Machine.execQueryQueue p s
  | .queryLease p => Sys2Proof.Machine.execQueryLease p s
  | .lookupLine p => Sys2Proof.Machine.execLookupLine p s
  | .renew p => Sys2Proof.Machine.execRenew p s
  | .release p => Sys2Proof.Machine.execRelease p s
  | .revoke p => Sys2Proof.Machine.execRevoke p s
  | .offer p => Sys2Proof.Machine.execOffer p s
  | .accept p => Sys2Proof.Machine.execAccept p s
  | .decline p => Sys2Proof.Machine.execDecline p s
  | .withdraw p => Sys2Proof.Machine.execWithdraw p s
  | .setGuard p => Sys2Proof.Machine.execSetGuard p s
  | .setLevels p => Sys2Proof.Machine.execSetLevels p s
  | .restartPattern p => Sys2Proof.Machine.execRestartPattern p s
  | .readLevels p => Sys2Proof.Machine.execReadLevels p s
  | .clearFault p => Sys2Proof.Machine.execClearFault p s
  | .setLineProfile p => Sys2Proof.Machine.execSetLineProfile p s
  | .setCharter p => Sys2Proof.Machine.execSetCharter p s
  | .readCharter p => Sys2Proof.Machine.execReadCharter p s
  | .resetPort p => Sys2Proof.Machine.execResetPort p s
  | .nextNotice p => Sys2Proof.Machine.execNextNotice p s
  | .ackNotice p => Sys2Proof.Machine.execAckNotice p s
  | .unknownCommand p => Sys2Proof.Machine.execUnknownCommand p s
  | .termTick => Sys2Proof.Machine.execTermTick s
  | .termEnd k => Sys2Proof.Machine.execTermEnd k s
  | .graceEnd k => Sys2Proof.Machine.execGraceEnd k s
  | .offerLapse k => Sys2Proof.Machine.execOfferLapse k s
  | .waitExpiry p ticket => Sys2Proof.Machine.execWaitExpiry p ticket s
  | .quietEnd p => Sys2Proof.Machine.execQuietEnd p s
  | .edgeReport n => Sys2Proof.Machine.execEdgeReport n s
  | .faultReport n => Sys2Proof.Machine.execFaultReport n s
  | .restFaultReport n => Sys2Proof.Machine.execRestFaultReport n s
  | .settleComplete k => Sys2Proof.Machine.execSettleComplete k s
  | .patternDoneReport k => Sys2Proof.Machine.execPatternDoneReport k s
  | .fireReport k => Sys2Proof.Machine.execFireReport k s
  | .msTick pads scl order => Sys2Proof.Machine.execMsTick pads scl order s
  | .debouncedChange n => Sys2Proof.Machine.execDebouncedChange n s
  | .driveFault n => Sys2Proof.Machine.execDriveFault n s
  | .settleCountdownEnd k => Sys2Proof.Machine.execSettleCountdownEnd k s
  | .stepEnd c => Sys2Proof.Machine.execStepEnd c s
  | .guardFire g => Sys2Proof.Machine.execGuardFire g s
  | .pulseEnd g => Sys2Proof.Machine.execPulseEnd g s
  | .patternSetup c => Sys2Proof.Machine.execPatternSetup c s
  | .patternPause c => Sys2Proof.Machine.execPatternPause c s
  | .patternResume c => Sys2Proof.Machine.execPatternResume c s
  | .patternRestart c => Sys2Proof.Machine.execPatternRestart c s
  | .patternFree c => Sys2Proof.Machine.execPatternFree c s
  | .guardSetup g => Sys2Proof.Machine.execGuardSetup g s
  | .guardArm g => Sys2Proof.Machine.execGuardArm g s
  | .guardDisarm g => Sys2Proof.Machine.execGuardDisarm g s
  | .guardSuspend g => Sys2Proof.Machine.execGuardSuspend g s
  | .guardUnsuspend g => Sys2Proof.Machine.execGuardUnsuspend g s
  | .guardFree g => Sys2Proof.Machine.execGuardFree g s
  | .i2cAddress p byte => Sys2Proof.Machine.execI2cAddress p byte s
  | .i2cOffset p byte => Sys2Proof.Machine.execI2cOffset p byte s
  | .windowWrite p byte => Sys2Proof.Machine.execWindowWrite p byte s
  | .controlGo p upper => Sys2Proof.Machine.execControlGo p upper s
  | .i2cRead p count => Sys2Proof.Machine.execI2cRead p count s
  | .i2cStallTimeout p => Sys2Proof.Machine.execI2cStallTimeout p s
  | .deviceReset => Sys2Proof.Machine.execDeviceReset s
  | .rstnRelease pads => Sys2Proof.Machine.execRstnRelease pads s
  | .i2cStop p => Sys2Proof.Machine.execI2cStop p s

end Sys2Proof.Machine
end

