-- ==== Sys2Proof/Safety.lean ====
section
/-! DEFINITION. What a safe run keeps: the agreements between the tables that the rules of chapters 1, 2 and 7
name, and the ranges of the stored values. -/

namespace Sys2Proof.Machine

/-- The lease in slot `k` holds line `n`: it is in ACTIVE, HANDOVER, GRACE or RETIRING, and `n` is one of its
lines (R10, R11). -/
def holdsLine (s : State) (k : Slot) (n : Line) : Bool :=
  match s.lease k with
  | some l => !l.state.isClosed && has l.lines n
  | none => false

/-- A line's held-by entry names exactly the slot whose lease holds the line (R11). So no line is held by two
leases. -/
def HeldRight (s : State) : Prop := ∀ n k, vget s.heldBy n = some k ↔ holdsLine s k n = true

/-- The number of records a port is the holder of, in any state. -/
def recordsOf (s : State) (p : Port) : Nat :=
  (List.finRange 24).countP fun k => (s.lease k).any fun l => l.holder == p

/-- A port's occupied count is the number of slots whose record names it as holder (R13). -/
def CountsRight (s : State) : Prop := ∀ p, (s.portRec p).occupied = recordsOf s p

/-- The pattern channel of a PATTERN lease. -/
def KindParams.patChan : KindParams → Option PatChan
  | .pattern _ c => some c
  | .drive _ _ _ | .watch _ _ _ _ | .guard _ _ _ => none

/-- The guard channel of a GUARD lease. -/
def KindParams.guardChan : KindParams → Option GuardChan
  | .guard _ _ g => some g
  | .drive _ _ _ | .pattern _ _ | .watch _ _ _ _ => none

/-- The pattern channel of the live PATTERN lease in a slot. -/
def patOf (s : State) (k : Slot) : Option PatChan :=
  (s.lease k).bind fun l => if l.state.live then l.params.patChan else none

/-- The guard channel of the live GUARD lease in a slot. -/
def guardOf (s : State) (k : Slot) : Option GuardChan :=
  (s.lease k).bind fun l => if l.state.live then l.params.guardChan else none

/-- A channel is taken exactly while a live lease has it, and two leases never share one (R12). -/
def ChannelsRight (s : State) : Prop :=
  (∀ c, vget s.patTaken c = true ↔ ∃ k, patOf s k = some c)
    ∧ (∀ c k j, patOf s k = some c → patOf s j = some c → k = j)
    ∧ (∀ g, vget s.guardTaken g = true ↔ ∃ k, guardOf s k = some g)
    ∧ (∀ g k j, guardOf s k = some g → guardOf s j = some g → k = j)

/-- The wait queue holds at most 8 entries, each with a ticket of its own, and a port's waiting entries and
ticket notices together are at most 3 (R32, R33). -/
def QueueRight (s : State) : Prop :=
  s.queue.length ≤ 8 ∧ (s.queue.map fun e => (e.port, e.ticket)).Nodup ∧ ∀ p, waitBudget s p ≤ 3

/-- The four agreements together. -/
structure Safe (s : State) : Prop where
  held : HeldRight s
  counts : CountsRight s
  channels : ChannelsRight s
  waits : QueueRight s

/-- Every stored value is in the range its rule gives it (R22, R127, R130, R133, R138, R60). -/
structure RangesRight (s : State) : Prop where
  charters : ∀ p, (s.charter p).leaseLimit ≤ 24 ∧ 1 ≤ (s.charter p).maxTerm ∧ (s.charter p).maxTerm ≤ 6000 ∧
    (s.charter p).grace ≤ 200 ∧ (s.charter p).warn ≤ 255
  profiles : ∀ n, (s.profile n).debounce ≤ 31 ∧ (s.profile n).settle ≤ 255
  cells : ∀ n, (s.cell n).stability ≤ 31 ∧ (s.cell n).mismatch ≤ 3 ∧ (s.cell n).settle ≤ 255
  stalls : ∀ p, (s.bus p).stall ≤ 25

/-! ## The terms of the statements -/

/-- Port `p`'s command has been completed with this status and result, and its port is the last one served
(R170, R172). COMMAND and ARGUMENTS, and the other three windows, are as before. -/
structure Answers (s t : State) (p : Port) (st : Status) (result : List Byte) : Prop where
  window : t.window p =
    { s.window p with
      phase := .idle, status := st, result := padResult result, sequence := (s.window p).sequence + 1#8 }
  others : ∀ q, q ≠ p → t.window q = s.window q
  served : t.lastServed = p

/-- Nothing but the window of the port that was answered, and the last port served, has changed. -/
def OnlyWindow (s t : State) : Prop := { t with windows := s.windows, lastServed := s.lastServed } = s

/-- The handle in the first two argument bytes of port `p`'s window names the lease `l` in slot `k` (R3). -/
structure Names (s : State) (p : Port) (k : Slot) (l : Lease) : Prop where
  slot : slotOf (argByte (s.args p) 0x04) = some k
  lease : s.lease k = some l
  gen : (s.handle k).gen = argByte (s.args p) 0x05

/-- The kinds that a port's map holds for the record with generation `gen` in slot `k`. -/
def kindsFor (m : NoticeMap) (k : Slot) (gen : Byte) : KindSet :=
  match vget m.slots k with
  | some e => if e.gen = gen then e.kinds else 0#16
  | none => 0#16

/-- A kind has been posted to port `q` on the record in slot `k`: it joins the kinds held for the same handle,
and an entry of an older handle is gone (R153, R154). -/
def PostedTo (s t : State) (q : Port) (k : Slot) (kind : KindSet) : Prop :=
  ∃ e, vget (t.map q).slots k = some e ∧ e.gen = (s.handle k).gen
    ∧ e.kinds = kindsFor (s.map q) k (s.handle k).gen ||| kind

/-- Port `q`'s map is as it was but for its entry of slot `k`. -/
def MapKept (s t : State) (q : Port) (k : Slot) : Prop :=
  { t.map q with slots := (s.map q).slots } = s.map q ∧ ∀ j, j ≠ k → vget (t.map q).slots j = vget (s.map q).slots j

/-- What a command or report leaves alone even when its queue scan grants: the line profiles, the channels' own
contents, the I2C interfaces, RSTN, the model's stamp and the waiting rows. -/
def EngineKept (s t : State) : Prop :=
  t.profiles = s.profiles ∧ t.patChans = s.patChans ∧ t.guardChans = s.guardChans ∧ t.buses = s.buses
    ∧ t.rstnAsserted = s.rstnAsserted ∧ t.arrivals = s.arrivals ∧ t.pending = s.pending

/-- Every record but the one in slot `k` is as it was (a queue scan fills FREE slots only). -/
def OthersKept (s t : State) (k : Slot) : Prop :=
  ∀ j, j ≠ k → (s.lease j).isSome → t.lease j = s.lease j ∧ t.handle j = s.handle j

/-- The request in port `p`'s window has passed steps 1 to 4 of R21: the port is not quiet, the arguments are
well formed, the charter permits it, and the occupied count is below the lease limit. -/
structure Admitted (s : State) (p : Port) : Prop where
  notQuiet : s.isQuiet p = false
  wellFormed : (Req.faults p (s.args p)).any id = false
  permitted : permits (s.charter p) (Req.read (s.args p)) = true
  below : (s.portRec p).occupied < (s.charter p).leaseLimit

/-- No line of the request is held or named by a waiting entry (R25). -/
def LinesFree (s : State) (r : Request) : Prop :=
  ∀ n, has r.lines n = true → vget s.heldBy n = none ∧ ∀ e ∈ s.queue, has e.request.lines n = false

/-- `k` is the lowest-numbered FREE slot (R27). -/
def LowestFree (s : State) (k : Slot) : Prop := s.lease k = none ∧ ∀ j, j < k → (s.lease j).isSome

/-- A port's map holds the kind for the record with generation `gen` in slot `k`. -/
def Holds (t : State) (q : Port) (k : Slot) (gen : Byte) (kind : KindSet) : Prop :=
  kindsFor (t.map q) k gen &&& kind = kind

/-- The lease `l` of slot `k` has entered RETIRING (R59, R60): the reason is set, the fault set emptied, every
line goes to rest, held, with its settle countdown started, an open offer is withdrawn, and a channel is told
that it is free. -/
structure Retired (s t : State) (k : Slot) (l : Lease) (reason : CloseReason) : Prop where
  record : t.lease k = some { l with state := .retiring reason, faults := 0#16 }
  handle : t.handle k = s.handle k
  lines : ∀ n, has l.lines n = true →
    (t.cell n).assigned = none ∧ (t.cell n).settle = (s.profile n).settle ∧ (t.cell n).mismatch = 0
      ∧ vget t.heldBy n = some k
  settling : vget t.settling k = some { gen := (s.handle k).gen, lines := l.lines, ticked := false }
  offer : ∀ target left, l.state = .handover target left →
    Holds t target k (s.handle k).gen SlotKind.offerWithdrawn
  pattern : ∀ spec c, l.params = .pattern spec c → PatternInstr.free ∈ vget t.patInbox c
  guard : ∀ spec armed g, l.params = .guard spec armed g → GuardInstr.free ∈ vget t.guardInbox g

/-- The command is refused: it completes with the status and an empty result, and nothing but the window
changes. -/
def Refuses (i : Instr) (s : State) (p : Port) (st : Status) : Prop :=
  ∃ t, exec i s = .next t ∧ Answers s t p st [] ∧ OnlyWindow s t

/-- A port's map holds the kind for its ticket. -/
def HoldsTicket (t : State) (p : Port) (ticket : Byte) (kind : KindSet) : Prop :=
  ∃ x ∈ (t.map p).tickets, x.ticket = ticket ∧ x.kinds &&& kind = kind

/-- `r` is the oldest report on its way among those of its sort, and `rest` are the reports without it. -/
def NextReport (s : State) (sort : Report → Prop) (r : Report) (rest : List Report) : Prop :=
  ∃ older younger, s.reports = older ++ r :: younger ∧ rest = older ++ younger ∧ ∀ x ∈ older, ¬sort x

/-- Every record is as it was (a queue scan fills FREE slots only). -/
def RecordsKept (s t : State) : Prop := ∀ j, (s.lease j).isSome → t.lease j = s.lease j ∧ t.handle j = s.handle j

/-- The windows, the last port served and the charters are as they were. -/
def HostSideKept (s t : State) : Prop :=
  t.windows = s.windows ∧ t.lastServed = s.lastServed ∧ t.charters = s.charters

/-- What keeps an entry waiting, the entries in front of it being `older` (R34, R36): one of its lines is held or
named by an older entry, no slot is FREE, its port's occupied count is not below the lease limit, or its kind
needs a channel and none is free. -/
def Waits (s : State) (older : List QueueEntry) (e : QueueEntry) : Prop :=
  (∃ n, has e.request.lines n = true ∧
      ((vget s.heldBy n).isSome = true ∨ ∃ x ∈ older, has x.request.lines n = true))
    ∨ (∀ k, (s.lease k).isSome = true)
    ∨ (s.charter e.port).leaseLimit ≤ (s.portRec e.port).occupied
    ∨ channelFree s e.request = false

/-- Every entry of a list is permitted by its port's charter and waits behind those in front of it. -/
def WaitsInOrder (s : State) (q : List QueueEntry) : Prop :=
  ∀ older e younger, q = older ++ e :: younger →
    permits (s.charter e.port) e.request = true ∧ Waits s older e

/-- No waiting entry could be granted, and none is one that its charter does not permit (R34). -/
def EveryEntryWaits (s : State) : Prop := WaitsInOrder s s.queue

/-- The queue and the ticket notices stand in the order their tickets were issued, every stamp was given before
the next one to give, and no ticket has an entry in both (R31, R33, R156). -/
structure TicketsRight (s : State) : Prop where
  queue : (s.queue.map (·.arrival)).Pairwise (· < ·)
  queueBefore : ∀ e ∈ s.queue, e.arrival < s.arrivals
  notices : ∀ p, ((s.map p).tickets.map (·.arrival)).Pairwise (· < ·)
  noticesBefore : ∀ p, ∀ x ∈ (s.map p).tickets, x.arrival < s.arrivals
  distinct : ∀ p, ((s.map p).tickets.map (·.ticket)).Nodup
  apart : ∀ p, ∀ x ∈ (s.map p).tickets, ∀ e ∈ s.queue, e.port = p → e.ticket ≠ x.ticket ∧ e.arrival ≠ x.arrival

/-- The lease `l` of slot `k` was granted to the waiting entry `e` (R29): the record carries the entry's port,
lines and ticket, the lines name the slot, and GRANTED stands in the port's map with the ticket. -/
structure GrantedTo (t : State) (k : Slot) (l : Lease) (e : QueueEntry) : Prop where
  record : t.lease k = some l
  holder : l.holder = e.port
  lines : l.lines = e.request.lines
  active : l.state = .active
  origin : l.origin = some { port := e.port, number := e.ticket }
  held : ∀ n, has e.request.lines n = true → vget t.heldBy n = some k
  notice : ∃ x, vget (t.map e.port).slots k = some x ∧ x.gen = (t.handle k).gen
    ∧ x.kinds &&& SlotKind.granted = SlotKind.granted ∧ x.origin = some e.ticket

/-- A grant of `r` into slot `k` has set up its kind (R12, R28): the lines start at the levels of the kind with
their checks afresh, and the lowest-numbered free channel is taken and told its set-up. -/
def SetsUpKind (s t : State) (k : Slot) (r : Request) (params : KindParams) : Prop :=
  (∀ n, has r.lines n = true → (t.cell n).mismatch = 0)
    ∧ match r.kind with
      | .drive dt lv safe =>
        params = .drive dt lv safe ∧ ∀ n, has r.lines n = true → (t.cell n).assigned = some (has lv n)
      | .pattern spec =>
        ∃ c, params = .pattern spec c ∧ vget s.patTaken c = false ∧ vget t.patTaken c = true
          ∧ (∀ d, d < c → vget s.patTaken d = true)
          ∧ vget t.patInbox c = vget s.patInbox c ++ [.setup (t.handle k) spec]
          ∧ ∀ n, has r.lines n = true →
              (t.cell n).assigned = some (has ((spec.steps.head?.map (·.levels)).getD 0#16) n)
      | .watch pull rising falling =>
        params = .watch pull rising falling 0#16 ∧ ∀ n, has r.lines n = true → (t.cell n).assigned = none
      | .guard spec armed =>
        ∃ g, params = .guard spec armed g ∧ vget s.guardTaken g = false ∧ vget t.guardTaken g = true
          ∧ (∀ d, d < g → vget s.guardTaken d = true)
          ∧ vget t.guardInbox g = vget s.guardInbox g ++ [.setup (t.handle k) spec armed
              (spec.conditions.all fun c => (s.cell c.line).debounced == c.level)]
          ∧ ∀ n, has r.lines n = true → (t.cell n).assigned = spec.action.map fun a => !a.pulseLevel

/-- The channels other than the one in `params` are neither taken nor told anything. -/
def OtherChannelsKept (s t : State) (params : KindParams) : Prop :=
  (∀ c, params.patChan ≠ some c → vget t.patTaken c = vget s.patTaken c ∧ vget t.patInbox c = vget s.patInbox c)
    ∧ ∀ g, params.guardChan ≠ some g →
      vget t.guardTaken g = vget s.guardTaken g ∧ vget t.guardInbox g = vget s.guardInbox g

/-- The lease `l` of slot `k` has entered GRACE (R47, R48): an open offer is withdrawn, GRACE_ENTERED is posted, the
lines show the safe levels or keep theirs with their checks afresh (log entry 16), and the channel is told. -/
structure InGrace (s t : State) (k : Slot) (l : Lease) : Prop where
  record : t.lease k = some { l with state := .grace l.grace }
  handle : t.handle k = s.handle k
  notice : Holds t l.holder k (s.handle k).gen SlotKind.graceEntered
  offer : ∀ target left, l.state = .handover target left →
    Holds t target k (s.handle k).gen SlotKind.offerWithdrawn
  lines : ∀ n, has l.lines n = true → t.cell n =
    { s.cell n with
      mismatch := 0
      assigned := match l.params with
        | .drive _ lv safe => some (has (safe.getD lv) n)
        | .pattern spec _ => (spec.safe.map fun lv => has lv n).or (s.cell n).assigned
        | .watch _ _ _ _ => (s.cell n).assigned
        | .guard spec _ _ => (spec.action.map fun a => !a.pulseLevel).or (s.cell n).assigned }
  pattern : ∀ spec c, l.params = .pattern spec c → vget t.patInbox c = vget s.patInbox c ++ [.pause]
  guard : ∀ spec armed g, l.params = .guard spec armed g →
    vget t.guardInbox g = vget s.guardInbox g ++ [.suspend]

/-- The next term tick brings the term or the grace of the lease to its end (R45, R49). -/
def EndsAtTick (l : Lease) : Prop :=
  ((l.state = .active ∨ ∃ q left, l.state = .handover q left)
      ∧ ∃ r, l.term.bind (·.remaining) = some r ∧ r ≤ 1)
    ∨ ∃ left, l.state = .grace left ∧ left ≤ 1

/-- No channel of the slot that holds line `n` comes to the end of a countdown at the next 1 ms tick, so that the
tick sends the line no level. -/
def LineLeftAlone (s : State) (n : Line) : Prop :=
  (∀ c ch m left, vget s.patChans c = some ch → vget s.heldBy n = some ch.handle.slot →
      ch.phase = .running m left → 2 ≤ m)
    ∧ ∀ g ch m, vget s.guardChans g = some ch → vget s.heldBy n = some ch.handle.slot →
      (ch.substate = .holding m ∨ ch.substate = .firing m) → 2 ≤ m

/-- No other channel was set up for the record of pattern channel `c`'s handle `h`. -/
def OnlyPattern (s : State) (c : PatChan) (h : Handle) : Prop :=
  (∀ d x, d ≠ c → vget s.patChans d = some x → x.handle ≠ h) ∧ ∀ g x, vget s.guardChans g = some x → x.handle ≠ h

/-- No other channel was set up for the record of guard channel `g`'s handle `h`. -/
def OnlyGuard (s : State) (g : GuardChan) (h : Handle) : Prop :=
  (∀ d x, d ≠ g → vget s.guardChans d = some x → x.handle ≠ h) ∧ ∀ c x, vget s.patChans c = some x → x.handle ≠ h

/-- The levels of a channel have reached the lines of its lease, if the slot still holds the handle, in a state the
channel may act in, and the lines name the slot (R125). -/
def LinesShow (s t : State) (h : Handle) (mayAct : LeaseState → Prop) (level : Line → Level) : Prop :=
  ∀ l n, s.lease h.slot = some l → s.handle h.slot = h → mayAct l.state → has l.lines n = true →
    vget s.heldBy n = some h.slot → (t.cell n).assigned = some (level n)

/-- Every condition of a guard is true on the debounced levels (R83). -/
def AllTrue (s : State) (cs : List Condition) : Bool := cs.all fun c => (s.cell c.line).debounced == c.level

end Sys2Proof.Machine
end

