-- ==== Sys2Proof/Certificates/Slice0/Obligations.lean ====
section
/-! DEFINITION. The statements for the provers. Each docstring names the rules of spec/ it is drawn from. -/

open Sys2Proof Sys2Proof.Machine

/-! ## The part as a whole -/

/-- A step runs the command at the front of the queue on the state with the queue's rest (log entries 2, 3). -/
def Obligations.StepRunsFrontCommand : Prop :=
  (∀ (c : Instr) (rest : List Instr) (s : State),
      step { s with pending := c :: rest } = exec c { s with pending := rest })
    ∧ ∀ s : State, s.pending = [] → step s = .next s

/-- The values after device reset (R2, R19, R31, R103, R122, R127, R137, R138, R174). The debounced levels are
the model's choice (log entry 1) and are not stated. -/
def Obligations.ResetValues : Prop :=
  let s := State.reset
  (∀ k, s.lease k = none ∧ (s.handle k).gen = 0#8 ∧ vget s.settling k = none)
    ∧ (∀ n, vget s.heldBy n = none ∧ (s.cell n).assigned = none ∧ (s.cell n).stability = 0
        ∧ (s.cell n).mismatch = 0 ∧ (s.cell n).settle = 0 ∧ appliedConfig s n = .highImpedance
        ∧ s.profile n = { rest := .hiZ, debounce := 4, settle := 0, faultCheck := false, restFault := false })
    ∧ (∀ c, vget s.patTaken c = false ∧ vget s.patChans c = none ∧ vget s.patInbox c = [])
    ∧ (∀ g, vget s.guardTaken g = false ∧ vget s.guardChans g = none ∧ vget s.guardInbox g = [])
    ∧ (∀ p, (s.portRec p).occupied = 0 ∧ s.isQuiet p = false ∧ (s.portRec p).ticketCounter = 0#8
        ∧ (s.map p).subjects = [] ∧ attention s p = false ∧ (s.window p).phase = .idle
        ∧ (s.bus p).state = .waiting ∧ (s.bus p).stall = 0 ∧ (s.bus p).pointer = 0#6)
    ∧ (∀ p off, off < 0x3C → windowByte s p off = 0#8)
    ∧ (∀ p, windowByte s p 0x3C = BitVec.ofNat 8 p.val ∧ windowByte s p 0x3D = 0#8)
    ∧ s.charter 0 = ⟨0xFFFF#16, 24, 6000, 100, 100, true, true, .hold⟩
    ∧ (∀ p, p ≠ 0 → s.charter p = ⟨0#16, 0, 6000, 100, 100, false, false, .hold⟩)
    ∧ s.queue = [] ∧ s.reports = [] ∧ s.lastServed = 3

/-- The four agreements hold after reset, the stored values are in their ranges, no entry waits, and the ticket orders
hold (R11, R12, R13, R31, R33, R34). -/
def Obligations.InvariantsAtReset : Prop :=
  Safe State.reset ∧ RangesRight State.reset ∧ EveryEntryWaits State.reset ∧ TicketsRight State.reset

/-- Every step keeps the four agreements: the held-by entries name exactly the leases that hold the lines, the
occupied counts are right, channels are taken exactly by live leases and never shared, and the queue and the
wait budgets keep their bounds (R11, R12, R13, R32, R33). -/
def Obligations.SafeKeptByEveryStep : Prop := ∀ s t : State, Safe s → step s = .next t → Safe t

/-- Every step keeps the charters, profiles, cells and stall counts in their ranges (R60, R127, R130, R133,
R138, R168). -/
def Obligations.RangesKeptByEveryStep : Prop :=
  ∀ s t : State, RangesRight s → step s = .next t → RangesRight t

/-- After every step no waiting entry could be granted and none is one that its charter does not permit, if that held
before: each is blocked by a held line, an older entry, the slots, its port's limit or the channels (R34 to R36). -/
def Obligations.WaitingEntriesStayBlocked : Prop :=
  ∀ s t : State, EveryEntryWaits s → step s = .next t → EveryEntryWaits t

/-- Every step keeps the waiting entries and each port's ticket notices in the order their tickets were issued, and no
ticket in two places (R31, R33, R156). A ticket notice comes from an earlier notice or a waiting entry of the port, an
entry of the queue was there before or is the one its REQUEST adds, and an entry leaves by a ticket notice, by a grant
that carries its ticket, by its own CANCEL_WAIT, by a reset of its port, or by device reset (R29, R33). -/
def Obligations.TicketsStayInOrder : Prop :=
  (∀ s t : State, Safe s → TicketsRight s → step s = .next t → TicketsRight t)
    ∧ ∀ (i : Instr) (s t : State), Safe s → TicketsRight s → exec i s = .next t →
      let same := fun (e x : QueueEntry) => { x with waitRemaining := e.waitRemaining } = e
      (∀ p, ∀ x ∈ (t.map p).tickets,
          (∃ y ∈ (s.map p).tickets, y.ticket = x.ticket ∧ y.arrival = x.arrival)
            ∨ ∃ e ∈ s.queue, e.port = p ∧ e.ticket = x.ticket ∧ e.arrival = x.arrival)
      ∧ (∀ x ∈ t.queue, (∃ e ∈ s.queue, same e x)
          ∨ (i = .request x.port ∧ x.arrival = s.arrivals ∧ t.queue = s.queue ++ [x]))
      ∧ ∀ e ∈ s.queue, i ≠ .deviceReset →
          (∃ x ∈ t.queue, same e x)
            ∨ (∃ x ∈ (t.map e.port).tickets, x.ticket = e.ticket ∧ x.arrival = e.arrival)
            ∨ (∃ k l, GrantedTo t k l e)
            ∨ (i = .cancelWait e.port ∧ argByte (s.args e.port) 0x04 = e.ticket)
            ∨ ∃ q, i = .resetPort q ∧ argNat (s.args q) 0x04 = e.port.val

/-- A line is held by at most one lease, and at most 6 PATTERN and 4 GUARD leases are live (R11, R12). -/
def Obligations.NoTwoLeasesShare : Prop :=
  ∀ s : State, Safe s →
    (∀ j k l m, s.lease j = some l → s.lease k = some m → j ≠ k → l.state.isClosed = false →
        m.state.isClosed = false → l.lines &&& m.lines = 0#16)
      ∧ ((List.finRange 24).filter fun k => (patOf s k).isSome).length ≤ 6
      ∧ ((List.finRange 24).filter fun k => (guardOf s k).isSome).length ≤ 4

/-- A slot's generation changes only when the slot is taken by a grant, and then by the increment of R2: from 255 to
1, and by one otherwise. The grant is that of the REQUEST taken, without an origin ticket, or one that a scan makes to
a waiting entry, which has then left the queue (R27, R29). Device reset apart. -/
def Obligations.GenerationChangesAtGrant : Prop :=
  ∀ (i : Instr) (s t : State) (k : Slot), i ≠ .deviceReset → exec i s = .next t →
    (t.handle k).gen ≠ (s.handle k).gen →
      (t.handle k).gen = (if (s.handle k).gen = 255#8 then 1#8 else (s.handle k).gen + 1#8)
        ∧ ∃ l, t.lease k = some l ∧ l.state = .active
          ∧ ((∃ p, i = .request p ∧ l.holder = p ∧ l.lines = (Req.read (s.args p)).lines ∧ l.origin = none)
            ∨ ∃ e ∈ s.queue, GrantedTo t k l e
                ∧ (Safe s → ∀ x ∈ t.queue, (x.port, x.ticket) ≠ (e.port, e.ticket)))

/-- Only P0's SET_CHARTER and device reset change a charter (R139, R143). Only P0's SET_LINE_PROFILE, a drive fault
found in a 1 ms tick, and device reset change a line profile, and a drive fault changes nothing but rest-fault flags
(R128, R135). -/
def Obligations.ChartersAndProfilesChangeByAdmin : Prop :=
  ∀ (i : Instr) (s t : State), exec i s = .next t →
    (t.charters ≠ s.charters → i = .setCharter 0 ∨ i = .deviceReset)
    ∧ (t.profiles ≠ s.profiles → i = .setLineProfile 0 ∨ i = .deviceReset
      ∨ (((∃ n, i = .driveFault n) ∨ ∃ pads scl order, i = .msTick pads scl order)
          ∧ ∀ n, { t.profile n with restFault := (s.profile n).restFault } = s.profile n))

/-- A port's window changes only by its own commands and data bytes, by a port reset from P0, and by
device reset (R148, R166, R172). -/
def Obligations.WindowChangesByOwnPort : Prop :=
  ∀ (i : Instr) (s t : State) (q : Port), exec i s = .next t → t.window q ≠ s.window q →
    (∃ code, i = decodeCommand q code) ∨ (∃ byte, i = .windowWrite q byte) ∨ (∃ upper, i = .controlGo q upper)
      ∨ i = .resetPort 0 ∨ i = .deviceReset

/-! ## Commands through the window -/

/-- The intake arbiter serves the first port with a PENDING command in the cyclic order after the last port
served (R170). -/
def Obligations.ArbiterServesInTurn : Prop :=
  ∀ (s : State) (p : Port), nextPort s = some p ↔
    (s.window p).phase = .pending ∧
      ∀ q, (s.window q).phase = .pending → p - s.lastServed - 1 ≤ q - s.lastServed - 1

/-- Every command that the arbiter passes, RESET_PORT apart, is completed: its status and 24 result bytes are
written, SEQUENCE counts, GO clears, COMMAND and ARGUMENTS stay, the other windows stay, and its port is the
last one served (R170, R172). -/
def Obligations.TakenCommandCompletes : Prop :=
  ∀ (p : Port) (s : State), let i := decodeCommand p (s.window p).command
    takes s i p = true → i ≠ .resetPort p →
      ∃ t st result, exec i s = .next t ∧ Answers s t p st result
        ∧ EngineKept { s with profiles := t.profiles, arrivals := t.arrivals } t

/-- A code that is not in the command table completes with UNKNOWN_COMMAND, and REVOKE, SET_LINE_PROFILE and
SET_CHARTER from P1 to P3 complete with NOT_ADMIN (R171). The handle checks of the holder commands, ACCEPT, DECLINE
and REVOKE from P0: a slot above 23 is answered BAD_ARGUMENT; a FREE slot or another generation, and for a holder
command another holder, BAD_HANDLE (R3). Nothing but the window changes. -/
def Obligations.CommonRefusals : Prop :=
  ∀ (p : Port) (s : State),
    let holderCommands := [Instr.renew p, .release p, .offer p, .withdraw p, .setGuard p, .setLevels p,
      .restartPattern p, .readLevels p, .clearFault p]
    (takes s (.unknownCommand p) p = true → Refuses (.unknownCommand p) s p .unknownCommand)
    ∧ (∀ i ∈ [Instr.revoke p, .setLineProfile p, .setCharter p], p ≠ 0 → takes s i p = true →
        Refuses i s p .notAdmin)
    ∧ ∀ i, (i ∈ holderCommands ∨ i = .accept p ∨ i = .decline p ∨ (p = 0 ∧ i = .revoke p)) → takes s i p = true →
      (slotOf (argByte (s.args p) 0x04) = none → Refuses i s p .badArgument)
        ∧ ∀ k, slotOf (argByte (s.args p) 0x04) = some k →
          (s.lease k = none ∨ (s.handle k).gen ≠ argByte (s.args p) 0x05
            ∨ (i ∈ holderCommands ∧ ∃ l, s.lease k = some l ∧ l.holder ≠ p)) →
          Refuses i s p .badHandle

/-! ## Requests and the wait queue -/

/-- A REQUEST that passes every step is granted (R4, R11, R13, R21, R27): the lowest FREE slot takes the record
with its generation advanced, the lines name the slot, the count rises, and the result gives the handle, the
term applied and the clamped flag. -/
def Obligations.RequestGranted : Prop :=
  ∀ (p : Port) (s : State) (k : Slot), let r := Req.read (s.args p); let c := s.charter p
    let term := if r.term = 0 then c.maxTerm else min r.term c.maxTerm
    takes s (.request p) p = true → Admitted s p → LinesFree s r → LowestFree s k → channelFree s r = true →
    ∃ t l, exec (.request p) s = .next t
      ∧ Answers s t p .ok ([BitVec.ofNat 8 k.val, (t.handle k).gen] ++ b2 (if r.pinned then 0 else term)
          ++ bFlag (!r.pinned && decide (c.maxTerm < r.term)))
      ∧ t.lease k = some l
      ∧ (t.handle k).gen = (if (s.handle k).gen = 255#8 then 1#8 else (s.handle k).gen + 1#8)
      ∧ l.holder = p ∧ l.lines = r.lines ∧ l.state = .active
      ∧ l.term = (if r.pinned then none else some { granted := term, remaining := some term })
      ∧ l.grace = c.grace ∧ l.warn = c.warn ∧ l.termLow = false ∧ l.outOfCharter = false ∧ l.origin = none
      ∧ l.faults = 0#16
      ∧ (∀ n, vget t.heldBy n = if has r.lines n then some k else vget s.heldBy n)
      ∧ (∀ q, t.portRec q = if q = p then { s.portRec p with occupied := (s.portRec p).occupied + 1 }
          else s.portRec q)
      ∧ OthersKept s t k ∧ EngineKept s t ∧ t.queue = s.queue ∧ t.maps = s.maps ∧ t.charters = s.charters
      ∧ t.reports = s.reports ∧ t.settling = s.settling

/-- What a grant by REQUEST does for the kind, in every state in which the tables agree (R11, R12, R28): the assigned
levels of the lines, the channel taken and its set-up, the mismatch counts started afresh; the debounce filters, the
other channels and the cells of the other lines stay. -/
def Obligations.GrantSetsUpKind : Prop :=
  ∀ (p : Port) (s : State) (k : Slot), let r := Req.read (s.args p)
    Safe s → takes s (.request p) p = true → Admitted s p → LinesFree s r → LowestFree s k → channelFree s r = true →
    ∃ t l, exec (.request p) s = .next t ∧ t.lease k = some l ∧ SetsUpKind s t k r l.params
      ∧ OtherChannelsKept s t l.params
      ∧ (∀ n, (t.cell n).debounced = (s.cell n).debounced ∧ (t.cell n).stability = (s.cell n).stability)
      ∧ ∀ n, has r.lines n = false → t.cell n = s.cell n

/-- A REQUEST with a wait limit that cannot be granted now joins the queue at the young end when the queue and
the port's wait budget have room; its ticket is the first value after the port's counter that the port has not in use,
reached within four advances, it takes the next stamp, and the result gives ticket, position and wait (R26, R31). -/
def Obligations.RequestQueued : Prop :=
  ∀ (p : Port) (s : State), let r := Req.read (s.args p)
    let next := fun (x : Byte) => if x = 255#8 then 1#8 else x + 1#8
    takes s (.request p) p = true → Admitted s p → 0 < r.waitLimit →
    (¬LinesFree s r ∨ (∀ k, (s.lease k).isSome) ∨ channelFree s r = false) →
    s.queue.length < 8 → waitBudget s p < 3 →
    ∃ t e, exec (.request p) s = .next t
      ∧ t.queue = s.queue ++ [e] ∧ e.port = p ∧ e.request = r ∧ e.args = s.args p
      ∧ e.waitRemaining = r.waitLimit ∧ e.ticket ≠ 0#8 ∧ e.ticket ∉ ticketsInUse s p
      ∧ (∃ j, j ≤ 3 ∧ e.ticket = next^[j + 1] (s.portRec p).ticketCounter
          ∧ ∀ i, i < j → next^[i + 1] (s.portRec p).ticketCounter ∈ ticketsInUse s p)
      ∧ e.arrival = s.arrivals ∧ t.arrivals = s.arrivals + 1
      ∧ Answers s t p .queued ([e.ticket] ++ b1 s.queue.length ++ b2 r.waitLimit)
      ∧ (∀ q, t.portRec q = if q = p then { s.portRec p with ticketCounter := e.ticket } else s.portRec q)
      ∧ OnlyWindow s { t with queue := s.queue, portRecs := s.portRecs, arrivals := s.arrivals }

/-- The refusals of REQUEST in their order, with nothing but the window changed (R21 to R26), and what makes the
arguments malformed, kind by kind: some of the bounds of R22, at their edges. -/
def Obligations.RequestRefused : Prop :=
  (∀ (p : Port) (s : State), let r := Req.read (s.args p)
      let refused := fun (st : Status) (result : List Byte) =>
        ∃ t, exec (.request p) s = .next t ∧ Answers s t p st result ∧ OnlyWindow s t
      takes s (.request p) p = true →
      (s.isQuiet p = true → refused .portQuiet [])
      ∧ (s.isQuiet p = false → (Req.faults p (s.args p)).any id = true → refused .badArgument [])
      ∧ (s.isQuiet p = false → (Req.faults p (s.args p)).any id = false → permits (s.charter p) r = false →
          refused .notPermitted [])
      ∧ (s.isQuiet p = false → (Req.faults p (s.args p)).any id = false → permits (s.charter p) r = true →
          (s.charter p).leaseLimit ≤ (s.portRec p).occupied → refused .portLimit (b1 1))
      ∧ (Admitted s p → r.waitLimit = 0 → ∀ n, has r.lines n = true →
          (∀ m, m < n → has r.lines m = true →
            vget s.heldBy m = none ∧ ∀ e ∈ s.queue, has e.request.lines m = false) →
          (∀ k, vget s.heldBy n = some k → refused .linesBusy (b1 n.val ++ b1 0 ++ bHandle (s.handle k)))
          ∧ (vget s.heldBy n = none → (∃ e ∈ s.queue, has e.request.lines n = true) →
              refused .linesBusy (b1 n.val ++ b1 1 ++ b2 0xFFFF)))
      ∧ (Admitted s p → r.waitLimit = 0 → LinesFree s r → (∀ k, (s.lease k).isSome) → refused .tableFull [])
      ∧ (Admitted s p → r.waitLimit = 0 → LinesFree s r → (∃ k, s.lease k = none) → channelFree s r = false →
          refused .noChannel [])
      ∧ (Admitted s p → 0 < r.waitLimit →
          (¬LinesFree s r ∨ (∀ k, (s.lease k).isSome) ∨ channelFree s r = false) →
          (8 ≤ s.queue.length → refused .queueFull [])
          ∧ (s.queue.length < 8 → 3 ≤ waitBudget s p → refused .portLimit (b1 2))))
  ∧ ∀ (p : Port) (a : Args),
      (4 ≤ argNat a 0x04 / 16 → (Req.faults p a).any id = true)
      ∧ (6000 < argWord a 0x0A → (Req.faults p a).any id = true)
      ∧ (6000 < argWord a 0x08 → (argByte a 0x04).getLsbD 0 = false → (Req.faults p a).any id = true)
      ∧ (argNat a 0x04 / 16 < 3 → argSet a 0x06 = 0#16 → (Req.faults p a).any id = true)
      ∧ (argNat a 0x04 / 16 = 0 → argWord a 0x0A ≤ 6000 →
          (argWord a 0x08 ≤ 6000 ∨ (argByte a 0x04).getLsbD 0 = true) → argSet a 0x06 ≠ 0#16 →
          argNat a 0x05 ≤ 1 → (Req.faults p a).any id = false)
      ∧ (argNat a 0x04 / 16 = 1 → (argNat a 0x0C = 0 ∨ 6 < argNat a 0x0C) → (Req.faults p a).any id = true)
      ∧ (argNat a 0x04 / 16 = 2 → 2 < argNat a 0x05 → (Req.faults p a).any id = true)
      ∧ (argNat a 0x04 / 16 = 3 → (argWord a 0x0C = 0 ∨ 1000 < argWord a 0x0C ∨ argNat a 0x0E = 0
          ∨ 4 < argNat a 0x0E) → (Req.faults p a).any id = true)
      ∧ (argNat a 0x04 / 16 = 3 → (argByte a 0x04).getLsbD 3 = true →
          (argNat a 0x11 = p.val ∨ 3 < argNat a 0x11 ∨ 6000 < argWord a 0x12) → (Req.faults p a).any id = true)

/-- The queue scan examines the entries once each, oldest first (R29, R36). An entry that its charter permits, with its
lines unheld and named by no older entry, a slot FREE, its port below the limit and a channel free, is granted: the
lowest FREE slot takes the record with the ticket as origin, GRANTED is posted, the kind is set up, and the entry
leaves with the queue closed up; with no younger entry nothing else changes but the count. From any state an entry stays
as it was, leaves with WAIT_REFUSED, or is granted; every record stays; no entry is granted lines that an older entry
still waits for (R30); and every entry that is left waits. -/
def Obligations.ScanGrants : Prop :=
  (∀ (s : State) (older younger : List QueueEntry) (e : QueueEntry) (k : Slot),
    let r := e.request; let c := s.charter e.port; let t := scan s
    let term := if r.term = 0 then c.maxTerm else min r.term c.maxTerm
    s.queue = older ++ e :: younger → WaitsInOrder s older → permits c r = true →
    (∀ n, has r.lines n = true → vget s.heldBy n = none ∧ ∀ x ∈ older, has x.request.lines n = false) →
    LowestFree s k → (s.portRec e.port).occupied < c.leaseLimit → channelFree s r = true →
    ∃ l, GrantedTo t k l e
      ∧ (t.handle k).gen = (if (s.handle k).gen = 255#8 then 1#8 else (s.handle k).gen + 1#8)
      ∧ l.term = (if r.pinned then none else some { granted := term, remaining := some term })
      ∧ l.grace = c.grace ∧ l.warn = c.warn ∧ l.termLow = false ∧ l.outOfCharter = false ∧ l.faults = 0#16
      ∧ SetsUpKind s t k r l.params
      ∧ (∃ rest, t.queue = older ++ rest ∧ rest.Sublist younger)
      ∧ (s.portRec e.port).occupied < (t.portRec e.port).occupied
      ∧ (kindsFor (s.map e.port) k (t.handle k).gen = 0#16 →
          kindsFor (t.map e.port) k (t.handle k).gen = SlotKind.granted)
      ∧ (younger = [] → t.queue = older
        ∧ (∀ n, vget t.heldBy n = if has r.lines n then some k else vget s.heldBy n)
        ∧ (∀ n, has r.lines n = false → t.cell n = s.cell n)
        ∧ (∀ q, t.portRec q = if q = e.port then { s.portRec q with occupied := (s.portRec q).occupied + 1 }
            else s.portRec q)
        ∧ waitBudget t e.port + 1 = waitBudget s e.port
        ∧ MapKept s t e.port k ∧ (∀ q, q ≠ e.port → t.map q = s.map q)
        ∧ (∀ j, j ≠ k → vget t.slots j = vget s.slots j) ∧ OtherChannelsKept s t l.params))
  ∧ ∀ s : State, let t := scan s
      (∀ e ∈ s.queue, e ∈ t.queue
        ∨ (permits (s.charter e.port) e.request = false ∧ HoldsTicket t e.port e.ticket TicketKind.waitRefused)
        ∨ ∃ k l, s.lease k = none ∧ GrantedTo t k l e)
      ∧ (∀ older e younger, s.queue = older ++ e :: younger → permits (s.charter e.port) e.request = true →
          e ∉ t.queue → ∀ x ∈ older, x ∈ t.queue → x.request.lines &&& e.request.lines = 0#16)
      ∧ t.queue.Sublist s.queue ∧ EveryEntryWaits t ∧ RecordsKept s t
      ∧ (∀ q, (t.portRec q).quiet = (s.portRec q).quiet ∧ (t.portRec q).ticketCounter = (s.portRec q).ticketCounter
          ∧ (t.map q).port = (s.map q).port ∧ (t.map q).lines = (s.map q).lines)
      ∧ EngineKept s t ∧ HostSideKept s t ∧ t.reports = s.reports ∧ t.settling = s.settling

/-- CANCEL_WAIT removes the asking port's entry with the ticket and posts nothing for it, no entry joins the
queue and no record that stands changes; without such an entry it answers NO_SUCH_TICKET (R39). -/
def Obligations.CancelWait : Prop :=
  ∀ (p : Port) (s : State), takes s (.cancelWait p) p = true →
    ((∃ e ∈ s.queue, e.port = p ∧ e.ticket = argByte (s.args p) 0x04) →
      ∃ t, exec (.cancelWait p) s = .next t ∧ Answers s t p .ok []
        ∧ List.Sublist t.queue (s.queue.filter fun e => !(e.port = p && e.ticket = argByte (s.args p) 0x04))
        ∧ (t.map p).ticket? (argByte (s.args p) 0x04) = (s.map p).ticket? (argByte (s.args p) 0x04)
        ∧ (∀ k, (s.lease k).isSome → t.lease k = s.lease k ∧ t.handle k = s.handle k)
        ∧ EngineKept s t ∧ t.charters = s.charters ∧ t.reports = s.reports)
    ∧ ((∀ e ∈ s.queue, e.port = p → e.ticket ≠ argByte (s.args p) 0x04) →
      ∃ t, exec (.cancelWait p) s = .next t ∧ Answers s t p .noSuchTicket [] ∧ OnlyWindow s t)

/-- QUERY_QUEUE: a position above 7 or a view above 2 is refused. View 0 of an empty position gives the number of
entries, and of an entry its fields at their offsets with the first grant condition it fails: lines with the lowest held
line and the holding handle, order with the line and the oldest entry that names it, or slot, limit or channel. Its
own values are withheld from ports other than its own and P0. Views 1 and 2 give the argument bytes as queued, or a
header that withholds them or says that there is no such part (R41, R42, R177; absent fields: log entry 21). -/
def Obligations.QueryQueue : Prop :=
  ∀ (p : Port) (s : State), takes s (.queryQueue p) p = true →
    let pos := argNat (s.args p) 0x04; let view := argNat (s.args p) 0x05
    ((7 < pos ∨ 2 < view) →
      ∃ t, exec (.queryQueue p) s = .next t ∧ Answers s t p .badArgument [] ∧ OnlyWindow s t)
    ∧ (pos ≤ 7 → view = 0 → s.queue.length ≤ pos →
      ∃ t, exec (.queryQueue p) s = .next t ∧ Answers s t p .ok (b1 s.queue.length) ∧ OnlyWindow s t)
    ∧ (pos ≤ 7 → view = 1 ∨ view = 2 → s.queue.length ≤ pos →
      ∃ t, exec (.queryQueue p) s = .next t ∧ Answers s t p .ok [2#8] ∧ OnlyWindow s t)
    ∧ ∀ e, pos ≤ 7 → s.queue[pos]? = some e →
      let entitled := e.port = p ∨ p = 0
      let held := fun (n : Line) => ∃ k, vget s.heldBy n = some k
      let named := fun (n : Line) => ∃ x ∈ s.queue.take pos, has x.request.lines n = true
      let clear := ∀ n, has e.request.lines n = true → ¬held n ∧ ¬named n
      let limited := (s.charter e.port).leaseLimit ≤ (s.portRec e.port).occupied
      (view = 0 → ∃ t, exec (.queryQueue p) s = .next t ∧ OnlyWindow s t ∧ (t.window p).status = .ok
        ∧ windowByte t p 0x24 = BitVec.ofNat 8 s.queue.length ∧ windowByte t p 0x25 = 1#8
        ∧ windowByte t p 0x26 = e.ticket ∧ windowByte t p 0x27 = BitVec.ofNat 8 e.port.val
        ∧ windowByte t p 0x28 = BitVec.ofNat 8 e.request.kind.code
        ∧ windowByte t p 0x29 ++ windowByte t p 0x2A = e.request.lines
        ∧ windowByte t p 0x2B ++ windowByte t p 0x2C = BitVec.ofNat 16 e.waitRemaining
        ∧ (∀ n k, has e.request.lines n = true → vget s.heldBy n = some k →
            (∀ m, m < n → has e.request.lines m = true → vget s.heldBy m = none) →
            windowByte t p 0x2D = 1#8 ∧ windowByte t p 0x2E = BitVec.ofNat 8 n.val
              ∧ windowByte t p 0x2F = BitVec.ofNat 8 k.val ∧ windowByte t p 0x30 = (s.handle k).gen)
        ∧ (∀ n first x later, (∀ m, has e.request.lines m = true → ¬held m) → has e.request.lines n = true →
            (∀ m, m < n → has e.request.lines m = true → ¬named m) →
            s.queue.take pos = first ++ x :: later → has x.request.lines n = true →
            (∀ y ∈ first, has y.request.lines n = false) →
            windowByte t p 0x2D = 2#8 ∧ windowByte t p 0x2E = BitVec.ofNat 8 n.val
              ∧ windowByte t p 0x2F = BitVec.ofNat 8 x.port.val ∧ windowByte t p 0x30 = x.ticket)
        ∧ (clear → (∀ k, (s.lease k).isSome) → windowByte t p 0x2D = 3#8)
        ∧ (clear → (∃ k, s.lease k = none) → limited → windowByte t p 0x2D = 4#8)
        ∧ (clear → (∃ k, s.lease k = none) → ¬limited → channelFree s e.request = false → windowByte t p 0x2D = 5#8)
        ∧ (clear → windowByte t p 0x2E = 0xFF#8 ∧ windowByte t p 0x2F = 0xFF#8 ∧ windowByte t p 0x30 = 0xFF#8)
        ∧ (entitled → windowByte t p 0x31 = 0#8
            ∧ windowByte t p 0x32 ++ windowByte t p 0x33 = BitVec.ofNat 16 e.request.term
            ∧ windowByte t p 0x34 = BitVec.ofNat 8 e.request.pinned.toNat
            ∧ windowByte t p 0x35 ++ windowByte t p 0x36 = BitVec.ofNat 16 e.request.waitLimit)
        ∧ (¬entitled → windowByte t p 0x31 = 1#8 ∧ ∀ i, 0x32 ≤ i → i ≤ 0x36 → windowByte t p i = 0xFF#8)
        ∧ ∀ i, 0x37 ≤ i → i < 0x3C → windowByte t p i = 0#8)
      ∧ (view = 1 ∨ view = 2 → ∃ t, exec (.queryQueue p) s = .next t ∧ OnlyWindow s t ∧ (t.window p).status = .ok
        ∧ (entitled → windowByte t p 0x24 = 0#8
            ∧ (view = 1 → ∀ i, i < 23 → windowByte t p (0x25 + i) = argByte e.args (0x04 + i))
            ∧ (view = 2 → (∀ i, i < 9 → windowByte t p (0x25 + i) = argByte e.args (0x1B + i))
                ∧ ∀ i, 0x2E ≤ i → i < 0x3C → windowByte t p i = 0#8))
        ∧ (¬entitled → windowByte t p 0x24 = 1#8 ∧ ∀ i, 0x25 ≤ i → i < 0x3C → windowByte t p i = 0#8))

/-! ## The lease table -/

/-- QUERY_LEASE: a slot above 23 or a view above 2 is refused; a FREE slot gives its number and generation. View 0 of an
occupied slot gives the public fields to every port and the restricted ones, with the origin ticket and the progress
of the channel that has taken the lease's set-up, to the holder and P0. View 1 gives the kind parameters in order, view
2 the steps and safe levels of a PATTERN, each after a header that withholds them or says that there is no such
part (R16, R17, R176, R177; item sizes, absent and not yet known items: log entries 18, 19, 21 and 22). -/
def Obligations.QueryLease : Prop :=
  ∀ (p : Port) (s : State), takes s (.queryLease p) p = true →
    let view := argNat (s.args p) 0x05
    let word := fun (t : State) (off : Nat) => windowByte t p off ++ windowByte t p (off + 1)
    let reads := fun (t : State) (first last : Nat) (b : Byte) => ∀ i, first ≤ i → i ≤ last → windowByte t p i = b
    ((slotOf (argByte (s.args p) 0x04) = none ∨ 2 < view) →
      ∃ t, exec (.queryLease p) s = .next t ∧ Answers s t p .badArgument [] ∧ OnlyWindow s t)
    ∧ ∀ k, slotOf (argByte (s.args p) 0x04) = some k →
      (view = 0 → s.lease k = none →
        ∃ t, exec (.queryLease p) s = .next t
          ∧ Answers s t p .ok [0#8, BitVec.ofNat 8 k.val, (s.handle k).gen] ∧ OnlyWindow s t)
      ∧ (view = 1 ∨ view = 2 → s.lease k = none →
        ∃ t, exec (.queryLease p) s = .next t ∧ Answers s t p .ok [2#8] ∧ OnlyWindow s t)
      ∧ ∀ l, s.lease k = some l → let entitled := l.holder = p ∨ p = 0
        (view = 0 → ∃ t, exec (.queryLease p) s = .next t ∧ OnlyWindow s t ∧ (t.window p).status = .ok
          ∧ windowByte t p 0x24 = BitVec.ofNat 8 l.state.code
          ∧ windowByte t p 0x25 = BitVec.ofNat 8 k.val ∧ windowByte t p 0x26 = (s.handle k).gen
          ∧ windowByte t p 0x27 = BitVec.ofNat 8 l.holder.val ∧ windowByte t p 0x28 = BitVec.ofNat 8 l.params.code
          ∧ word t 0x29 = l.lines
          ∧ (windowByte t p 0x2B).getLsbD 0 = l.term.isNone
          ∧ (windowByte t p 0x2B).getLsbD 1 = l.outOfCharter
          ∧ (windowByte t p 0x2B).getLsbD 2 = !decide (l.holder = p ∨ p = 0)
          ∧ word t 0x2C = BitVec.ofNat 16 ((l.term.bind (·.remaining)).getD 0xFFFF)
          ∧ word t 0x30 = l.faults
          ∧ (∀ left, l.state = .grace left → windowByte t p 0x2E = BitVec.ofNat 8 left)
          ∧ ((∀ left, l.state ≠ .grace left) → windowByte t p 0x2E = 0xFF#8)
          ∧ (∀ q left, l.state = .handover q left → windowByte t p 0x2F = BitVec.ofNat 8 q.val)
          ∧ ((∀ q left, l.state ≠ .handover q left) → windowByte t p 0x2F = 0xFF#8)
          ∧ (∀ r, l.state = .retiring r ∨ l.state = .closed r → windowByte t p 0x32 = BitVec.ofNat 8 r.code)
          ∧ ((∀ r, l.state ≠ .retiring r ∧ l.state ≠ .closed r) → windowByte t p 0x32 = 0xFF#8)
          ∧ (entitled →
              word t 0x33 = BitVec.ofNat 16 ((l.term.map (·.granted)).getD 0xFFFF)
              ∧ windowByte t p 0x35 = BitVec.ofNat 8 l.grace ∧ windowByte t p 0x36 = BitVec.ofNat 8 l.warn
              ∧ (l.origin = none → windowByte t p 0x37 = 0#8 ∧ windowByte t p 0x3B = 0xFF#8)
              ∧ (∀ o, l.origin = some o → windowByte t p 0x37 = o.number
                  ∧ windowByte t p 0x3B = BitVec.ofNat 8 o.port.val)
              ∧ (∀ spec c ch, l.state.live = true → l.params = .pattern spec c → vget s.patChans c = some ch →
                  ch.handle = s.handle k →
                  windowByte t p 0x38 = BitVec.ofNat 8 ch.phase.code ∧ windowByte t p 0x39 = BitVec.ofNat 8 ch.step
                  ∧ windowByte t p 0x3A = match ch.phase with
                    | .running _ left => BitVec.ofNat 8 (left.getD 0)
                    | .paused left => BitVec.ofNat 8 (left.getD 0)
                    | .done => 0xFF#8)
              ∧ (∀ spec armed g ch, l.state.live = true → l.params = .guard spec armed g →
                  vget s.guardChans g = some ch → ch.handle = s.handle k →
                  windowByte t p 0x38 = BitVec.ofNat 8 ch.substate.code ∧ reads t 0x39 0x3A 0xFF#8)
              ∧ ((l.state.live = false ∨ l.params.code = 0 ∨ l.params.code = 2
                  ∨ (∃ spec c, l.params = .pattern spec c
                      ∧ ∀ ch, vget s.patChans c = some ch → ch.handle ≠ s.handle k)
                  ∨ (∃ spec armed g, l.params = .guard spec armed g
                      ∧ ∀ ch, vget s.guardChans g = some ch → ch.handle ≠ s.handle k)) →
                  reads t 0x38 0x3A 0xFF#8))
          ∧ (¬entitled → reads t 0x33 0x36 0xFF#8 ∧ windowByte t p 0x37 = 0#8 ∧ reads t 0x38 0x3B 0xFF#8))
        ∧ (view = 1 → ∃ t, exec (.queryLease p) s = .next t ∧ OnlyWindow s t ∧ (t.window p).status = .ok
          ∧ (¬entitled → windowByte t p 0x24 = 1#8 ∧ reads t 0x25 0x3B 0#8)
          ∧ (entitled → windowByte t p 0x24 = 0#8 ∧ match l.params with
            | .drive dt lv safe => windowByte t p 0x25 = BitVec.ofNat 8 dt.code ∧ word t 0x26 = lv
                ∧ word t 0x28 = safe.getD 0xFFFF#16 ∧ reads t 0x2A 0x3B 0#8
            | .pattern spec c => windowByte t p 0x25 = BitVec.ofNat 8 spec.drive.code
                ∧ windowByte t p 0x26 = BitVec.ofNat 8 spec.steps.length
                ∧ windowByte t p 0x27 = BitVec.ofNat 8 spec.loops ∧ windowByte t p 0x28 = BitVec.ofNat 8 c.val
                ∧ reads t 0x29 0x3B 0#8
            | .watch pull rising falling changed => windowByte t p 0x25 = BitVec.ofNat 8 pull.code
                ∧ word t 0x26 = rising ∧ word t 0x28 = falling ∧ word t 0x2A = changed ∧ reads t 0x2C 0x3B 0#8
            | .guard spec armed g => windowByte t p 0x25 = BitVec.ofNat 8 g.val
                ∧ windowByte t p 0x26 = BitVec.ofNat 8 armed.toNat ∧ word t 0x27 = BitVec.ofNat 16 spec.hold
                ∧ windowByte t p 0x29 = BitVec.ofNat 8 spec.conditions.length
                ∧ (spec.action = none → reads t 0x2A 0x2C 0xFF#8)
                ∧ (∀ a, spec.action = some a → windowByte t p 0x2A = BitVec.ofNat 8 a.line.val
                    ∧ windowByte t p 0x2B = BitVec.ofNat 8 a.pulseLevel.toNat
                    ∧ windowByte t p 0x2C = BitVec.ofNat 8 a.pulseWidth)
                ∧ (spec.recallSpec = none → reads t 0x2D 0x2F 0xFF#8)
                ∧ (∀ r, spec.recallSpec = some r → windowByte t p 0x2D = BitVec.ofNat 8 r.target.val
                    ∧ word t 0x2E = BitVec.ofNat 16 r.quietTime)
                ∧ ∀ i x, i < 4 → spec.conditions[i]? = some x →
                    windowByte t p (0x30 + 2 * i) = BitVec.ofNat 8 x.line.val
                    ∧ windowByte t p (0x31 + 2 * i) = BitVec.ofNat 8 x.level.toNat))
        ∧ (view = 2 → ∃ t, exec (.queryLease p) s = .next t ∧ OnlyWindow s t ∧ (t.window p).status = .ok
          ∧ (¬entitled → windowByte t p 0x24 = (if l.params.code = 1 then 1#8 else 3#8) ∧ reads t 0x25 0x3B 0#8)
          ∧ (entitled → l.params.code ≠ 1 → windowByte t p 0x24 = 2#8 ∧ reads t 0x25 0x3B 0#8)
          ∧ ∀ spec c, entitled → l.params = .pattern spec c →
            let z := if (linesOf l.lines).length ≤ 8 then 1 else 2
            let list := fun (off : Nat) =>
              if z = 1 then (windowByte t p off).toNat
              else 256 * (windowByte t p off).toNat + (windowByte t p (off + 1)).toNat
            let holds := fun (off : Nat) (lv : Levels) =>
              (∀ (j : Nat) (n : Line), (linesOf l.lines)[j]? = some n → (list off).testBit j = has lv n)
                ∧ ∀ j, (linesOf l.lines).length ≤ j → (list off).testBit j = false
            let last := 0x25 + spec.steps.length * (z + 2)
            windowByte t p 0x24 = 0#8
            ∧ (∀ i st, spec.steps[i]? = some st → 0x25 + i * (z + 2) + z + 2 ≤ 0x3C →
                holds (0x25 + i * (z + 2)) st.levels
                ∧ word t (0x25 + i * (z + 2) + z) = BitVec.ofNat 16 st.duration)
            ∧ (last + z ≤ 0x3C →
                (∀ lv, spec.safe = some lv → holds last lv)
                ∧ (spec.safe = none → reads t last (last + z - 1) 0xFF#8)
                ∧ reads t (last + z) 0x3B 0#8))

/-- LOOKUP_LINE: the holding lease with its holder and state, the guards that observe the line, its rest mode,
debounced level and rest-fault flag (R18, R179). -/
def Obligations.LookupLine : Prop :=
  ∀ (p : Port) (s : State), takes s (.lookupLine p) p = true →
    (lineOf (argByte (s.args p) 0x04) = none →
      ∃ t, exec (.lookupLine p) s = .next t ∧ Answers s t p .badArgument [] ∧ OnlyWindow s t)
    ∧ ∀ n, lineOf (argByte (s.args p) 0x04) = some n →
      ∃ t, exec (.lookupLine p) s = .next t ∧ OnlyWindow s t ∧ (t.window p).status = .ok
        ∧ (vget s.heldBy n = none → windowByte t p 0x24 = 0#8 ∧ windowByte t p 0x25 = 0xFF#8
            ∧ windowByte t p 0x26 = 0xFF#8 ∧ windowByte t p 0x27 = 0xFF#8 ∧ windowByte t p 0x28 = 0xFF#8)
        ∧ (∀ k l, vget s.heldBy n = some k → s.lease k = some l →
            windowByte t p 0x24 = 1#8 ∧ windowByte t p 0x25 = BitVec.ofNat 8 k.val
              ∧ windowByte t p 0x26 = (s.handle k).gen ∧ windowByte t p 0x27 = BitVec.ofNat 8 l.holder.val
              ∧ windowByte t p 0x28 = BitVec.ofNat 8 l.state.code)
        ∧ windowByte t p 0x29 = BitVec.ofNat 8 ((List.finRange 24).countP fun k =>
            (s.lease k).any fun l => (l.state.isActive || l.state.isGrace)
              && match l.params with
                | .guard spec _ _ => spec.conditions.any fun c => c.line == n
                | .drive _ _ _ | .pattern _ _ | .watch _ _ _ _ => false)
        ∧ windowByte t p 0x2A = BitVec.ofNat 8 (s.profile n).rest.code
        ∧ windowByte t p 0x2B = BitVec.ofNat 8 (s.cell n).debounced.toNat
        ∧ windowByte t p 0x2C = BitVec.ofNat 8 (s.profile n).restFault.toNat

/-- RENEW of a live, unpinned lease that fits its charter: the remaining term is set to the argument, or to the
granted term for 0, clamped to the charter's maximum; term-low posted returns to no, the granted term and an
offer stay, and nothing else of the table changes (R52, R53). From GRACE the lease is ACTIVE again. -/
def Obligations.RenewSetsTerm : Prop :=
  ∀ (p : Port) (s : State) (k : Slot) (l : Lease) (granted : Nat) (left : Option Nat),
    let arg := argWord (s.args p) 0x06
    let wanted := if arg = 0 then granted else arg
    let applied := min wanted (s.charter p).maxTerm
    takes s (.renew p) p = true → Names s p k l → l.holder = p → arg ≤ 6000 →
    l.term = some { granted := granted, remaining := left } → l.outOfCharter = false → l.state.live = true →
    ∃ t, exec (.renew p) s = .next t
      ∧ Answers s t p .ok (b2 applied ++ bFlag (decide ((s.charter p).maxTerm < wanted)))
      ∧ t.lease k = some
          { l with
            term := some { granted := granted, remaining := some applied }
            termLow := false
            state := if l.state.isGrace then .active else l.state }
      ∧ (∀ j, j ≠ k → t.lease j = s.lease j) ∧ (∀ j, t.handle j = s.handle j)
      ∧ OnlyWindow s { t with
          slots := s.slots, cells := s.cells, patInbox := s.patInbox, guardInbox := s.guardInbox }
      ∧ (l.state.isGrace = false →
          t.cells = s.cells ∧ t.patInbox = s.patInbox ∧ t.guardInbox = s.guardInbox)

/-- RENEW from GRACE restores the lines and tells the channel (R54): a DRIVE line shows its current level, a
guard's action line its idle level, a pattern channel is told to resume, a guard channel to leave SUSPENDED
with the armed flag and the combination as it is now. -/
def Obligations.RenewFromGrace : Prop :=
  ∀ (p : Port) (s : State) (k : Slot) (l : Lease) (granted : Nat) (left : Option Nat) (g : Nat),
    takes s (.renew p) p = true → Names s p k l → l.holder = p → argWord (s.args p) 0x06 ≤ 6000 →
    l.term = some { granted := granted, remaining := left } → l.outOfCharter = false → l.state = .grace g →
    ∃ t, exec (.renew p) s = .next t
      ∧ (∀ n, has l.lines n = false → (t.cell n).assigned = (s.cell n).assigned)
      ∧ match l.params with
        | .drive _ lv _ => ∀ n, has l.lines n = true → (t.cell n).assigned = some (has lv n)
        | .pattern _ c => vget t.patInbox c = vget s.patInbox c ++ [.resume]
        | .watch _ _ _ _ =>
          t.patInbox = s.patInbox ∧ t.guardInbox = s.guardInbox ∧ ∀ n, (t.cell n).assigned = (s.cell n).assigned
        | .guard spec armed gc =>
          vget t.guardInbox gc = vget s.guardInbox gc
              ++ [.unsuspend armed (spec.conditions.all fun c => (s.cell c.line).debounced == c.level)]
            ∧ ∀ a, spec.action = some a → ∀ n, has l.lines n = true →
                (t.cell n).assigned = some (!a.pulseLevel)

/-- RELEASE by the holder, and REVOKE by P0 of any port's lease, retire a live lease with their reason; REVOKE
posts REVOKED to the holder. A lease that is not live answers RELEASE with WRONG_STATE, and a RETIRING one
answers REVOKE so (R56, R57, R58, R59). -/
def Obligations.ReleaseAndRevoke : Prop :=
  ∀ (s : State) (k : Slot) (l : Lease), Safe s →
    (∀ p, takes s (.release p) p = true → Names s p k l → l.holder = p → l.state.live = true →
      ∃ t, exec (.release p) s = .next t ∧ Answers s t p .ok [] ∧ Retired s t k l .released ∧ OthersKept s t k
        ∧ EngineKept s t ∧ t.charters = s.charters ∧ t.reports = s.reports)
    ∧ (∀ p, takes s (.release p) p = true → Names s p k l → l.holder = p → l.state.live = false →
      ∃ t, exec (.release p) s = .next t ∧ Answers s t p .wrongState [] ∧ OnlyWindow s t)
    ∧ (takes s (.revoke 0) 0 = true → Names s 0 k l → l.state.live = true →
      ∃ t, exec (.revoke 0) s = .next t ∧ Answers s t 0 .ok [] ∧ Retired s t k l .revoked
        ∧ Holds t l.holder k (s.handle k).gen SlotKind.revoked ∧ OthersKept s t k ∧ EngineKept s t
        ∧ t.charters = s.charters ∧ t.reports = s.reports)
    ∧ (∀ r, takes s (.revoke 0) 0 = true → Names s 0 k l → l.state = .retiring r →
      ∃ t, exec (.revoke 0) s = .next t ∧ Answers s t 0 .wrongState [] ∧ OnlyWindow s t)

/-- The handle of a CLOSED record, named by REVOKE from P0 or by its holder's ACK_NOTICE with RETIRED, alone or with
other kinds, frees the slot: no record with that handle stays, RETIRED leaves the holder's map, and OK is answered
(R15, R58, R159). The ACK_NOTICE takes every named kind out of the entry and leaves the others, unless its scan grants
the slot to the asker, whose entry then is the new lease's; its result gives the kinds removed and, also in that case,
the kinds the acknowledged entry had left, the model's reading (R154, R158; log entry 23). -/
def Obligations.ClosedRecordFreed : Prop :=
  ∀ (s : State) (k : Slot) (l : Lease) (r : CloseReason), s.lease k = some l → l.state = .closed r →
    (takes s (.revoke 0) 0 = true → Names s 0 k l →
      ∃ t, exec (.revoke 0) s = .next t ∧ (t.window 0).status = .ok ∧ OthersKept s t k ∧ EngineKept s t
        ∧ (t.lease k = none ∨ (t.handle k).gen ≠ (s.handle k).gen)
        ∧ kindsFor (t.map l.holder) k (s.handle k).gen &&& SlotKind.retired = 0#16)
    ∧ (let p := l.holder; let a := s.args p; let named := argSet a 0x07
      let gen := (s.handle k).gen; let held := kindsFor (s.map p) k gen
      takes s (.ackNotice p) p = true → argNat a 0x04 = 2 → slotOf (argByte a 0x05) = some k →
      argByte a 0x06 = gen → named &&& SlotKind.retired ≠ 0#16 → Holds s p k gen SlotKind.retired →
      ∃ t, exec (.ackNotice p) s = .next t ∧ (t.window p).status = .ok ∧ OthersKept s t k
        ∧ EngineKept s t ∧ (t.lease k = none ∨ (t.handle k).gen ≠ gen)
        ∧ kindsFor (t.map p) k gen &&& SlotKind.retired = 0#16
        ∧ (kindsFor (t.map p) k gen = held &&& ~~~named
          ∨ ∃ l', t.lease k = some l' ∧ l'.holder = p ∧ (t.handle k).gen ≠ gen
              ∧ Holds t p k (t.handle k).gen SlotKind.granted)
        ∧ windowByte t p 0x24 ++ windowByte t p 0x25 = held &&& named
        ∧ windowByte t p 0x26 ++ windowByte t p 0x27 = held &&& ~~~named)

/-! ## Handover -/

/-- OFFER of an ACTIVE lease that is not a GUARD: HANDOVER toward the target with a window of 200, OFFER_RECEIVED
posted to the target; nothing else changes (R67, R68). -/
def Obligations.OfferOpensHandover : Prop :=
  ∀ (p target : Port) (s : State) (k : Slot) (l : Lease),
    takes s (.offer p) p = true → Names s p k l → l.holder = p →
    argByte (s.args p) 0x06 = BitVec.ofNat 8 target.val → target ≠ p → l.state = .active → l.params.code ≠ 3 →
    ∃ t, exec (.offer p) s = .next t ∧ Answers s t p .ok []
      ∧ t.lease k = some { l with state := .handover target 200 } ∧ PostedTo s t target k SlotKind.offerReceived
      ∧ (∀ j, j ≠ k → t.lease j = s.lease j) ∧ (∀ j, t.handle j = s.handle j)
      ∧ MapKept s t target k ∧ (∀ q, q ≠ target → t.map q = s.map q)
      ∧ OnlyWindow s { t with slots := s.slots, maps := s.maps }

/-- ACCEPT by the target of an offer, not quiet, with the lines permitted and a count below its limit: the
record is rewritten for the new holder, the counts move, HANDED_OVER goes to the old holder, and no line, held-by
entry or channel changes before the scan (R70, R71, R72). -/
def Obligations.AcceptHandsOver : Prop :=
  ∀ (p : Port) (s : State) (k : Slot) (l : Lease) (left : Nat), let c := s.charter p
    takes s (.accept p) p = true → Names s p k l → l.state = .handover p left → l.holder ≠ p →
    s.isQuiet p = false → l.lines &&& c.lines = l.lines → (l.term = none → c.mayPin = true) →
    (s.portRec p).occupied < c.leaseLimit →
    ∃ t, exec (.accept p) s = .next t
      ∧ Answers s t p .ok (b2 ((l.term.map fun x => min x.granted c.maxTerm).getD 0)
          ++ bFlag ((l.term.map fun x => decide (c.maxTerm < x.granted)).getD false))
      ∧ t.lease k = some
          { l with
            holder := p
            state := .active
            term := l.term.map fun x =>
              { granted := min x.granted c.maxTerm, remaining := some (min x.granted c.maxTerm) }
            grace := c.grace
            warn := c.warn
            termLow := false
            outOfCharter := false }
      ∧ t.handle k = s.handle k ∧ Holds t l.holder k (s.handle k).gen SlotKind.handedOver
      ∧ (l.params.isWatch = true → l.params.changed ≠ 0#16 → Holds t p k (s.handle k).gen SlotKind.edge)
      ∧ (l.params.isWatch = true → l.params.changed = 0#16 →
          kindsFor (t.map p) k (s.handle k).gen &&& SlotKind.edge = 0#16)
      ∧ (s.queue = [] → t.heldBy = s.heldBy ∧ t.cells = s.cells ∧ t.patInbox = s.patInbox
          ∧ t.guardInbox = s.guardInbox
          ∧ ∀ q, (t.portRec q).occupied = if q = p then (s.portRec q).occupied + 1
              else if q = l.holder then (s.portRec q).occupied - 1 else (s.portRec q).occupied)
      ∧ OthersKept s t k ∧ EngineKept s t

/-- The refusals of RENEW, OFFER and ACCEPT after the handle checks, each in its order; an offer stands
(R52, R67, R70). -/
def Obligations.RenewOfferAcceptRefused : Prop :=
  ∀ (p : Port) (s : State) (k : Slot) (l : Lease), let c := s.charter p
    let target := argNat (s.args p) 0x06; let term := argWord (s.args p) 0x06
    Names s p k l →
    (takes s (.renew p) p = true → l.holder = p →
      (6000 < term → Refuses (.renew p) s p .badArgument)
      ∧ (term ≤ 6000 → l.state.live = false → Refuses (.renew p) s p .wrongState)
      ∧ (term ≤ 6000 → l.state.live = true → l.term = none → Refuses (.renew p) s p .wrongKind)
      ∧ (term ≤ 6000 → l.state.live = true → l.term ≠ none → l.outOfCharter = true →
          Refuses (.renew p) s p .outOfCharter))
    ∧ (takes s (.offer p) p = true → l.holder = p →
      ((3 < target ∨ target = p.val) → Refuses (.offer p) s p .badArgument)
      ∧ (target ≤ 3 → target ≠ p.val → l.state ≠ .active → Refuses (.offer p) s p .wrongState)
      ∧ (target ≤ 3 → target ≠ p.val → l.state = .active → l.params.code = 3 →
          Refuses (.offer p) s p .wrongKind))
    ∧ (takes s (.accept p) p = true →
      ((∀ left, l.state ≠ .handover p left) → Refuses (.accept p) s p .notOffered)
      ∧ ∀ left, l.state = .handover p left →
        (s.isQuiet p = true → Refuses (.accept p) s p .portQuiet)
        ∧ (s.isQuiet p = false → (l.lines &&& c.lines ≠ l.lines ∨ (l.term = none ∧ c.mayPin = false)) →
            Refuses (.accept p) s p .notPermitted)
        ∧ (s.isQuiet p = false → l.lines &&& c.lines = l.lines → (l.term = none → c.mayPin = true) →
            c.leaseLimit ≤ (s.portRec p).occupied → Refuses (.accept p) s p .portLimit))

/-- DECLINE by the target of an offer: the handle checks of R3 without the holder check, NOT_OFFERED unless the lease is
in HANDOVER to the asking port, and else the lease is ACTIVE again with OFFER_DECLINED posted to its holder;
nothing else changes (R74). -/
def Obligations.Decline : Prop :=
  ∀ (p : Port) (s : State), takes s (.decline p) p = true →
    (slotOf (argByte (s.args p) 0x04) = none →
      ∃ t, exec (.decline p) s = .next t ∧ Answers s t p .badArgument [] ∧ OnlyWindow s t)
    ∧ (∀ k, slotOf (argByte (s.args p) 0x04) = some k →
        (s.lease k = none ∨ (s.handle k).gen ≠ argByte (s.args p) 0x05) →
        ∃ t, exec (.decline p) s = .next t ∧ Answers s t p .badHandle [] ∧ OnlyWindow s t)
    ∧ ∀ k l, Names s p k l →
      ((∀ left, l.state ≠ .handover p left) →
        ∃ t, exec (.decline p) s = .next t ∧ Answers s t p .notOffered [] ∧ OnlyWindow s t)
      ∧ ∀ left, l.state = .handover p left →
        ∃ t, exec (.decline p) s = .next t ∧ Answers s t p .ok [] ∧ t.lease k = some { l with state := .active }
          ∧ PostedTo s t l.holder k SlotKind.offerDeclined ∧ MapKept s t l.holder k
          ∧ (∀ q, q ≠ l.holder → t.map q = s.map q) ∧ (∀ j, j ≠ k → t.lease j = s.lease j)
          ∧ (∀ j, t.handle j = s.handle j) ∧ OnlyWindow s { t with slots := s.slots, maps := s.maps }

/-- WITHDRAW by the holder: the handle checks of R3, NOT_OFFERED in ACTIVE and GRACE, WRONG_STATE in RETIRING and
CLOSED; in HANDOVER the lease is ACTIVE again with OFFER_WITHDRAWN posted to the target, and no term, line or
count changes (R75). -/
def Obligations.Withdraw : Prop :=
  ∀ (p : Port) (s : State), takes s (.withdraw p) p = true →
    (slotOf (argByte (s.args p) 0x04) = none →
      ∃ t, exec (.withdraw p) s = .next t ∧ Answers s t p .badArgument [] ∧ OnlyWindow s t)
    ∧ (∀ k, slotOf (argByte (s.args p) 0x04) = some k →
        (s.lease k = none ∨ (s.handle k).gen ≠ argByte (s.args p) 0x05 ∨ ∃ l, s.lease k = some l ∧ l.holder ≠ p) →
        ∃ t, exec (.withdraw p) s = .next t ∧ Answers s t p .badHandle [] ∧ OnlyWindow s t)
    ∧ ∀ k l, Names s p k l → l.holder = p →
      ((l.state = .active ∨ ∃ g, l.state = .grace g) →
        ∃ t, exec (.withdraw p) s = .next t ∧ Answers s t p .notOffered [] ∧ OnlyWindow s t)
      ∧ ((∃ r, l.state = .retiring r ∨ l.state = .closed r) →
        ∃ t, exec (.withdraw p) s = .next t ∧ Answers s t p .wrongState [] ∧ OnlyWindow s t)
      ∧ ∀ target left, l.state = .handover target left →
        ∃ t, exec (.withdraw p) s = .next t ∧ Answers s t p .ok []
          ∧ t.lease k = some { l with state := .active }
          ∧ PostedTo s t target k SlotKind.offerWithdrawn ∧ MapKept s t target k
          ∧ (∀ q, q ≠ target → t.map q = s.map q) ∧ (∀ j, j ≠ k → t.lease j = s.lease j)
          ∧ (∀ j, t.handle j = s.handle j) ∧ OnlyWindow s { t with slots := s.slots, maps := s.maps }

/-! ## Kind commands -/

/-- SET_GUARD after the handle checks (R89): BAD_ARGUMENT for a flag above 1, WRONG_STATE outside ACTIVE and GRACE,
WRONG_KIND for another kind; else the armed flag of the record is written, and in ACTIVE, not in GRACE, the channel
is told. Nothing else changes. -/
def Obligations.SetGuard : Prop :=
  ∀ (p : Port) (s : State) (k : Slot) (l : Lease), let flag := argByte (s.args p) 0x06
    takes s (.setGuard p) p = true → Names s p k l → l.holder = p →
    (1 < flag.toNat → Refuses (.setGuard p) s p .badArgument)
    ∧ (flag.toNat ≤ 1 → l.state ≠ .active → l.state.isGrace = false → Refuses (.setGuard p) s p .wrongState)
    ∧ (flag.toNat ≤ 1 → (l.state = .active ∨ l.state.isGrace = true) → l.params.code ≠ 3 →
        Refuses (.setGuard p) s p .wrongKind)
    ∧ ∀ spec armed g, flag.toNat ≤ 1 → (l.state = .active ∨ l.state.isGrace = true) →
        l.params = .guard spec armed g →
        ∃ t, exec (.setGuard p) s = .next t ∧ Answers s t p .ok []
          ∧ t.lease k = some { l with params := .guard spec (flag == 1#8) g }
          ∧ (∀ j, j ≠ k → t.lease j = s.lease j) ∧ (∀ j, t.handle j = s.handle j)
          ∧ (l.state = .active →
              vget t.guardInbox g = vget s.guardInbox g ++ [if flag = 1#8 then .arm else .disarm])
          ∧ (l.state ≠ .active → vget t.guardInbox g = vget s.guardInbox g)
          ∧ (∀ h, h ≠ g → vget t.guardInbox h = vget s.guardInbox h)
          ∧ OnlyWindow s { t with slots := s.slots, guardInbox := s.guardInbox }

/-- SET_LEVELS and RESTART_PATTERN after the handle checks (R105, R111): WRONG_STATE outside ACTIVE and HANDOVER,
WRONG_KIND for another kind. SET_LEVELS replaces the levels of the lease's own lines in the record and in the cells,
and the mismatch count of a line restarts when its configuration changes (R133); RESTART_PATTERN tells the channel. -/
def Obligations.SetLevelsAndRestartPattern : Prop :=
  ∀ (p : Port) (s : State) (k : Slot) (l : Lease), Names s p k l → l.holder = p →
    let working := l.state = .active ∨ ∃ q left, l.state = .handover q left
    (takes s (.setLevels p) p = true →
      (¬working → Refuses (.setLevels p) s p .wrongState)
      ∧ (working → l.params.code ≠ 0 → Refuses (.setLevels p) s p .wrongKind)
      ∧ ∀ dt lv safe, working → l.params = .drive dt lv safe →
        ∃ t, exec (.setLevels p) s = .next t ∧ Answers s t p .ok []
          ∧ t.lease k = some { l with params := .drive dt (argSet (s.args p) 0x06 &&& l.lines) safe }
          ∧ (∀ j, j ≠ k → t.lease j = s.lease j) ∧ (∀ j, t.handle j = s.handle j)
          ∧ (∀ n, has l.lines n = false → t.cell n = s.cell n)
          ∧ (∀ n, has l.lines n = true → t.cell n =
              { s.cell n with
                assigned := some (has (argSet (s.args p) 0x06) n)
                mismatch := if appliedConfig t n = appliedConfig s n then (s.cell n).mismatch else 0 })
          ∧ OnlyWindow s { t with slots := s.slots, cells := s.cells })
    ∧ (takes s (.restartPattern p) p = true →
      (¬working → Refuses (.restartPattern p) s p .wrongState)
      ∧ (working → l.params.code ≠ 1 → Refuses (.restartPattern p) s p .wrongKind)
      ∧ ∀ spec c, working → l.params = .pattern spec c →
        ∃ t, exec (.restartPattern p) s = .next t ∧ Answers s t p .ok []
          ∧ vget t.patInbox c = vget s.patInbox c ++ [.restart]
          ∧ (∀ d, d ≠ c → vget t.patInbox d = vget s.patInbox d)
          ∧ OnlyWindow s { t with patInbox := s.patInbox })

/-- READ_LEVELS and CLEAR_FAULT after the handle checks (R115, R120). READ_LEVELS gives the debounced levels of the
lease's lines, the changed set and the fault set; with take yes on a live WATCH the changed set is emptied and EDGE
leaves the holder's entry. CLEAR_FAULT takes the named lines out of the fault set and starts their checks afresh. -/
def Obligations.ReadLevelsAndClearFault : Prop :=
  ∀ (p : Port) (s : State) (k : Slot) (l : Lease), Names s p k l → l.holder = p →
    let flag := argByte (s.args p) 0x06; let named := argSet (s.args p) 0x06
    (takes s (.readLevels p) p = true →
      (1 < flag.toNat → Refuses (.readLevels p) s p .badArgument)
      ∧ (flag.toNat ≤ 1 → (∃ r, l.state = .closed r) → Refuses (.readLevels p) s p .wrongState)
      ∧ (flag.toNat ≤ 1 → (∀ r, l.state ≠ .closed r) →
        ∃ t, exec (.readLevels p) s = .next t ∧ (t.window p).status = .ok
          ∧ (∀ n : Line, (windowByte t p 0x24 ++ windowByte t p 0x25).getLsbD n.val
              = (has l.lines n && (s.cell n).debounced))
          ∧ windowByte t p 0x26 ++ windowByte t p 0x27 = l.params.changed
          ∧ windowByte t p 0x28 ++ windowByte t p 0x29 = l.faults
          ∧ (flag = 1#8 → l.params.isWatch = true → l.state.live = true →
              t.lease k = some { l with params := l.params.setChanged 0#16 }
              ∧ kindsFor (t.map p) k (s.handle k).gen
                  = kindsFor (s.map p) k (s.handle k).gen &&& ~~~SlotKind.edge
              ∧ MapKept s t p k ∧ (∀ q, q ≠ p → t.map q = s.map q) ∧ (∀ j, j ≠ k → t.lease j = s.lease j)
              ∧ (∀ j, t.handle j = s.handle j) ∧ OnlyWindow s { t with slots := s.slots, maps := s.maps })
          ∧ ((flag ≠ 1#8 ∨ l.params.isWatch = false ∨ l.state.live = false) → OnlyWindow s t)))
    ∧ (takes s (.clearFault p) p = true →
      (l.state.live = false → Refuses (.clearFault p) s p .wrongState)
      ∧ (l.state.live = true →
        ∃ t, exec (.clearFault p) s = .next t ∧ Answers s t p .ok (b2 (l.faults &&& ~~~named).toNat)
          ∧ t.lease k = some { l with faults := l.faults &&& ~~~named }
          ∧ (∀ j, j ≠ k → t.lease j = s.lease j) ∧ (∀ j, t.handle j = s.handle j)
          ∧ (∀ n, t.cell n =
              if has (l.faults &&& named) n then { s.cell n with mismatch := 0 } else s.cell n)
          ∧ OnlyWindow s { t with slots := s.slots, cells := s.cells }))

/-! ## Administration -/

/-- SET_LINE_PROFILE from P0: BAD_ARGUMENT for a line above 15, a rest mode above 4, a debounce above 31 or a check
flag above 1; else the line's profile is rewritten with the rest-fault flag clear, its stability count restarts and
its debounced level stays, and the mismatch count restarts unless a live lease holds the line (R128). -/
def Obligations.SetLineProfile : Prop :=
  ∀ (s : State), let a := s.args 0
    takes s (.setLineProfile 0) 0 = true →
    ((15 < argNat a 0x04 ∨ 4 < argNat a 0x05 ∨ 31 < argNat a 0x06 ∨ 1 < argNat a 0x08) →
      Refuses (.setLineProfile 0) s 0 .badArgument)
    ∧ ∀ n rest, argNat a 0x04 = n.val → restModeOf (argByte a 0x05) = some rest → argNat a 0x06 ≤ 31 →
        argNat a 0x08 ≤ 1 →
      ∃ t, exec (.setLineProfile 0) s = .next t
        ∧ Answers s t 0 .ok [argByte a 0x04, argByte a 0x05, argByte a 0x06, argByte a 0x07, argByte a 0x08,
            BitVec.ofNat 8 (s.profile n).restFault.toNat]
        ∧ t.profile n = ⟨rest, argNat a 0x06, argNat a 0x07, argByte a 0x08 == 1#8, false⟩
        ∧ (∀ m, m ≠ n → t.profile m = s.profile m ∧ t.cell m = s.cell m)
        ∧ t.cell n =
            { s.cell n with
              stability := 0
              mismatch := if (liveHolding s n).isSome then (s.cell n).mismatch else 0 }
        ∧ OnlyWindow s { t with profiles := s.profiles, cells := s.cells }

/-- SET_CHARTER from P0 (R139 to R142): BAD_ARGUMENT for a value out of bounds; else the target's charter is replaced
whole, every record of the target that does not fit is flagged and CHARTER_NARROWED posted where it was not yet,
CHARTER_CHANGED is posted, and every waiting entry that the charters do not permit leaves with WAIT_REFUSED. -/
def Obligations.SetCharter : Prop :=
  ∀ (s : State), let a := s.args 0
    takes s (.setCharter 0) 0 = true →
    ((3 < argNat a 0x04 ∨ 24 < argNat a 0x07 ∨ argWord a 0x08 = 0 ∨ 6000 < argWord a 0x08 ∨ 200 < argNat a 0x0A
        ∨ 1 < argNat a 0x0C ∨ 1 < argNat a 0x0D ∨ 1 < argNat a 0x0E) →
      Refuses (.setCharter 0) s 0 .badArgument)
    ∧ ∀ q : Port, argNat a 0x04 = q.val → argNat a 0x07 ≤ 24 → 0 < argWord a 0x08 → argWord a 0x08 ≤ 6000 →
        argNat a 0x0A ≤ 200 → argNat a 0x0C ≤ 1 → argNat a 0x0D ≤ 1 → argNat a 0x0E ≤ 1 →
      ∃ t, exec (.setCharter 0) s = .next t ∧ (t.window 0).status = .ok
        ∧ t.charter q = ⟨argSet a 0x05, argNat a 0x07, argWord a 0x08, argNat a 0x0A, argNat a 0x0B,
            argByte a 0x0C == 1#8, argByte a 0x0D == 1#8, if argByte a 0x0E = 1#8 then .retire else .hold⟩
        ∧ (∀ r, r ≠ q → t.charter r = s.charter r)
        ∧ (t.map q).port = (s.map q).port ||| PortKind.charterChanged
        ∧ (∀ k l, s.lease k = some l →
            t.lease k = some
              { l with outOfCharter := l.outOfCharter || (decide (l.holder = q) && !fits (t.charter q) l) }
            ∧ (l.holder = q → fits (t.charter q) l = false → l.outOfCharter = false →
                Holds t q k (s.handle k).gen SlotKind.charterNarrowed))
        ∧ (∀ e ∈ s.queue, permits (t.charter e.port) e.request = false →
            e ∉ t.queue ∧ HoldsTicket t e.port e.ticket TicketKind.waitRefused)
        ∧ (∀ i, i < 10 → windowByte t 0 (0x24 + i) = argByte a (0x05 + i))
        ∧ windowByte t 0 0x2E = BitVec.ofNat 8 ((List.finRange 24).countP fun k =>
            (s.lease k).any fun l => decide (l.holder = q) && !fits (t.charter q) l && !l.outOfCharter)
        ∧ windowByte t 0 0x2F =
            BitVec.ofNat 8 (s.queue.countP fun e => !permits (t.charter e.port) e.request)
        ∧ EngineKept s t ∧ t.reports = s.reports

/-- READ_CHARTER: a port above P3 is refused with BAD_ARGUMENT, another port than the asker, from P1 to P3, with
NOT_ADMIN; else the result holds the charter, the occupied count, the wait budget in use and the quiet remaining,
and nothing but the window changes (R144, R179). -/
def Obligations.ReadCharter : Prop :=
  ∀ (p : Port) (s : State), let target := argNat (s.args p) 0x04
    takes s (.readCharter p) p = true →
    (3 < target → Refuses (.readCharter p) s p .badArgument)
    ∧ (target ≤ 3 → p ≠ 0 → target ≠ p.val → Refuses (.readCharter p) s p .notAdmin)
    ∧ ∀ q : Port, target = q.val → (p = 0 ∨ q = p) → let c := s.charter q
      ∃ t, exec (.readCharter p) s = .next t ∧ OnlyWindow s t
        ∧ Answers s t p .ok (b2 c.lines.toNat ++ [BitVec.ofNat 8 c.leaseLimit] ++ b2 c.maxTerm
            ++ [BitVec.ofNat 8 c.grace, BitVec.ofNat 8 c.warn, BitVec.ofNat 8 c.mayPin.toNat,
              BitVec.ofNat 8 c.mayGuard.toNat, if c.policy = .retire then 1#8 else 0#8,
              BitVec.ofNat 8 (s.portRec q).occupied, BitVec.ofNat 8 (waitBudget s q)]
            ++ b2 ((s.portRec q).quiet.getD 0))

/-- RESET_PORT of a port `q` by itself or by P0 (R145 to R149), and its two refusals: the leases of `q` retire, stay
or are freed by their state and pinned flag, offers to `q` are cancelled, its entries leave the queue, its map is
emptied and its window cleared; its quiet time, ticket counter and every charter and profile stay. -/
def Obligations.ResetPort : Prop :=
  ∀ (p : Port) (s : State), let target := argNat (s.args p) 0x04
    takes s (.resetPort p) p = true →
    (3 < target → Refuses (.resetPort p) s p .badArgument)
    ∧ (target ≤ 3 → p ≠ 0 → target ≠ p.val → Refuses (.resetPort p) s p .notAdmin)
    ∧ ∀ q : Port, Safe s → target = q.val → (p = 0 ∨ q = p) →
      ∃ t, exec (.resetPort p) s = .next t ∧ EngineKept s t ∧ t.charters = s.charters ∧ t.reports = s.reports
        ∧ t.lastServed = p ∧ t.map q = NoticeMap.empty ∧ (∀ e ∈ t.queue, e.port ≠ q)
        ∧ t.window q = ⟨0#8, .idle, .portWasReset, (s.window q).sequence + 1#8, Vector.replicate 32 0#8,
            Vector.replicate 24 0#8⟩
        ∧ (q ≠ p → t.window p =
            { s.window p with
              phase := .idle, status := .ok, result := Vector.replicate 24 0#8,
              sequence := (s.window p).sequence + 1#8 })
        ∧ (∀ r, r ≠ q → r ≠ p → t.window r = s.window r)
        ∧ (t.portRec q).quiet = (s.portRec q).quiet ∧ (t.portRec q).ticketCounter = (s.portRec q).ticketCounter
        ∧ (∀ k l, s.lease k = some l → l.holder = q →
            (l.state.live = true → l.term ≠ none → (∀ left, l.state ≠ .handover q left) →
              Retired s t k l .portReset)
            ∧ ((l.state = .active ∨ ∃ r left, l.state = .handover r left) → l.term = none →
                t.lease k = some { l with state := .active, params := l.params.setChanged 0#16 }
                  ∧ t.handle k = s.handle k
                  ∧ ∀ r left, r ≠ q → l.state = .handover r left →
                      Holds t r k (s.handle k).gen SlotKind.offerWithdrawn)
            ∧ (∀ r, l.state = .retiring r → t.lease k = some l ∧ t.handle k = s.handle k)
            ∧ (∀ r, l.state = .closed r → t.lease k = none ∨ (t.handle k).gen ≠ (s.handle k).gen))
        ∧ (∀ k l, s.lease k = some l → l.holder ≠ q →
            ((∃ left, l.state = .handover q left) → t.lease k = some { l with state := .active }
              ∧ Holds t l.holder k (s.handle k).gen SlotKind.offerCancelled)
            ∧ ((∀ left, l.state ≠ .handover q left) → t.lease k = some l) ∧ t.handle k = s.handle k)

/-! ## Notices -/

/-- At every moment, ATTn is asserted if and only if RSTN is released and the port's map has an entry; PORT_INFO shows
the port number, the quiet bit while the quiet remaining is above 0, and the notices-pending bit; NOTICE_COUNT shows
the number of entries, at most 44 (R163, R164, R173). NEXT_NOTICE answers NO_NOTICE for an empty map and else gives
the first entry in the order port, lines by number, slots by number, tickets oldest first, with the number of entries;
nothing but the window changes. The first ticket entry is the one issued first, in every state that keeps the ticket
order (R155, R156, R178). -/
def Obligations.NextNotice : Prop :=
  ∀ (p : Port) (s : State), let m := s.map p
    let hasEntry := m.port ≠ 0#16 ∨ m.lines ≠ 0#16 ∨ (∃ k, (vget m.slots k).isSome) ∨ m.tickets ≠ []
    let entries := (if m.port = 0#16 then 0 else 1) + (List.finRange 16).countP (fun n => has m.lines n)
      + (List.finRange 24).countP (fun k => (vget m.slots k).isSome) + m.tickets.length
    (attention s p = true ↔ s.rstnAsserted = false ∧ hasEntry)
    ∧ ((windowByte s p 0x3C).extractLsb' 0 2 = BitVec.ofNat 2 p.val
        ∧ ((windowByte s p 0x3C).getLsbD 2 = true ↔ ∃ x, (s.portRec p).quiet = some x ∧ 0 < x)
        ∧ ((windowByte s p 0x3C).getLsbD 3 = true ↔ hasEntry) ∧ (windowByte s p 0x3C).extractLsb' 4 4 = 0#4)
    ∧ windowByte s p 0x3D = BitVec.ofNat 8 entries ∧ (Safe s → entries ≤ 44)
    ∧ (takes s (.nextNotice p) p = true →
    (m.port = 0#16 → m.lines = 0#16 → (∀ k, vget m.slots k = none) → m.tickets = [] →
      Refuses (.nextNotice p) s p .noNotice)
    ∧ (hasEntry →
      ∃ t, exec (.nextNotice p) s = .next t ∧ OnlyWindow s t ∧ (t.window p).status = .ok
        ∧ windowByte t p 0x2C = BitVec.ofNat 8 entries
        ∧ (m.port ≠ 0#16 → windowByte t p 0x24 = 0#8 ∧ windowByte t p 0x27 ++ windowByte t p 0x28 = m.port)
        ∧ (∀ n, m.port = 0#16 → has m.lines n = true → (∀ j, j < n → has m.lines j = false) →
            windowByte t p 0x24 = 1#8 ∧ windowByte t p 0x25 = BitVec.ofNat 8 n.val
              ∧ windowByte t p 0x27 ++ windowByte t p 0x28 = LineKind.restFault)
        ∧ (∀ k e, m.port = 0#16 → m.lines = 0#16 → vget m.slots k = some e →
            (∀ j, j < k → vget m.slots j = none) →
            windowByte t p 0x24 = 2#8 ∧ windowByte t p 0x25 = BitVec.ofNat 8 k.val ∧ windowByte t p 0x26 = e.gen
              ∧ windowByte t p 0x27 ++ windowByte t p 0x28 = e.kinds
              ∧ (∀ r, e.reason = some r → windowByte t p 0x29 = BitVec.ofNat 8 r.code)
              ∧ (∀ o, e.outcome = some o → windowByte t p 0x2A = BitVec.ofNat 8 o.code)
              ∧ windowByte t p 0x2B = e.origin.getD 0#8)
        ∧ (∀ e rest, m.port = 0#16 → m.lines = 0#16 → (∀ k, vget m.slots k = none) → m.tickets = e :: rest →
            windowByte t p 0x24 = 3#8 ∧ windowByte t p 0x25 = e.ticket
              ∧ windowByte t p 0x27 ++ windowByte t p 0x28 = e.kinds
              ∧ (TicketsRight s → ∀ x ∈ rest, e.arrival < x.arrival))))

/-- The refusals of ACK_NOTICE in their order (R157): BAD_ARGUMENT for a bad subject, an empty kind set or a kind of
another subject type; BAD_HANDLE when RETIRED is named and the slot is FREE or holds another generation; NO_NOTICE
and NO_SUCH_TICKET without an entry; BAD_HANDLE for an entry of another handle. -/
def Obligations.AckRefused : Prop :=
  ∀ (p : Port) (s : State), let a := s.args p; let m := s.map p; let named := argSet a 0x07
    let refused := Refuses (.ackNotice p) s p
    takes s (.ackNotice p) p = true →
    ((3 < argNat a 0x04 ∨ (argNat a 0x04 = 1 ∧ 15 < argNat a 0x05) ∨ (argNat a 0x04 = 2 ∧ 23 < argNat a 0x05)) →
      refused .badArgument)
    ∧ (named = 0#16 → refused .badArgument)
    ∧ (argNat a 0x04 = 0 ∨ argNat a 0x04 = 3 → 7 < named.toNat → refused .badArgument)
    ∧ (argNat a 0x04 = 1 → 1 < named.toNat → refused .badArgument)
    ∧ (argNat a 0x04 = 0 → 1 ≤ named.toNat → named.toNat ≤ 7 → m.port = 0#16 → refused .noNotice)
    ∧ (∀ n, argNat a 0x04 = 1 → lineOf (argByte a 0x05) = some n → named = 1#16 → has m.lines n = false →
        refused .noNotice)
    ∧ (argNat a 0x04 = 3 → 1 ≤ named.toNat → named.toNat ≤ 7 → (∀ x ∈ m.tickets, x.ticket ≠ argByte a 0x05) →
        refused .noSuchTicket)
    ∧ ∀ k, argNat a 0x04 = 2 → slotOf (argByte a 0x05) = some k → named ≠ 0#16 →
      (named &&& SlotKind.retired ≠ 0#16 → (s.lease k = none ∨ (s.handle k).gen ≠ argByte a 0x06) →
        refused .badHandle)
      ∧ ((named &&& SlotKind.retired = 0#16 ∨ ((s.lease k).isSome = true ∧ (s.handle k).gen = argByte a 0x06)) →
        (vget m.slots k = none → refused .noNotice)
        ∧ ∀ e, vget m.slots k = some e → e.gen ≠ argByte a 0x06 → refused .badHandle)

/-- An ACK_NOTICE that passes its checks takes the named kinds out of the entry and leaves the others; an entry
without kinds goes. EDGE acknowledged by the holder of a live WATCH empties its changed set, and by any other port
leaves it; RETIRED named where the entry does not hold it, or where the asker's record is not CLOSED, frees nothing;
no other kind acts beyond the map. The result gives the kinds removed, the kinds left and the entries left in the map
(R157 to R160, R178). -/
def Obligations.AckRemovesKinds : Prop :=
  ∀ (p : Port) (s : State), let a := s.args p; let m := s.map p; let named := argSet a 0x07
    let answers := fun (t : State) (held : KindSet) => (t.window p).status = .ok
      ∧ windowByte t p 0x24 ++ windowByte t p 0x25 = held &&& named
      ∧ windowByte t p 0x26 ++ windowByte t p 0x27 = held &&& ~~~named
      ∧ windowByte t p 0x28 = BitVec.ofNat 8 (t.map p).count
    takes s (.ackNotice p) p = true → named ≠ 0#16 →
    (argNat a 0x04 = 0 → named.toNat ≤ 7 → m.port ≠ 0#16 →
      ∃ t, exec (.ackNotice p) s = .next t ∧ answers t m.port
        ∧ t.map p = { m with port := m.port &&& ~~~named } ∧ (∀ q, q ≠ p → t.map q = s.map q)
        ∧ OnlyWindow s { t with maps := s.maps })
    ∧ (∀ n, argNat a 0x04 = 1 → lineOf (argByte a 0x05) = some n → named = 1#16 → has m.lines n = true →
      ∃ t, exec (.ackNotice p) s = .next t ∧ answers t LineKind.restFault
        ∧ (∀ j, has (t.map p).lines j = (has m.lines j && j != n))
        ∧ { t.map p with lines := m.lines } = m ∧ (∀ q, q ≠ p → t.map q = s.map q)
        ∧ OnlyWindow s { t with maps := s.maps })
    ∧ (argNat a 0x04 = 3 → named.toNat ≤ 7 → (∃ x ∈ m.tickets, x.ticket = argByte a 0x05) →
      ∃ t, exec (.ackNotice p) s = .next t ∧ (t.window p).status = .ok
        ∧ (TicketsRight s → ∀ x ∈ m.tickets, x.ticket = argByte a 0x05 → answers t x.kinds)
        ∧ (∀ x, x ∈ (t.map p).tickets ↔
            (x ∈ m.tickets ∧ x.ticket ≠ argByte a 0x05)
              ∨ ∃ y ∈ m.tickets, y.ticket = argByte a 0x05 ∧ y.kinds &&& ~~~named ≠ 0#16
                ∧ x = { y with kinds := y.kinds &&& ~~~named })
        ∧ { t.map p with tickets := m.tickets } = m ∧ (∀ q, q ≠ p → t.map q = s.map q)
        ∧ OnlyWindow s { t with maps := s.maps })
    ∧ ∀ k e, argNat a 0x04 = 2 → slotOf (argByte a 0x05) = some k → vget m.slots k = some e →
      e.gen = argByte a 0x06 →
      (named &&& SlotKind.retired = 0#16
        ∨ ∃ l, s.lease k = some l ∧ (s.handle k).gen = e.gen
          ∧ (e.kinds &&& SlotKind.retired = 0#16 ∨ l.holder ≠ p ∨ ∀ r, l.state ≠ .closed r)) →
      ∃ t, exec (.ackNotice p) s = .next t ∧ answers t e.kinds
        ∧ kindsFor (t.map p) k e.gen = e.kinds &&& ~~~named
        ∧ (e.kinds &&& ~~~named = 0#16 → vget (t.map p).slots k = none)
        ∧ MapKept s t p k ∧ (∀ q, q ≠ p → t.map q = s.map q)
        ∧ (∀ j, j ≠ k → t.lease j = s.lease j) ∧ (∀ j, t.handle j = s.handle j)
        ∧ OnlyWindow s { t with slots := s.slots, maps := s.maps }
        ∧ (∀ l, s.lease k = some l → l.holder = p → (s.handle k).gen = e.gen → l.params.isWatch = true →
            l.state.live = true → e.kinds &&& named &&& SlotKind.edge ≠ 0#16 →
            t.lease k = some { l with params := l.params.setChanged 0#16 })
        ∧ (∀ l, s.lease k = some l → (l.holder ≠ p ∨ (s.handle k).gen ≠ e.gen ∨ l.params.isWatch = false
            ∨ l.state.live = false ∨ e.kinds &&& named &&& SlotKind.edge = 0#16) → t.lease k = some l)

/-! ## Term ticks -/

/-- TERM_TICK (R38, R44 to R51): every countdown falls by one, and what reaches 0 ends: a term goes to GRACE, with the
lines, the channel and the notices told so, or with grace 0 to RETIRING; a grace to RETIRING; an offer window back to
ACTIVE with OFFER_LAPSED; a wait out of the queue with WAIT_EXPIRED; a quiet time with QUIET_ENDED. TERM_LOW is posted
when the remaining term comes within the margin for the first time. The lines and channels of a lease that does not
end stay, held lines stay held, and so do the other lines but those that a scan grants. A tick with no countdown
running changes nothing (log entries 5 and 16). -/
def Obligations.TermTick : Prop :=
  ∀ s : State, Safe s → ∃ t, exec .termTick s = .next t ∧ EngineKept s t ∧ HostSideKept s t ∧ t.reports = s.reports
    ∧ (∀ k l, s.lease k = some l → let gen := (s.handle k).gen
        let working := l.state = .active ∨ ∃ q left, l.state = .handover q left
        let rem := l.term.bind (·.remaining)
        let counted := l.term.map fun x => ({ x with remaining := x.remaining.map (· - 1) } : Term)
        let low := decide (0 < l.warn) && !l.termLow && rem.any (fun r => decide (r - 1 ≤ l.warn))
        t.handle k = s.handle k
        ∧ (working → low = true → Holds t l.holder k gen SlotKind.termLow)
        ∧ (l.state = .active → (∀ r, rem = some r → 2 ≤ r) →
            t.lease k = some { l with term := counted, termLow := l.termLow || low })
        ∧ (∀ q left, l.state = .handover q left → (∀ r, rem = some r → 2 ≤ r) →
            (2 ≤ left → t.lease k = some
              { l with state := .handover q (left - 1), term := counted, termLow := l.termLow || low })
            ∧ (left ≤ 1 → t.lease k = some { l with state := .active, term := counted, termLow := l.termLow || low }
                ∧ Holds t l.holder k gen SlotKind.offerLapsed))
        ∧ (∀ r, working → rem = some r → r ≤ 1 → 0 < l.grace →
            InGrace s t k { l with term := counted, termLow := l.termLow || low })
        ∧ (∀ r, working → rem = some r → r ≤ 1 → l.grace = 0 →
            Retired s t k { l with term := counted, termLow := l.termLow || low } .expired)
        ∧ (∀ left, l.state = .grace left → 2 ≤ left → t.lease k = some { l with state := .grace (left - 1) })
        ∧ (∀ left, l.state = .grace left → left ≤ 1 → Retired s t k l .expired)
        ∧ (∀ r, l.state = .retiring r ∨ l.state = .closed r → t.lease k = some l)
        ∧ (¬EndsAtTick l →
            (∀ n, vget s.heldBy n = some k → t.cell n = s.cell n)
            ∧ (∀ spec c, l.state.live = true → l.params = .pattern spec c → vget t.patInbox c = vget s.patInbox c)
            ∧ ∀ spec armed g, l.state.live = true → l.params = .guard spec armed g →
              vget t.guardInbox g = vget s.guardInbox g))
    ∧ (∀ k, (∀ l, s.lease k = some l → ¬EndsAtTick l) → vget t.settling k = vget s.settling k)
    ∧ (∀ n k, vget s.heldBy n = some k → vget t.heldBy n = some k)
    ∧ (∀ n, vget s.heldBy n = none → vget t.heldBy n = none → t.cell n = s.cell n)
    ∧ (∀ c, vget s.patTaken c = false → vget t.patTaken c = false → vget t.patInbox c = vget s.patInbox c)
    ∧ (∀ g, vget s.guardTaken g = false → vget t.guardTaken g = false → vget t.guardInbox g = vget s.guardInbox g)
    ∧ (∀ x ∈ t.queue, ∃ e ∈ s.queue, 2 ≤ e.waitRemaining ∧ x = { e with waitRemaining := e.waitRemaining - 1 })
    ∧ (∀ e ∈ s.queue, e.waitRemaining ≤ 1 → HoldsTicket t e.port e.ticket TicketKind.waitExpired)
    ∧ (∀ p, (t.portRec p).ticketCounter = (s.portRec p).ticketCounter
        ∧ (∀ n, (s.portRec p).quiet = some n → 2 ≤ n →
            (t.portRec p).quiet = some (n - 1) ∧ (t.map p).port = (s.map p).port)
        ∧ (∀ n, (s.portRec p).quiet = some n → n ≤ 1 →
            (t.portRec p).quiet = none ∧ (t.map p).port = (s.map p).port ||| PortKind.quietEnded)
        ∧ ((s.portRec p).quiet = none → (t.portRec p).quiet = none ∧ (t.map p).port = (s.map p).port))
    ∧ ((∀ k l, s.lease k = some l → (l.state = .active ∧ l.term = none) ∨ ∃ r, l.state = .retiring r
          ∨ l.state = .closed r) → s.queue = [] → (∀ p, (s.portRec p).quiet = none) → t = s)

/-- The end of a term (R45, R47, R48). With grace above 0 the lease enters GRACE: an open offer is withdrawn,
GRACE_ENTERED is posted, the lines show the safe levels or keep their levels, a pattern channel is told to pause and
a guard channel to suspend with its action line at idle. With grace 0 it enters RETIRING. The model's choices: the row
acts on a remaining term that stands at 0 (log entry 5), the checks of every line of the lease start afresh (log entry
16), and the row of a lease whose term has not ended changes nothing (log entry 4). -/
def Obligations.TermEnd : Prop :=
  ∀ (s : State) (k : Slot), Safe s →
    (∀ l, s.lease k = some l → (l.state = .active ∨ ∃ q left, l.state = .handover q left) →
      l.term.bind (·.remaining) = some 0 →
      (0 < l.grace → ∃ t, exec (.termEnd k) s = .next t ∧ InGrace s t k l ∧ OthersKept s t k
        ∧ (∀ n, has l.lines n = false → t.cell n = s.cell n)
        ∧ { t with
            slots := s.slots, maps := s.maps, cells := s.cells, patInbox := s.patInbox,
            guardInbox := s.guardInbox } = s)
      ∧ (l.grace = 0 → ∃ t, exec (.termEnd k) s = .next t ∧ Retired s t k l .expired ∧ OthersKept s t k
          ∧ EngineKept s t ∧ HostSideKept s t ∧ t.reports = s.reports))
    ∧ ((∀ l, s.lease k = some l → (l.state ≠ .active ∧ ∀ q left, l.state ≠ .handover q left)
          ∨ l.term.bind (·.remaining) ≠ some 0) → exec (.termEnd k) s = .next s)

/-- The end of a grace retires the lease with EXPIRED (R49). The end of an offer window at which the term does not
end returns the lease to ACTIVE with OFFER_LAPSED to its holder, and the target's map is not posted (R51, R76). A
waiting entry at 0 leaves the queue with WAIT_EXPIRED on its ticket (R38). A quiet time that has reached 0 ends with
QUIET_ENDED on the port subject (R50). That the rows act on a countdown standing at 0 is the model's choice (log entry
5). -/
def Obligations.CountdownEnds : Prop :=
  (∀ (s : State) (k : Slot) (l : Lease), Safe s → s.lease k = some l →
      (l.state = .grace 0 → ∃ t, exec (.graceEnd k) s = .next t ∧ Retired s t k l .expired ∧ OthersKept s t k
        ∧ EngineKept s t ∧ HostSideKept s t ∧ t.reports = s.reports)
      ∧ (∀ q, l.state = .handover q 0 → l.term.bind (·.remaining) ≠ some 0 →
        ∃ t, exec (.offerLapse k) s = .next t ∧ t.lease k = some { l with state := .active }
          ∧ PostedTo s t l.holder k SlotKind.offerLapsed ∧ MapKept s t l.holder k
          ∧ (∀ r, r ≠ l.holder → t.map r = s.map r) ∧ (∀ j, j ≠ k → t.lease j = s.lease j)
          ∧ (∀ j, t.handle j = s.handle j) ∧ { t with slots := s.slots, maps := s.maps } = s))
  ∧ ∀ (s : State) (p : Port), Safe s →
      (∀ e ∈ s.queue, e.port = p → e.waitRemaining = 0 →
        ∃ t, exec (.waitExpiry p e.ticket) s = .next t ∧ (∀ x ∈ t.queue, x ∈ s.queue ∧ x ≠ e)
          ∧ HoldsTicket t p e.ticket TicketKind.waitExpired ∧ RecordsKept s t ∧ EngineKept s t ∧ HostSideKept s t
          ∧ t.reports = s.reports)
      ∧ ((s.portRec p).quiet = some 0 →
        ∃ t, exec (.quietEnd p) s = .next t ∧ (t.portRec p).quiet = none
          ∧ (t.portRec p).ticketCounter = (s.portRec p).ticketCounter
          ∧ (t.map p).port = (s.map p).port ||| PortKind.quietEnded ∧ (∀ x ∈ t.queue, x ∈ s.queue)
          ∧ (∀ q, q ≠ p → (t.portRec q).quiet = (s.portRec q).quiet ∧ (t.map q).port = (s.map q).port)
          ∧ RecordsKept s t ∧ EngineKept s t ∧ HostSideKept s t ∧ t.reports = s.reports)

/-! ## Reports -/

/-- EDGE_REPORT takes the oldest report of the line (R113, R114, R136): a qualifying edge of a live WATCH lease joins
its changed set, with EDGE posted to the holder when the set was empty; every other report is discarded. -/
def Obligations.EdgeReport : Prop :=
  ∀ (s : State) (n : Line) (h : Handle) (v : Level) (rest : List Report),
    NextReport s (fun r => r.line? = some n) (.edge h n v) rest →
    (∀ l pull rising falling changed, s.lease h.slot = some l → s.handle h.slot = h → l.state.live = true →
      l.params = .watch pull rising falling changed → (if v then has rising n else has falling n) = true →
      ∃ t, exec (.edgeReport n) s = .next t ∧ t.reports = rest
        ∧ t.lease h.slot = some { l with params := .watch pull rising falling (changed ||| single n) }
        ∧ (∀ j, j ≠ h.slot → t.lease j = s.lease j) ∧ (∀ j, t.handle j = s.handle j)
        ∧ (changed = 0#16 → PostedTo s t l.holder h.slot SlotKind.edge ∧ MapKept s t l.holder h.slot
            ∧ ∀ q, q ≠ l.holder → t.map q = s.map q)
        ∧ (changed ≠ 0#16 → t.maps = s.maps)
        ∧ { t with slots := s.slots, maps := s.maps, reports := s.reports } = s)
    ∧ ((∀ l, s.lease h.slot = some l → s.handle h.slot = h → l.state.live = true →
        ∀ pull rising falling changed, l.params = .watch pull rising falling changed →
          (if v then has rising n else has falling n) = false) →
      exec (.edgeReport n) s = .next { s with reports := rest })

/-- FAULT_REPORT takes the oldest report of the line (R117 to R119): a line of a live lease that is not in the fault
set joins it with LINE_FAULT posted; the lease stays under HOLD or when pinned, and enters RETIRING with reason FAULT
under RETIRE; every other report is discarded. -/
def Obligations.FaultReport : Prop :=
  ∀ (s : State) (n : Line) (h : Handle) (rest : List Report), Safe s →
    NextReport s (fun r => r.line? = some n) (.fault h n) rest →
    (∀ l, s.lease h.slot = some l → s.handle h.slot = h → l.state.live = true → has l.lines n = true →
      has l.faults n = false →
      (((s.charter l.holder).policy = .hold ∨ l.term = none) →
        ∃ t, exec (.faultReport n) s = .next t ∧ t.reports = rest
          ∧ t.lease h.slot = some { l with faults := l.faults ||| single n } ∧ appliedConfig t n = .highImpedance
          ∧ PostedTo s t l.holder h.slot SlotKind.lineFault ∧ MapKept s t l.holder h.slot
          ∧ (∀ q, q ≠ l.holder → t.map q = s.map q) ∧ (∀ j, j ≠ h.slot → t.lease j = s.lease j)
          ∧ (∀ j, t.handle j = s.handle j) ∧ (∀ m, m ≠ n → t.cell m = s.cell m)
          ∧ { t.cell n with mismatch := (s.cell n).mismatch } = s.cell n
          ∧ { t with slots := s.slots, maps := s.maps, reports := s.reports, cells := s.cells } = s)
      ∧ ((s.charter l.holder).policy = .retire → l.term ≠ none →
        ∃ t, exec (.faultReport n) s = .next t ∧ t.reports = rest ∧ Retired s t h.slot l .fault
          ∧ Holds t l.holder h.slot h.gen SlotKind.lineFault ∧ OthersKept s t h.slot ∧ EngineKept s t
          ∧ HostSideKept s t))
    ∧ ((∀ l, s.lease h.slot = some l → s.handle h.slot = h → l.state.live = true → has l.lines n = true →
        has l.faults n = true) →
      exec (.faultReport n) s = .next { s with reports := rest })

/-- SETTLE_COMPLETE (R62): the lines of the retirement become unheld; with PORT_RESET the slot becomes FREE and the
holder's count falls, with any other reason the record becomes CLOSED without a remaining term and RETIRED is posted
with the reason as its detail; a report whose lease is not RETIRING is discarded. -/
def Obligations.SettleComplete : Prop :=
  ∀ (s : State) (k : Slot) (h : Handle) (rest : List Report), h.slot = k →
    NextReport s (fun r => ∃ g, r = .settleComplete g ∧ g.slot = k) (.settleComplete h) rest →
    (∀ l reason, s.lease k = some l → s.handle k = h → l.state = .retiring reason →
      ∃ t, exec (.settleComplete k) s = .next t ∧ t.reports = rest ∧ OthersKept s t k ∧ EngineKept s t
        ∧ HostSideKept s t ∧ (∀ x ∈ t.queue, x ∈ s.queue)
        ∧ (reason ≠ .portReset →
            t.lease k = some
              { l with
                state := .closed reason
                term := l.term.map fun x => ({ x with remaining := none } : Term) }
            ∧ t.handle k = s.handle k ∧ (∀ n, vget t.heldBy n ≠ some k)
            ∧ Holds t l.holder k h.gen SlotKind.retired
            ∧ (vget (t.map l.holder).slots k).bind (·.reason) = some reason)
        ∧ (reason = .portReset → t.lease k = none ∨ (t.handle k).gen ≠ h.gen)
        ∧ (s.queue = [] →
            (∀ n, vget t.heldBy n = if vget s.heldBy n = some k then none else vget s.heldBy n)
            ∧ (reason = .portReset → t.lease k = none ∧ t.maps = s.maps ∧
                ∀ q, (t.portRec q).occupied
                  = if q = l.holder then (s.portRec q).occupied - 1 else (s.portRec q).occupied)
            ∧ (reason ≠ .portReset → t.portRecs = s.portRecs)))
    ∧ ((∀ l reason, s.lease k = some l → s.handle k = h → l.state ≠ .retiring reason) →
      exec (.settleComplete k) s = .next { s with reports := rest })

/-- PATTERN_DONE_REPORT posts PATTERN_DONE to the holder of a live lease and is else discarded (R109).
REST_FAULT_REPORT posts REST_FAULT to P0 on the line's subject (R135). -/
def Obligations.PatternDoneAndRestFaultReports : Prop :=
  (∀ (s : State) (k : Slot) (h : Handle) (rest : List Report), h.slot = k →
    NextReport s (fun r => ∃ g, r = .patternDone g ∧ g.slot = k) (.patternDone h) rest →
    (∀ l, s.lease k = some l → s.handle k = h → l.state.live = true →
      ∃ t, exec (.patternDoneReport k) s = .next t ∧ t.reports = rest
        ∧ PostedTo s t l.holder k SlotKind.patternDone ∧ MapKept s t l.holder k
        ∧ (∀ q, q ≠ l.holder → t.map q = s.map q) ∧ { t with maps := s.maps, reports := s.reports } = s)
    ∧ ((∀ l, s.lease k = some l → s.handle k = h → l.state.live = false) →
      exec (.patternDoneReport k) s = .next { s with reports := rest }))
  ∧ ∀ (s : State) (n : Line) (rest : List Report),
    NextReport s (fun r => r.line? = some n) (.restFault n) rest →
    ∃ t, exec (.restFaultReport n) s = .next t ∧ t.reports = rest ∧ (t.map 0).lines = (s.map 0).lines ||| single n
      ∧ { t.map 0 with lines := (s.map 0).lines } = s.map 0 ∧ (∀ q, q ≠ 0 → t.map q = s.map q)
      ∧ { t with maps := s.maps, reports := s.reports } = s

/-- FIRE_REPORT (R88, R94, R95): the recall of a guard that is still ACTIVE retires every live lease of the target,
cancels every offer to it, takes its waiting entries out with WAIT_CANCELLED, raises its quiet remaining and posts
RECALLED; a recall is dropped in any other state; GUARD_FIRED is posted with what became of it; a report of an ended
record is discarded. -/
def Obligations.FireReport : Prop :=
  ∀ (s : State) (k : Slot) (h : Handle) (carried : Bool) (rest : List Report), h.slot = k →
    NextReport s (fun r => ∃ g c, r = .fire g c ∧ g.slot = k) (.fire h carried) rest →
    (∀ l spec armed g r, Safe s → s.lease k = some l → s.handle k = h → carried = true → l.state = .active →
      l.params = .guard spec armed g → spec.recallSpec = some r → let q := r.target
      ∃ t, exec (.fireReport k) s = .next t ∧ t.reports = rest ∧ EngineKept s t ∧ HostSideKept s t
        ∧ (∀ j m, s.lease j = some m → m.holder = q → m.state.live = true → Retired s t j m .recalled)
        ∧ (∀ j m, s.lease j = some m → m.holder = q → m.state.live = false → t.lease j = some m)
        ∧ (∀ j m, s.lease j = some m → m.holder ≠ q →
            ((∃ left, m.state = .handover q left) → t.lease j = some { m with state := .active }
              ∧ Holds t m.holder j (s.handle j).gen SlotKind.offerCancelled)
            ∧ ((∀ left, m.state ≠ .handover q left) → t.lease j = some m))
        ∧ (∀ e ∈ t.queue, e ∈ s.queue ∧ e.port ≠ q)
        ∧ (∀ e ∈ s.queue, e.port = q → HoldsTicket t q e.ticket TicketKind.waitCancelled)
        ∧ (t.portRec q).quietRemaining = max (s.portRec q).quietRemaining r.quietTime
        ∧ (t.map q).port = (s.map q).port ||| PortKind.recalled
        ∧ Holds t l.holder k h.gen SlotKind.guardFired
        ∧ (vget (t.map l.holder).slots k).bind (·.outcome) = some .done)
    ∧ (∀ l, s.lease k = some l → s.handle k = h → (carried = false ∨ (l.state ≠ .active ∧ l.params.code = 3)) →
      ∃ t, exec (.fireReport k) s = .next t ∧ t.reports = rest
        ∧ PostedTo s t l.holder k SlotKind.guardFired ∧ MapKept s t l.holder k
        ∧ (vget (t.map l.holder).slots k).bind (·.outcome) = some (if carried then .dropped else .none)
        ∧ (∀ q, q ≠ l.holder → t.map q = s.map q) ∧ { t with maps := s.maps, reports := s.reports } = s)
    ∧ ((∀ l, s.lease k = some l → s.handle k ≠ h) → exec (.fireReport k) s = .next { s with reports := rest })

/-! ## The 1 ms tick -/

/-- MS_TICK, whatever the order of its parts. The debounce filter and the comparator take the sample of each line, the
comparator as stated on every line that no channel's end sends a level; running patterns, pulses, settle countdowns and
stall counts count. At its end a step gives way to the next step, the next loop or DONE with its report, and a pulse to
SPENT or ARMED, with the levels on the lines; a line whose configuration has changed has at most one sample counted.
The stall count starts again when SCL has been high, and the 26th tick abandons the transaction. Nothing of the engine's
own changes. No tick is counted while RSTN is asserted (R60, R87, R108, R109, R130, R133, R137, R168). -/
def Obligations.MsTick : Prop :=
  ∀ (s : State) (pads : Levels) (scl : SclTick) (order : List TickPart), let i := Instr.msTick pads scl order
    (s.rstnAsserted = true → exec i s = .next s)
    ∧ (s.rstnAsserted = false → ∃ t, exec i s = .next t ∧ s.reports <+: t.reports
      ∧ { t with
          cells := s.cells, profiles := s.profiles, settling := s.settling, patChans := s.patChans,
          guardChans := s.guardChans, reports := s.reports, buses := s.buses } = s
      ∧ (∀ n, let c := s.cell n; let c' := t.cell n; let v := has pads n
          (v = c.debounced → c'.debounced = c.debounced ∧ c'.stability = 0)
          ∧ (v ≠ c.debounced → c.stability < (s.profile n).debounce →
              c'.debounced = c.debounced ∧ c'.stability = c.stability + 1)
          ∧ (v ≠ c.debounced → (s.profile n).debounce ≤ c.stability → c'.debounced = v ∧ c'.stability = 0)
          ∧ { t.profile n with restFault := (s.profile n).restFault } = s.profile n)
      ∧ (∀ n, LineLeftAlone s n →
          let c := s.cell n; let c' := t.cell n
          c'.assigned = c.assigned ∧ (checkedLevel s n = none → c'.mismatch = 0)
            ∧ ∀ d, checkedLevel s n = some d →
              (d = has pads n → c'.mismatch = 0)
              ∧ (d ≠ has pads n → c.mismatch < 3 → c'.mismatch = c.mismatch + 1)
              ∧ (d ≠ has pads n → 3 ≤ c.mismatch → c'.mismatch = 0
                  ∧ (∀ k l, liveHolding s n = some (k, l) → Report.fault (s.handle k) n ∈ t.reports)
                  ∧ (liveHolding s n = none →
                      Report.restFault n ∈ t.reports ∧ (t.profile n).restFault = true)))
      ∧ (∀ n, appliedConfig t n ≠ appliedConfig s n → (t.cell n).mismatch ≤ 1)
      ∧ (∀ c ch n left, vget s.patChans c = some ch → ch.phase = .running n left → 2 ≤ n →
          vget t.patChans c = some { ch with phase := .running (n - 1) left })
      ∧ (∀ c, (∀ ch n left, vget s.patChans c = some ch → ch.phase ≠ .running n left) →
          vget t.patChans c = vget s.patChans c)
      ∧ (∀ c ch n left, vget s.patChans c = some ch → ch.phase = .running n left → n ≤ 1 →
          let begins := fun (i : Nat) (left : Option Nat) =>
            vget t.patChans c = some
                { ch with step := i, phase := .running ((ch.steps[i]?.map (·.duration)).getD 0) left }
              ∧ (OnlyPattern s c ch.handle →
                  LinesShow s t ch.handle (fun st => st = .active ∨ ∃ q x, st = .handover q x)
                    fun m => has ((ch.steps[i]?.map (·.levels)).getD 0#16) m)
          (ch.step + 1 < ch.steps.length → begins (ch.step + 1) left)
          ∧ (ch.steps.length ≤ ch.step + 1 → left = none → begins 0 none)
          ∧ (∀ m, ch.steps.length ≤ ch.step + 1 → left = some m → 2 ≤ m → begins 0 (some (m - 1)))
          ∧ (∀ m, ch.steps.length ≤ ch.step + 1 → left = some m → m ≤ 1 →
              vget t.patChans c = some { ch with phase := .done } ∧ Report.patternDone ch.handle ∈ t.reports))
      ∧ (∀ g ch n, vget s.guardChans g = some ch → ch.substate = .firing n →
          (2 ≤ n → vget t.guardChans g = some { ch with substate := .firing (n - 1) })
          ∧ (n ≤ 1 → (∃ x, vget t.guardChans g = some { ch with substate := x } ∧ ∀ m, x ≠ .firing m)
            ∧ ((∀ x ∈ ch.conditions, (s.cell x.line).debounced = has pads x.line) →
                vget t.guardChans g = some
                  { ch with substate := if AllTrue s ch.conditions then .spent else .armed })
            ∧ ∀ a, ch.action = some a → OnlyGuard s g ch.handle →
                LinesShow s t ch.handle (fun st => st = .active) fun _ => !a.pulseLevel))
      ∧ (∀ k r, vget s.settling k = some r → (∀ n, has r.lines n = true → (s.cell n).settle ≤ 1) →
          vget t.settling k = none ∧ Report.settleComplete { slot := k, gen := r.gen } ∈ t.reports)
      ∧ (∀ k r n, vget s.settling k = some r → has r.lines n = true → 2 ≤ (s.cell n).settle →
          (∀ j x, j ≠ k → vget s.settling j = some x → x.lines &&& r.lines = 0#16) →
          vget t.settling k = some { r with ticked := true } ∧ (t.cell n).settle = (s.cell n).settle - 1)
      ∧ (∀ p, let b := s.bus p; let low := scl.low.getLsbD p.val; let rose := scl.rose.getLsbD p.val
          (t.bus p).pointer = b.pointer
          ∧ ((b.state = .waiting ∨ low = false) → t.bus p = { b with stall := 0 })
          ∧ (b.state ≠ .waiting → low = true → rose = true → t.bus p = { b with stall := 1 })
          ∧ (b.state ≠ .waiting → low = true → rose = false → b.stall < 25 →
              t.bus p = { b with stall := b.stall + 1 })
          ∧ (b.state ≠ .waiting → low = true → rose = false → 25 ≤ b.stall →
              (t.bus p).state = .waiting ∧ (t.bus p).stall = 0)))

/-- A hold fires at the tick at which its countdown reaches 0: in MS_TICK with the guards first, a channel that holds
counts down, and at 1 it fires with its report and the pulse level on the action line; a hold that starts because
samples of the tick make the combination true, one line's or several's, is not counted by that tick, whatever the
order (R84 to R86). -/
def Obligations.GuardHoldCounts : Prop :=
  ∀ (s : State) (pads : Levels) (scl : SclTick) (g : GuardChan) (ch : GuardChannel), s.rstnAsserted = false →
    vget s.guardChans g = some ch →
    (∀ n, ch.substate = .holding n → (∀ c ∈ ch.conditions, (s.cell c.line).debounced = has pads c.line) →
      ∃ t, exec (.msTick pads scl []) s = .next t
        ∧ (2 ≤ n → vget t.guardChans g = some { ch with substate := .holding (n - 1) })
        ∧ (n ≤ 1 → Report.fire ch.handle ch.recallAttached ∈ t.reports
            ∧ vget t.guardChans g = some
              { ch with
                substate := match ch.action with
                  | some a => .firing (10 * a.pulseWidth)
                  | none => .spent }
            ∧ ∀ a, ch.action = some a → OnlyGuard s g ch.handle →
                LinesShow s t ch.handle (fun st => st = .active) fun _ => a.pulseLevel))
    ∧ (∀ order, ch.substate = .armed → AllTrue s ch.conditions = false →
        (∀ c ∈ ch.conditions, has pads c.line = c.level
          ∧ ((s.cell c.line).debounced = c.level ∨ (s.profile c.line).debounce ≤ (s.cell c.line).stability)) →
        ∃ t, exec (.msTick pads scl order) s = .next t
          ∧ vget t.guardChans g = some { ch with substate := .holding (10 * ch.hold) })

/-- What a line shows and the level its comparator checks, at every moment: nothing while RSTN is asserted; held live,
high impedance in the fault set, else the kind's configuration with the assigned level or the pull (a pull NONE shows
high impedance, the model's reading, log entry 17); at rest, the rest mode's, or high impedance with the rest-fault
flag, checked only with the fault check on (R104, R123, R124, R126, R133). DEBOUNCED_CHANGE (R84, R130, R131): the
level changes and the stability count returns to 0; every guard channel that observes the line reacts, and a line of a
live WATCH lease sends an edge report. DRIVE_FAULT (R134, R135): the count returns to 0; a held line sends a fault
report, a line at rest gets its flag, high impedance and a report. -/
def Obligations.DebouncedChangeAndDriveFault : Prop :=
  ∀ (s : State) (n : Line), let c := s.cell n
    let shows := fun (cfg : AppliedConfig) (checked : Option Level) =>
      appliedConfig s n = cfg ∧ checkedLevel s n = checked
    let output := fun (drive : DriveType) (v : Level) => match drive, v with
      | .pushPull, v => shows (.pushPull v) (some v)
      | .openDrain, false => shows (.openDrain false) (some false)
      | .openDrain, true => shows (.openDrain true) none
    (s.rstnAsserted = true → shows .highImpedance none)
    ∧ (∀ k l, s.rstnAsserted = false → vget s.heldBy n = some k → s.lease k = some l →
        (l.state = .active ∨ (∃ q x, l.state = .handover q x) ∨ ∃ x, l.state = .grace x) →
        (has l.faults n = true → shows .highImpedance none)
        ∧ (has l.faults n = false →
          (∀ v, c.assigned = some v →
            (∀ drive lv safe, l.params = .drive drive lv safe → output drive v)
            ∧ (∀ spec ch, l.params = .pattern spec ch → output spec.drive v)
            ∧ (∀ spec armed g, l.params = .guard spec armed g → shows (.pushPull v) (some v)))
          ∧ ∀ pull rising falling changed, l.params = .watch pull rising falling changed →
            shows (match pull with
              | .up => .pullUp
              | .down => .pullDown
              | .none => .highImpedance) none))
    ∧ (s.rstnAsserted = false →
        (vget s.heldBy n = none ∨ ∃ k l r, vget s.heldBy n = some k ∧ s.lease k = some l ∧ l.state = .retiring r) →
        let f := s.profile n
        let drives := fun (v : Level) => shows (.pushPull v) (if f.faultCheck then some v else none)
        (f.restFault = true → shows .highImpedance none)
        ∧ (f.restFault = false → match f.rest with
          | .hiZ => shows .highImpedance none
          | .pullUp => shows .pullUp none
          | .pullDown => shows .pullDown none
          | .driveLow => drives false
          | .driveHigh => drives true))
    ∧ (s.rstnAsserted = false → (s.profile n).debounce ≤ c.stability →
      ∃ t, exec (.debouncedChange n) s = .next t ∧ t.cell n = { c with debounced := !c.debounced, stability := 0 }
        ∧ (∀ m, m ≠ n → t.cell m = s.cell m)
        ∧ (∀ g ch, vget s.guardChans g = some ch → (∀ x ∈ ch.conditions, x.line ≠ n) →
            vget t.guardChans g = some ch)
        ∧ (∀ g ch, vget s.guardChans g = some ch → (∃ x ∈ ch.conditions, x.line = n) →
            vget t.guardChans g = some
              { ch with
                substate := match ch.substate, AllTrue t ch.conditions with
                  | .armed, true => .holding (10 * ch.hold)
                  | .holding _, false => .armed
                  | .spent, false => .armed
                  | x, _ => x })
        ∧ (∀ k l, liveHolding s n = some (k, l) → l.params.isWatch = true →
            t.reports = s.reports ++ [.edge (s.handle k) n (!c.debounced)])
        ∧ ((∀ k l, liveHolding s n = some (k, l) → l.params.isWatch = false) → t.reports = s.reports)
        ∧ { t with cells := s.cells, guardChans := s.guardChans, reports := s.reports } = s)
    ∧ (4 ≤ c.mismatch → ∃ t, exec (.driveFault n) s = .next t ∧ t.cell n = { c with mismatch := 0 }
        ∧ (∀ m, m ≠ n → t.cell m = s.cell m ∧ t.profile m = s.profile m)
        ∧ (∀ k l, liveHolding s n = some (k, l) →
            t.reports = s.reports ++ [.fault (s.handle k) n] ∧ t.profiles = s.profiles)
        ∧ (liveHolding s n = none → t.reports = s.reports ++ [.restFault n]
            ∧ t.profile n = { s.profile n with restFault := true } ∧ appliedConfig t n = .highImpedance)
        ∧ { t with cells := s.cells, profiles := s.profiles, reports := s.reports } = s)

/-- SETTLE_COUNTDOWN_END (R60, R132): when a tick has been counted and every line of the retirement stands at 0, one
settle-complete report is sent and the record goes, and before that the row changes nothing (log entry 4). STEP_END
(R108, R109): at countdown 0 the next step, the next loop or DONE with its report follows, and a new step's levels
reach the lines of a lease in ACTIVE or HANDOVER. The rows act on counts that stand at their thresholds (log entry 6).
-/
def Obligations.SettleCountdownEndAndStepEnd : Prop :=
  ∀ (s : State),
    (∀ k r, vget s.settling k = some r → r.ticked = true → (∀ n, has r.lines n = true → (s.cell n).settle = 0) →
      ∃ t, exec (.settleCountdownEnd k) s = .next t ∧ vget t.settling k = none
        ∧ (∀ j, j ≠ k → vget t.settling j = vget s.settling j)
        ∧ t.reports = s.reports ++ [.settleComplete { slot := k, gen := r.gen }]
        ∧ { t with settling := s.settling, reports := s.reports } = s)
    ∧ (∀ k r, vget s.settling k = some r → (r.ticked = false ∨ ∃ n, has r.lines n = true ∧ (s.cell n).settle ≠ 0) →
        exec (.settleCountdownEnd k) s = .next s)
    ∧ ∀ c ch loops, vget s.patChans c = some ch → ch.phase = .running 0 loops →
      let begins := fun (t : State) (i : Nat) (left : Option Nat) =>
        vget t.patChans c = some
            { ch with step := i, phase := .running ((ch.steps[i]?.map (·.duration)).getD 0) left }
          ∧ t.reports = s.reports
          ∧ ∀ l n, s.lease ch.handle.slot = some l → s.handle ch.handle.slot = ch.handle →
              (l.state = .active ∨ ∃ q x, l.state = .handover q x) → has l.lines n = true →
              vget s.heldBy n = some ch.handle.slot →
              (t.cell n).assigned = some (has ((ch.steps[i]?.map (·.levels)).getD 0#16) n)
      ∃ t, exec (.stepEnd c) s = .next t
        ∧ (ch.step + 1 < ch.steps.length → begins t (ch.step + 1) loops)
        ∧ (ch.steps.length ≤ ch.step + 1 → loops = none → begins t 0 none)
        ∧ (∀ m, ch.steps.length ≤ ch.step + 1 → loops = some m → 2 ≤ m → begins t 0 (some (m - 1)))
        ∧ (∀ m, ch.steps.length ≤ ch.step + 1 → loops = some m → m ≤ 1 →
            vget t.patChans c = some { ch with phase := .done }
              ∧ t.reports = s.reports ++ [.patternDone ch.handle] ∧ t.cells = s.cells)
        ∧ (∀ d, d ≠ c → vget t.patChans d = vget s.patChans d)
        ∧ { t with patChans := s.patChans, cells := s.cells, reports := s.reports } = s

/-- GUARD_FIRE at hold countdown 0 (R86): FIRING with the pulse countdown and the pulse level on the action line of an
ACTIVE lease, or SPENT without an action line, and one fire report. PULSE_END at pulse countdown 0 (R87): SPENT or
ARMED by the combination, and the idle level on the action line of an ACTIVE lease. -/
def Obligations.GuardFireAndPulseEnd : Prop :=
  ∀ (s : State) (g : GuardChan) (ch : GuardChannel), vget s.guardChans g = some ch →
    let shows := fun (t : State) (v : Level) =>
      ∀ l n, s.lease ch.handle.slot = some l → s.handle ch.handle.slot = ch.handle → l.state = .active →
        has l.lines n = true → vget s.heldBy n = some ch.handle.slot → (t.cell n).assigned = some v
    (ch.substate = .holding 0 →
      ∃ t, exec (.guardFire g) s = .next t
        ∧ t.reports = s.reports ++ [.fire ch.handle ch.recallAttached]
        ∧ (∀ a, ch.action = some a → shows t a.pulseLevel
            ∧ vget t.guardChans g = some { ch with substate := .firing (10 * a.pulseWidth) })
        ∧ (ch.action = none → vget t.guardChans g = some { ch with substate := .spent } ∧ t.cells = s.cells)
        ∧ (∀ d, d ≠ g → vget t.guardChans d = vget s.guardChans d)
        ∧ { t with guardChans := s.guardChans, cells := s.cells, reports := s.reports } = s)
    ∧ (ch.substate = .firing 0 →
      ∃ t, exec (.pulseEnd g) s = .next t ∧ t.reports = s.reports
        ∧ vget t.guardChans g = some
            { ch with substate := if AllTrue s ch.conditions then .spent else .armed }
        ∧ (∀ a, ch.action = some a → shows t (!a.pulseLevel))
        ∧ (∀ d, d ≠ g → vget t.guardChans d = vget s.guardChans d)
        ∧ { t with guardChans := s.guardChans, cells := s.cells, reports := s.reports } = s)

/-! ## Channel instructions -/

/-- A pattern channel takes the instruction in front of those sent to it (R28, R107, R110 to R112): a set-up runs from
step 0, a pause keeps step and loops and hands over the levels of the current step, which reach the lines of a lease
in GRACE without safe levels and are void for any other (R125), a resume gives the step its full duration, a restart
runs from step 0 with all loops, a free empties the channel; the levels a step begins with reach the lines of a
working lease. -/
def Obligations.PatternInstructions : Prop :=
  ∀ (s : State) (c : PatChan) (rest : List PatternInstr),
    let loopsOf := fun (n : Nat) => if n = 0 then none else some n
    let inbox := vget s.patInbox c
    let runs := fun (t : State) (ch : PatternChannel) (i : Nat) (left : Option Nat) =>
      vget t.patChans c = some { ch with step := i, phase := .running ((ch.steps[i]?.map (·.duration)).getD 0) left }
        ∧ ∀ l n, s.lease ch.handle.slot = some l → s.handle ch.handle.slot = ch.handle →
            (l.state = .active ∨ ∃ q x, l.state = .handover q x) → has l.lines n = true →
            vget s.heldBy n = some ch.handle.slot →
            (t.cell n).assigned = some (has ((ch.steps[i]?.map (·.levels)).getD 0#16) n)
    let kept := fun (t : State) =>
      vget t.patInbox c = rest
        ∧ (∀ d, d ≠ c → vget t.patInbox d = vget s.patInbox d ∧ vget t.patChans d = vget s.patChans d)
        ∧ { t with patChans := s.patChans, patInbox := s.patInbox, cells := s.cells } = s
    (∀ h spec, inbox = .setup h spec :: rest →
      ∃ t, exec (.patternSetup c) s = .next t ∧ kept t ∧ t.cells = s.cells
        ∧ vget t.patChans c = some ⟨h, spec.drive, spec.steps, spec.loops, 0,
            .running ((spec.steps.head?.map (·.duration)).getD 0) (loopsOf spec.loops)⟩)
    ∧ (∀ ch n left, inbox = .pause :: rest → vget s.patChans c = some ch → ch.phase = .running n left →
      ∃ t, exec (.patternPause c) s = .next t ∧ kept t
        ∧ vget t.patChans c = some { ch with phase := .paused left }
        ∧ (∀ l n spec d x, s.lease ch.handle.slot = some l → s.handle ch.handle.slot = ch.handle →
            l.params = .pattern spec d → l.state = .grace x → spec.safe = none → has l.lines n = true →
            vget s.heldBy n = some ch.handle.slot →
            (t.cell n).assigned = some (has ((ch.steps[ch.step]?.map (·.levels)).getD 0#16) n))
        ∧ (∀ l n, s.lease ch.handle.slot = some l → (has l.lines n = false ∨ vget s.heldBy n ≠ some ch.handle.slot) →
            (t.cell n).assigned = (s.cell n).assigned)
        ∧ (∀ l spec d, s.lease ch.handle.slot = some l → l.params = .pattern spec d →
            (s.handle ch.handle.slot ≠ ch.handle ∨ (∀ x, l.state ≠ .grace x) ∨ spec.safe ≠ none) →
            t.cells = s.cells)
        ∧ (s.lease ch.handle.slot = none → t.cells = s.cells))
    ∧ (∀ ch left, inbox = .resume :: rest → vget s.patChans c = some ch → ch.phase = .paused left →
      ∃ t, exec (.patternResume c) s = .next t ∧ kept t ∧ runs t ch ch.step left)
    ∧ (∀ ch, inbox = .restart :: rest → vget s.patChans c = some ch →
      (ch.phase = .done ∨ ∃ n left, ch.phase = .running n left) →
      ∃ t, exec (.patternRestart c) s = .next t ∧ kept t ∧ runs t ch 0 (loopsOf ch.loops))
    ∧ (inbox = .free :: rest →
      ∃ t, exec (.patternFree c) s = .next t ∧ kept t ∧ vget t.patChans c = none ∧ t.cells = s.cells)
    ∧ (∀ ch, vget s.patChans c = some ch → ch.phase = .done →
      (inbox = .pause :: rest → ∃ t, exec (.patternPause c) s = .next t ∧ kept t ∧ vget t.patChans c = some ch
        ∧ t.cells = s.cells)
      ∧ (inbox = .resume :: rest → ∃ t, exec (.patternResume c) s = .next t ∧ kept t
        ∧ vget t.patChans c = some ch ∧ t.cells = s.cells))

/-- A guard channel takes the instruction in front of those sent to it (R28, R54, R89 to R92): a set-up, an arm in
DISARMED and an unsuspend follow the armed flag and the combination; a disarm, a suspend and a free discard a hold
and cut a pulse, the action line returning to idle. -/
def Obligations.GuardInstructions : Prop :=
  ∀ (s : State) (g : GuardChan) (rest : List GuardInstr), let inbox := vget s.guardInbox g
    let start := fun (armed now : Bool) => if armed then (if now then Substate.spent else .armed) else .disarmed
    let kept := fun (t : State) =>
      vget t.guardInbox g = rest
        ∧ (∀ d, d ≠ g → vget t.guardInbox d = vget s.guardInbox d ∧ vget t.guardChans d = vget s.guardChans d)
        ∧ { t with guardChans := s.guardChans, guardInbox := s.guardInbox, cells := s.cells } = s
    let cut := fun (t : State) (ch : GuardChannel) =>
      ((∀ n, ch.substate ≠ .firing n) → t.cells = s.cells)
        ∧ ∀ a n l m, ch.substate = .firing n → ch.action = some a → s.lease ch.handle.slot = some l →
            s.handle ch.handle.slot = ch.handle → l.state = .active → has l.lines m = true →
            vget s.heldBy m = some ch.handle.slot → (t.cell m).assigned = some (!a.pulseLevel)
    (∀ h spec armed, inbox = .setup h spec armed (AllTrue s spec.conditions) :: rest →
      ∃ t, exec (.guardSetup g) s = .next t ∧ kept t ∧ t.cells = s.cells
        ∧ vget t.guardChans g = some ⟨h, spec.conditions, spec.hold, spec.action, spec.recallSpec.isSome,
            start armed (AllTrue s spec.conditions)⟩)
    ∧ ∀ ch, vget s.guardChans g = some ch →
      (inbox = .arm :: rest → ∃ t, exec (.guardArm g) s = .next t ∧ kept t ∧ t.cells = s.cells
        ∧ vget t.guardChans g = some
            { ch with substate := if ch.substate = .disarmed then start true (AllTrue s ch.conditions) else ch.substate })
      ∧ (inbox = .disarm :: rest → ch.substate ≠ .suspended →
        ∃ t, exec (.guardDisarm g) s = .next t ∧ kept t ∧ cut t ch
          ∧ vget t.guardChans g = some { ch with substate := .disarmed })
      ∧ (inbox = .suspend :: rest → ∃ t, exec (.guardSuspend g) s = .next t ∧ kept t ∧ cut t ch
          ∧ vget t.guardChans g = some { ch with substate := .suspended })
      ∧ (∀ armed, inbox = .unsuspend armed (AllTrue s ch.conditions) :: rest → ch.substate = .suspended →
        ∃ t, exec (.guardUnsuspend g) s = .next t ∧ kept t ∧ t.cells = s.cells
          ∧ vget t.guardChans g = some { ch with substate := start armed (AllTrue s ch.conditions) })
      ∧ (inbox = .free :: rest → ∃ t, exec (.guardFree g) s = .next t ∧ kept t ∧ cut t ch
          ∧ vget t.guardChans g = none)

/-! ## The I2C ports and device reset -/

/-- I2C_ADDRESS, I2C_OFFSET, I2C_STOP, I2C_STALL_TIMEOUT and I2C_READ act on their own port's interface alone
(R165, R167, R168): the part answers address 0x3E and no other, the offset byte sets the pointer to its low six bits,
a STOP ends the transaction, a stall of 26 ticks abandons it, and a read sends the copied window from the pointer on
with wrap and advances the pointer. -/
def Obligations.I2cTransactions : Prop :=
  ∀ (s : State) (p : Port), let b := s.bus p
    let only := fun (t : State) => (∀ q, q ≠ p → t.bus q = s.bus q) ∧ { t with buses := s.buses } = s
    (∀ byte, ∃ t, exec (.i2cAddress p byte) s = .next t ∧ only t ∧ (t.bus p).pointer = b.pointer
      ∧ (t.bus p).stall = 0
      ∧ (s.rstnAsserted = false → byte = 0x7C#8 → (t.bus p).state = .awaitOffset ∧ (t.bus p).acked = true)
      ∧ (s.rstnAsserted = false → byte = 0x7D#8 → (t.bus p).acked = true
          ∧ ∃ copy, (t.bus p).state = .reading copy ∧ ∀ i, vget copy i = windowByte s p i.val)
      ∧ ((s.rstnAsserted = true ∨ (byte ≠ 0x7C#8 ∧ byte ≠ 0x7D#8)) →
          (t.bus p).state = .waiting ∧ (t.bus p).acked = false))
    ∧ (∀ byte, b.state = .awaitOffset →
      ∃ t, exec (.i2cOffset p byte) s = .next t ∧ only t ∧ (t.bus p).state = .writing ∧ (t.bus p).acked = true
        ∧ (t.bus p).pointer.toNat = byte.toNat % 64)
    ∧ (∃ t, exec (.i2cStop p) s = .next t ∧ only t ∧ (t.bus p).state = .waiting ∧ (t.bus p).pointer = b.pointer
        ∧ (t.bus p).stall = 0)
    ∧ (b.state ≠ .waiting → 26 ≤ b.stall →
      ∃ t, exec (.i2cStallTimeout p) s = .next t ∧ only t ∧ (t.bus p).state = .waiting
        ∧ (t.bus p).pointer = b.pointer ∧ (t.bus p).stall = 0)
    ∧ (∀ count, 1 ≤ count → s.rstnAsserted = false →
      ∃ t, exec (.i2cRead p count) s = .next t ∧ only t ∧ (t.bus p).sent.length = count
        ∧ (∀ i, i < count →
            (t.bus p).sent[i]? = some (windowByte s p ((b.pointer.toNat + i) % 64)))
        ∧ (t.bus p).pointer.toNat = (b.pointer.toNat + count) % 64)

/-- WINDOW_WRITE and CONTROL_GO are data bytes of a write transaction, handled by the offset and by the command state
(R166, R169): an idle port stores COMMAND and ARGUMENTS and takes GO 1 at CONTROL, a busy port refuses the bytes below
0x24, the other offsets discard the byte; the pointer advances with wrap after every one. -/
def Obligations.DataBytes : Prop :=
  ∀ (s : State) (p : Port) (byte : Byte), let b := s.bus p; let w := s.window p; let off := b.pointer.toNat
    let done := fun (i : Instr) (t : State) => exec i s = .next t
      ∧ (t.bus p).pointer = b.pointer + 1#6 ∧ (t.bus p).state = .writing
      ∧ (∀ q, q ≠ p → t.bus q = s.bus q ∧ t.window q = s.window q)
      ∧ { t with buses := s.buses, windows := s.windows } = s
    b.state = .writing →
    (∃ t, done (.windowWrite p byte) t
      ∧ (w.phase ≠ .idle → t.window p = w ∧ (t.bus p).acked = decide (0x24 ≤ off))
      ∧ (w.phase = .idle → (t.bus p).acked = true
          ∧ (off = 0 → t.window p = { w with command := byte })
          ∧ (off = 1 → byte.getLsbD 0 = true → t.window p = { w with phase := .pending })
          ∧ (off = 1 → byte.getLsbD 0 = false → t.window p = w)
          ∧ (4 ≤ off → off < 0x24 → { t.window p with args := w.args } = w
              ∧ ∀ i, argByte (t.window p).args i = if i = off then byte else argByte w.args i)
          ∧ ((off = 2 ∨ off = 3 ∨ 0x24 ≤ off) → t.window p = w)))
    ∧ ∀ upper, off = 1 →
      ∃ t, done (.controlGo p upper) t ∧ (w.phase = .idle → (t.bus p).acked = true
          ∧ t.window p = { w with phase := .pending } ∧ windowByte t p 0x01 = 1#8)
        ∧ (w.phase ≠ .idle → (t.bus p).acked = false ∧ t.window p = w)

/-- DEVICE_RESET gives everything its reset value with RSTN asserted, the debounced levels apart (they are the model's
choice, log entry 1, and are not stated): no line is driven, no attention line asserted. The rows that wait stay (log
entry 30). RSTN_RELEASE loads the debounced levels from the pads and reports no change (R19, R137, R163). -/
def Obligations.DeviceResetAndRelease : Prop :=
  (∀ s : State, ∃ t, exec .deviceReset s = .next t ∧ t.rstnAsserted = true ∧ t.pending = s.pending
      ∧ { t with rstnAsserted := false, pending := [], cells := State.reset.cells } = State.reset
      ∧ (∀ n, (t.cell n).assigned = none ∧ (t.cell n).stability = 0 ∧ (t.cell n).mismatch = 0 ∧ (t.cell n).settle = 0)
      ∧ (∀ n, appliedConfig t n = .highImpedance) ∧ ∀ p, attention t p = false)
    ∧ ∀ (s : State) (pads : Levels), s.rstnAsserted = true →
      ∃ t, exec (.rstnRelease pads) s = .next t ∧ t.rstnAsserted = false ∧ t.reports = s.reports
        ∧ (∀ n, t.cell n = { s.cell n with debounced := has pads n })
        ∧ { t with rstnAsserted := true, cells := s.cells } = s
end

