-- ==== Sys2Proof/Laws/State.lean ====
section
/-! SUPPORT. What each update of one place of the state does to every field. -/

namespace Sys2Proof.Machine

/-! `State.setLease` -/

@[simp] theorem State.setLease_rstnAsserted (s : State) (k : Slot) (l : Lease) : (s.setLease k l).rstnAsserted = s.rstnAsserted := rfl
@[simp] theorem State.setLease_heldBy (s : State) (k : Slot) (l : Lease) : (s.setLease k l).heldBy = s.heldBy := rfl
@[simp] theorem State.setLease_patTaken (s : State) (k : Slot) (l : Lease) : (s.setLease k l).patTaken = s.patTaken := rfl
@[simp] theorem State.setLease_guardTaken (s : State) (k : Slot) (l : Lease) : (s.setLease k l).guardTaken = s.guardTaken := rfl
@[simp] theorem State.setLease_portRecs (s : State) (k : Slot) (l : Lease) : (s.setLease k l).portRecs = s.portRecs := rfl
@[simp] theorem State.setLease_queue (s : State) (k : Slot) (l : Lease) : (s.setLease k l).queue = s.queue := rfl
@[simp] theorem State.setLease_arrivals (s : State) (k : Slot) (l : Lease) : (s.setLease k l).arrivals = s.arrivals := rfl
@[simp] theorem State.setLease_charters (s : State) (k : Slot) (l : Lease) : (s.setLease k l).charters = s.charters := rfl
@[simp] theorem State.setLease_profiles (s : State) (k : Slot) (l : Lease) : (s.setLease k l).profiles = s.profiles := rfl
@[simp] theorem State.setLease_cells (s : State) (k : Slot) (l : Lease) : (s.setLease k l).cells = s.cells := rfl
@[simp] theorem State.setLease_settling (s : State) (k : Slot) (l : Lease) : (s.setLease k l).settling = s.settling := rfl
@[simp] theorem State.setLease_patChans (s : State) (k : Slot) (l : Lease) : (s.setLease k l).patChans = s.patChans := rfl
@[simp] theorem State.setLease_patInbox (s : State) (k : Slot) (l : Lease) : (s.setLease k l).patInbox = s.patInbox := rfl
@[simp] theorem State.setLease_guardChans (s : State) (k : Slot) (l : Lease) : (s.setLease k l).guardChans = s.guardChans := rfl
@[simp] theorem State.setLease_guardInbox (s : State) (k : Slot) (l : Lease) : (s.setLease k l).guardInbox = s.guardInbox := rfl
@[simp] theorem State.setLease_reports (s : State) (k : Slot) (l : Lease) : (s.setLease k l).reports = s.reports := rfl
@[simp] theorem State.setLease_maps (s : State) (k : Slot) (l : Lease) : (s.setLease k l).maps = s.maps := rfl
@[simp] theorem State.setLease_windows (s : State) (k : Slot) (l : Lease) : (s.setLease k l).windows = s.windows := rfl
@[simp] theorem State.setLease_buses (s : State) (k : Slot) (l : Lease) : (s.setLease k l).buses = s.buses := rfl
@[simp] theorem State.setLease_lastServed (s : State) (k : Slot) (l : Lease) : (s.setLease k l).lastServed = s.lastServed := rfl
@[simp] theorem State.setLease_pending (s : State) (k : Slot) (l : Lease) : (s.setLease k l).pending = s.pending := rfl
@[simp] theorem State.setLease_charter (s : State) (k : Slot) (l : Lease) (q : Port) : (s.setLease k l).charter q = s.charter q := rfl
@[simp] theorem State.setLease_profile (s : State) (k : Slot) (l : Lease) (j : Line) : (s.setLease k l).profile j = s.profile j := rfl
@[simp] theorem State.setLease_cell (s : State) (k : Slot) (l : Lease) (j : Line) : (s.setLease k l).cell j = s.cell j := rfl
@[simp] theorem State.setLease_portRec (s : State) (k : Slot) (l : Lease) (q : Port) : (s.setLease k l).portRec q = s.portRec q := rfl
@[simp] theorem State.setLease_map (s : State) (k : Slot) (l : Lease) (q : Port) : (s.setLease k l).map q = s.map q := rfl
@[simp] theorem State.setLease_window (s : State) (k : Slot) (l : Lease) (q : Port) : (s.setLease k l).window q = s.window q := rfl
@[simp] theorem State.setLease_bus (s : State) (k : Slot) (l : Lease) (q : Port) : (s.setLease k l).bus q = s.bus q := rfl
@[simp] theorem State.setLease_isQuiet (s : State) (k : Slot) (l : Lease) (q : Port) : (s.setLease k l).isQuiet q = s.isQuiet q := rfl
@[simp] theorem State.setLease_args (s : State) (k : Slot) (l : Lease) (q : Port) : (s.setLease k l).args q = s.args q := rfl

/-! `State.setCell` -/

@[simp] theorem State.setCell_rstnAsserted (s : State) (n : Line) (c : Cell) : (s.setCell n c).rstnAsserted = s.rstnAsserted := rfl
@[simp] theorem State.setCell_slots (s : State) (n : Line) (c : Cell) : (s.setCell n c).slots = s.slots := rfl
@[simp] theorem State.setCell_heldBy (s : State) (n : Line) (c : Cell) : (s.setCell n c).heldBy = s.heldBy := rfl
@[simp] theorem State.setCell_patTaken (s : State) (n : Line) (c : Cell) : (s.setCell n c).patTaken = s.patTaken := rfl
@[simp] theorem State.setCell_guardTaken (s : State) (n : Line) (c : Cell) : (s.setCell n c).guardTaken = s.guardTaken := rfl
@[simp] theorem State.setCell_portRecs (s : State) (n : Line) (c : Cell) : (s.setCell n c).portRecs = s.portRecs := rfl
@[simp] theorem State.setCell_queue (s : State) (n : Line) (c : Cell) : (s.setCell n c).queue = s.queue := rfl
@[simp] theorem State.setCell_arrivals (s : State) (n : Line) (c : Cell) : (s.setCell n c).arrivals = s.arrivals := rfl
@[simp] theorem State.setCell_charters (s : State) (n : Line) (c : Cell) : (s.setCell n c).charters = s.charters := rfl
@[simp] theorem State.setCell_profiles (s : State) (n : Line) (c : Cell) : (s.setCell n c).profiles = s.profiles := rfl
@[simp] theorem State.setCell_settling (s : State) (n : Line) (c : Cell) : (s.setCell n c).settling = s.settling := rfl
@[simp] theorem State.setCell_patChans (s : State) (n : Line) (c : Cell) : (s.setCell n c).patChans = s.patChans := rfl
@[simp] theorem State.setCell_patInbox (s : State) (n : Line) (c : Cell) : (s.setCell n c).patInbox = s.patInbox := rfl
@[simp] theorem State.setCell_guardChans (s : State) (n : Line) (c : Cell) : (s.setCell n c).guardChans = s.guardChans := rfl
@[simp] theorem State.setCell_guardInbox (s : State) (n : Line) (c : Cell) : (s.setCell n c).guardInbox = s.guardInbox := rfl
@[simp] theorem State.setCell_reports (s : State) (n : Line) (c : Cell) : (s.setCell n c).reports = s.reports := rfl
@[simp] theorem State.setCell_maps (s : State) (n : Line) (c : Cell) : (s.setCell n c).maps = s.maps := rfl
@[simp] theorem State.setCell_windows (s : State) (n : Line) (c : Cell) : (s.setCell n c).windows = s.windows := rfl
@[simp] theorem State.setCell_buses (s : State) (n : Line) (c : Cell) : (s.setCell n c).buses = s.buses := rfl
@[simp] theorem State.setCell_lastServed (s : State) (n : Line) (c : Cell) : (s.setCell n c).lastServed = s.lastServed := rfl
@[simp] theorem State.setCell_pending (s : State) (n : Line) (c : Cell) : (s.setCell n c).pending = s.pending := rfl
@[simp] theorem State.setCell_lease (s : State) (n : Line) (c : Cell) (j : Slot) : (s.setCell n c).lease j = s.lease j := rfl
@[simp] theorem State.setCell_handle (s : State) (n : Line) (c : Cell) (j : Slot) : (s.setCell n c).handle j = s.handle j := rfl
@[simp] theorem State.setCell_charter (s : State) (n : Line) (c : Cell) (q : Port) : (s.setCell n c).charter q = s.charter q := rfl
@[simp] theorem State.setCell_profile (s : State) (n : Line) (c : Cell) (j : Line) : (s.setCell n c).profile j = s.profile j := rfl
@[simp] theorem State.setCell_portRec (s : State) (n : Line) (c : Cell) (q : Port) : (s.setCell n c).portRec q = s.portRec q := rfl
@[simp] theorem State.setCell_map (s : State) (n : Line) (c : Cell) (q : Port) : (s.setCell n c).map q = s.map q := rfl
@[simp] theorem State.setCell_window (s : State) (n : Line) (c : Cell) (q : Port) : (s.setCell n c).window q = s.window q := rfl
@[simp] theorem State.setCell_bus (s : State) (n : Line) (c : Cell) (q : Port) : (s.setCell n c).bus q = s.bus q := rfl
@[simp] theorem State.setCell_isQuiet (s : State) (n : Line) (c : Cell) (q : Port) : (s.setCell n c).isQuiet q = s.isQuiet q := rfl
@[simp] theorem State.setCell_args (s : State) (n : Line) (c : Cell) (q : Port) : (s.setCell n c).args q = s.args q := rfl

/-! `State.setPortRec` -/

@[simp] theorem State.setPortRec_rstnAsserted (s : State) (p : Port) (r : PortRec) : (s.setPortRec p r).rstnAsserted = s.rstnAsserted := rfl
@[simp] theorem State.setPortRec_slots (s : State) (p : Port) (r : PortRec) : (s.setPortRec p r).slots = s.slots := rfl
@[simp] theorem State.setPortRec_heldBy (s : State) (p : Port) (r : PortRec) : (s.setPortRec p r).heldBy = s.heldBy := rfl
@[simp] theorem State.setPortRec_patTaken (s : State) (p : Port) (r : PortRec) : (s.setPortRec p r).patTaken = s.patTaken := rfl
@[simp] theorem State.setPortRec_guardTaken (s : State) (p : Port) (r : PortRec) : (s.setPortRec p r).guardTaken = s.guardTaken := rfl
@[simp] theorem State.setPortRec_queue (s : State) (p : Port) (r : PortRec) : (s.setPortRec p r).queue = s.queue := rfl
@[simp] theorem State.setPortRec_arrivals (s : State) (p : Port) (r : PortRec) : (s.setPortRec p r).arrivals = s.arrivals := rfl
@[simp] theorem State.setPortRec_charters (s : State) (p : Port) (r : PortRec) : (s.setPortRec p r).charters = s.charters := rfl
@[simp] theorem State.setPortRec_profiles (s : State) (p : Port) (r : PortRec) : (s.setPortRec p r).profiles = s.profiles := rfl
@[simp] theorem State.setPortRec_cells (s : State) (p : Port) (r : PortRec) : (s.setPortRec p r).cells = s.cells := rfl
@[simp] theorem State.setPortRec_settling (s : State) (p : Port) (r : PortRec) : (s.setPortRec p r).settling = s.settling := rfl
@[simp] theorem State.setPortRec_patChans (s : State) (p : Port) (r : PortRec) : (s.setPortRec p r).patChans = s.patChans := rfl
@[simp] theorem State.setPortRec_patInbox (s : State) (p : Port) (r : PortRec) : (s.setPortRec p r).patInbox = s.patInbox := rfl
@[simp] theorem State.setPortRec_guardChans (s : State) (p : Port) (r : PortRec) : (s.setPortRec p r).guardChans = s.guardChans := rfl
@[simp] theorem State.setPortRec_guardInbox (s : State) (p : Port) (r : PortRec) : (s.setPortRec p r).guardInbox = s.guardInbox := rfl
@[simp] theorem State.setPortRec_reports (s : State) (p : Port) (r : PortRec) : (s.setPortRec p r).reports = s.reports := rfl
@[simp] theorem State.setPortRec_maps (s : State) (p : Port) (r : PortRec) : (s.setPortRec p r).maps = s.maps := rfl
@[simp] theorem State.setPortRec_windows (s : State) (p : Port) (r : PortRec) : (s.setPortRec p r).windows = s.windows := rfl
@[simp] theorem State.setPortRec_buses (s : State) (p : Port) (r : PortRec) : (s.setPortRec p r).buses = s.buses := rfl
@[simp] theorem State.setPortRec_lastServed (s : State) (p : Port) (r : PortRec) : (s.setPortRec p r).lastServed = s.lastServed := rfl
@[simp] theorem State.setPortRec_pending (s : State) (p : Port) (r : PortRec) : (s.setPortRec p r).pending = s.pending := rfl
@[simp] theorem State.setPortRec_lease (s : State) (p : Port) (r : PortRec) (j : Slot) : (s.setPortRec p r).lease j = s.lease j := rfl
@[simp] theorem State.setPortRec_handle (s : State) (p : Port) (r : PortRec) (j : Slot) : (s.setPortRec p r).handle j = s.handle j := rfl
@[simp] theorem State.setPortRec_charter (s : State) (p : Port) (r : PortRec) (q : Port) : (s.setPortRec p r).charter q = s.charter q := rfl
@[simp] theorem State.setPortRec_profile (s : State) (p : Port) (r : PortRec) (j : Line) : (s.setPortRec p r).profile j = s.profile j := rfl
@[simp] theorem State.setPortRec_cell (s : State) (p : Port) (r : PortRec) (j : Line) : (s.setPortRec p r).cell j = s.cell j := rfl
@[simp] theorem State.setPortRec_map (s : State) (p : Port) (r : PortRec) (q : Port) : (s.setPortRec p r).map q = s.map q := rfl
@[simp] theorem State.setPortRec_window (s : State) (p : Port) (r : PortRec) (q : Port) : (s.setPortRec p r).window q = s.window q := rfl
@[simp] theorem State.setPortRec_bus (s : State) (p : Port) (r : PortRec) (q : Port) : (s.setPortRec p r).bus q = s.bus q := rfl
@[simp] theorem State.setPortRec_args (s : State) (p : Port) (r : PortRec) (q : Port) : (s.setPortRec p r).args q = s.args q := rfl

/-! `State.setMap` -/

@[simp] theorem State.setMap_rstnAsserted (s : State) (p : Port) (m : NoticeMap) : (s.setMap p m).rstnAsserted = s.rstnAsserted := rfl
@[simp] theorem State.setMap_slots (s : State) (p : Port) (m : NoticeMap) : (s.setMap p m).slots = s.slots := rfl
@[simp] theorem State.setMap_heldBy (s : State) (p : Port) (m : NoticeMap) : (s.setMap p m).heldBy = s.heldBy := rfl
@[simp] theorem State.setMap_patTaken (s : State) (p : Port) (m : NoticeMap) : (s.setMap p m).patTaken = s.patTaken := rfl
@[simp] theorem State.setMap_guardTaken (s : State) (p : Port) (m : NoticeMap) : (s.setMap p m).guardTaken = s.guardTaken := rfl
@[simp] theorem State.setMap_portRecs (s : State) (p : Port) (m : NoticeMap) : (s.setMap p m).portRecs = s.portRecs := rfl
@[simp] theorem State.setMap_queue (s : State) (p : Port) (m : NoticeMap) : (s.setMap p m).queue = s.queue := rfl
@[simp] theorem State.setMap_arrivals (s : State) (p : Port) (m : NoticeMap) : (s.setMap p m).arrivals = s.arrivals := rfl
@[simp] theorem State.setMap_charters (s : State) (p : Port) (m : NoticeMap) : (s.setMap p m).charters = s.charters := rfl
@[simp] theorem State.setMap_profiles (s : State) (p : Port) (m : NoticeMap) : (s.setMap p m).profiles = s.profiles := rfl
@[simp] theorem State.setMap_cells (s : State) (p : Port) (m : NoticeMap) : (s.setMap p m).cells = s.cells := rfl
@[simp] theorem State.setMap_settling (s : State) (p : Port) (m : NoticeMap) : (s.setMap p m).settling = s.settling := rfl
@[simp] theorem State.setMap_patChans (s : State) (p : Port) (m : NoticeMap) : (s.setMap p m).patChans = s.patChans := rfl
@[simp] theorem State.setMap_patInbox (s : State) (p : Port) (m : NoticeMap) : (s.setMap p m).patInbox = s.patInbox := rfl
@[simp] theorem State.setMap_guardChans (s : State) (p : Port) (m : NoticeMap) : (s.setMap p m).guardChans = s.guardChans := rfl
@[simp] theorem State.setMap_guardInbox (s : State) (p : Port) (m : NoticeMap) : (s.setMap p m).guardInbox = s.guardInbox := rfl
@[simp] theorem State.setMap_reports (s : State) (p : Port) (m : NoticeMap) : (s.setMap p m).reports = s.reports := rfl
@[simp] theorem State.setMap_windows (s : State) (p : Port) (m : NoticeMap) : (s.setMap p m).windows = s.windows := rfl
@[simp] theorem State.setMap_buses (s : State) (p : Port) (m : NoticeMap) : (s.setMap p m).buses = s.buses := rfl
@[simp] theorem State.setMap_lastServed (s : State) (p : Port) (m : NoticeMap) : (s.setMap p m).lastServed = s.lastServed := rfl
@[simp] theorem State.setMap_pending (s : State) (p : Port) (m : NoticeMap) : (s.setMap p m).pending = s.pending := rfl
@[simp] theorem State.setMap_lease (s : State) (p : Port) (m : NoticeMap) (j : Slot) : (s.setMap p m).lease j = s.lease j := rfl
@[simp] theorem State.setMap_handle (s : State) (p : Port) (m : NoticeMap) (j : Slot) : (s.setMap p m).handle j = s.handle j := rfl
@[simp] theorem State.setMap_charter (s : State) (p : Port) (m : NoticeMap) (q : Port) : (s.setMap p m).charter q = s.charter q := rfl
@[simp] theorem State.setMap_profile (s : State) (p : Port) (m : NoticeMap) (j : Line) : (s.setMap p m).profile j = s.profile j := rfl
@[simp] theorem State.setMap_cell (s : State) (p : Port) (m : NoticeMap) (j : Line) : (s.setMap p m).cell j = s.cell j := rfl
@[simp] theorem State.setMap_portRec (s : State) (p : Port) (m : NoticeMap) (q : Port) : (s.setMap p m).portRec q = s.portRec q := rfl
@[simp] theorem State.setMap_window (s : State) (p : Port) (m : NoticeMap) (q : Port) : (s.setMap p m).window q = s.window q := rfl
@[simp] theorem State.setMap_bus (s : State) (p : Port) (m : NoticeMap) (q : Port) : (s.setMap p m).bus q = s.bus q := rfl
@[simp] theorem State.setMap_isQuiet (s : State) (p : Port) (m : NoticeMap) (q : Port) : (s.setMap p m).isQuiet q = s.isQuiet q := rfl
@[simp] theorem State.setMap_args (s : State) (p : Port) (m : NoticeMap) (q : Port) : (s.setMap p m).args q = s.args q := rfl

/-! `State.setWindow` -/

@[simp] theorem State.setWindow_rstnAsserted (s : State) (p : Port) (w : Window) : (s.setWindow p w).rstnAsserted = s.rstnAsserted := rfl
@[simp] theorem State.setWindow_slots (s : State) (p : Port) (w : Window) : (s.setWindow p w).slots = s.slots := rfl
@[simp] theorem State.setWindow_heldBy (s : State) (p : Port) (w : Window) : (s.setWindow p w).heldBy = s.heldBy := rfl
@[simp] theorem State.setWindow_patTaken (s : State) (p : Port) (w : Window) : (s.setWindow p w).patTaken = s.patTaken := rfl
@[simp] theorem State.setWindow_guardTaken (s : State) (p : Port) (w : Window) : (s.setWindow p w).guardTaken = s.guardTaken := rfl
@[simp] theorem State.setWindow_portRecs (s : State) (p : Port) (w : Window) : (s.setWindow p w).portRecs = s.portRecs := rfl
@[simp] theorem State.setWindow_queue (s : State) (p : Port) (w : Window) : (s.setWindow p w).queue = s.queue := rfl
@[simp] theorem State.setWindow_arrivals (s : State) (p : Port) (w : Window) : (s.setWindow p w).arrivals = s.arrivals := rfl
@[simp] theorem State.setWindow_charters (s : State) (p : Port) (w : Window) : (s.setWindow p w).charters = s.charters := rfl
@[simp] theorem State.setWindow_profiles (s : State) (p : Port) (w : Window) : (s.setWindow p w).profiles = s.profiles := rfl
@[simp] theorem State.setWindow_cells (s : State) (p : Port) (w : Window) : (s.setWindow p w).cells = s.cells := rfl
@[simp] theorem State.setWindow_settling (s : State) (p : Port) (w : Window) : (s.setWindow p w).settling = s.settling := rfl
@[simp] theorem State.setWindow_patChans (s : State) (p : Port) (w : Window) : (s.setWindow p w).patChans = s.patChans := rfl
@[simp] theorem State.setWindow_patInbox (s : State) (p : Port) (w : Window) : (s.setWindow p w).patInbox = s.patInbox := rfl
@[simp] theorem State.setWindow_guardChans (s : State) (p : Port) (w : Window) : (s.setWindow p w).guardChans = s.guardChans := rfl
@[simp] theorem State.setWindow_guardInbox (s : State) (p : Port) (w : Window) : (s.setWindow p w).guardInbox = s.guardInbox := rfl
@[simp] theorem State.setWindow_reports (s : State) (p : Port) (w : Window) : (s.setWindow p w).reports = s.reports := rfl
@[simp] theorem State.setWindow_maps (s : State) (p : Port) (w : Window) : (s.setWindow p w).maps = s.maps := rfl
@[simp] theorem State.setWindow_buses (s : State) (p : Port) (w : Window) : (s.setWindow p w).buses = s.buses := rfl
@[simp] theorem State.setWindow_lastServed (s : State) (p : Port) (w : Window) : (s.setWindow p w).lastServed = s.lastServed := rfl
@[simp] theorem State.setWindow_pending (s : State) (p : Port) (w : Window) : (s.setWindow p w).pending = s.pending := rfl
@[simp] theorem State.setWindow_lease (s : State) (p : Port) (w : Window) (j : Slot) : (s.setWindow p w).lease j = s.lease j := rfl
@[simp] theorem State.setWindow_handle (s : State) (p : Port) (w : Window) (j : Slot) : (s.setWindow p w).handle j = s.handle j := rfl
@[simp] theorem State.setWindow_charter (s : State) (p : Port) (w : Window) (q : Port) : (s.setWindow p w).charter q = s.charter q := rfl
@[simp] theorem State.setWindow_profile (s : State) (p : Port) (w : Window) (j : Line) : (s.setWindow p w).profile j = s.profile j := rfl
@[simp] theorem State.setWindow_cell (s : State) (p : Port) (w : Window) (j : Line) : (s.setWindow p w).cell j = s.cell j := rfl
@[simp] theorem State.setWindow_portRec (s : State) (p : Port) (w : Window) (q : Port) : (s.setWindow p w).portRec q = s.portRec q := rfl
@[simp] theorem State.setWindow_map (s : State) (p : Port) (w : Window) (q : Port) : (s.setWindow p w).map q = s.map q := rfl
@[simp] theorem State.setWindow_bus (s : State) (p : Port) (w : Window) (q : Port) : (s.setWindow p w).bus q = s.bus q := rfl
@[simp] theorem State.setWindow_isQuiet (s : State) (p : Port) (w : Window) (q : Port) : (s.setWindow p w).isQuiet q = s.isQuiet q := rfl

/-! `State.setBus` -/

@[simp] theorem State.setBus_rstnAsserted (s : State) (p : Port) (b : Bus) : (s.setBus p b).rstnAsserted = s.rstnAsserted := rfl
@[simp] theorem State.setBus_slots (s : State) (p : Port) (b : Bus) : (s.setBus p b).slots = s.slots := rfl
@[simp] theorem State.setBus_heldBy (s : State) (p : Port) (b : Bus) : (s.setBus p b).heldBy = s.heldBy := rfl
@[simp] theorem State.setBus_patTaken (s : State) (p : Port) (b : Bus) : (s.setBus p b).patTaken = s.patTaken := rfl
@[simp] theorem State.setBus_guardTaken (s : State) (p : Port) (b : Bus) : (s.setBus p b).guardTaken = s.guardTaken := rfl
@[simp] theorem State.setBus_portRecs (s : State) (p : Port) (b : Bus) : (s.setBus p b).portRecs = s.portRecs := rfl
@[simp] theorem State.setBus_queue (s : State) (p : Port) (b : Bus) : (s.setBus p b).queue = s.queue := rfl
@[simp] theorem State.setBus_arrivals (s : State) (p : Port) (b : Bus) : (s.setBus p b).arrivals = s.arrivals := rfl
@[simp] theorem State.setBus_charters (s : State) (p : Port) (b : Bus) : (s.setBus p b).charters = s.charters := rfl
@[simp] theorem State.setBus_profiles (s : State) (p : Port) (b : Bus) : (s.setBus p b).profiles = s.profiles := rfl
@[simp] theorem State.setBus_cells (s : State) (p : Port) (b : Bus) : (s.setBus p b).cells = s.cells := rfl
@[simp] theorem State.setBus_settling (s : State) (p : Port) (b : Bus) : (s.setBus p b).settling = s.settling := rfl
@[simp] theorem State.setBus_patChans (s : State) (p : Port) (b : Bus) : (s.setBus p b).patChans = s.patChans := rfl
@[simp] theorem State.setBus_patInbox (s : State) (p : Port) (b : Bus) : (s.setBus p b).patInbox = s.patInbox := rfl
@[simp] theorem State.setBus_guardChans (s : State) (p : Port) (b : Bus) : (s.setBus p b).guardChans = s.guardChans := rfl
@[simp] theorem State.setBus_guardInbox (s : State) (p : Port) (b : Bus) : (s.setBus p b).guardInbox = s.guardInbox := rfl
@[simp] theorem State.setBus_reports (s : State) (p : Port) (b : Bus) : (s.setBus p b).reports = s.reports := rfl
@[simp] theorem State.setBus_maps (s : State) (p : Port) (b : Bus) : (s.setBus p b).maps = s.maps := rfl
@[simp] theorem State.setBus_windows (s : State) (p : Port) (b : Bus) : (s.setBus p b).windows = s.windows := rfl
@[simp] theorem State.setBus_lastServed (s : State) (p : Port) (b : Bus) : (s.setBus p b).lastServed = s.lastServed := rfl
@[simp] theorem State.setBus_pending (s : State) (p : Port) (b : Bus) : (s.setBus p b).pending = s.pending := rfl
@[simp] theorem State.setBus_lease (s : State) (p : Port) (b : Bus) (j : Slot) : (s.setBus p b).lease j = s.lease j := rfl
@[simp] theorem State.setBus_handle (s : State) (p : Port) (b : Bus) (j : Slot) : (s.setBus p b).handle j = s.handle j := rfl
@[simp] theorem State.setBus_charter (s : State) (p : Port) (b : Bus) (q : Port) : (s.setBus p b).charter q = s.charter q := rfl
@[simp] theorem State.setBus_profile (s : State) (p : Port) (b : Bus) (j : Line) : (s.setBus p b).profile j = s.profile j := rfl
@[simp] theorem State.setBus_cell (s : State) (p : Port) (b : Bus) (j : Line) : (s.setBus p b).cell j = s.cell j := rfl
@[simp] theorem State.setBus_portRec (s : State) (p : Port) (b : Bus) (q : Port) : (s.setBus p b).portRec q = s.portRec q := rfl
@[simp] theorem State.setBus_map (s : State) (p : Port) (b : Bus) (q : Port) : (s.setBus p b).map q = s.map q := rfl
@[simp] theorem State.setBus_window (s : State) (p : Port) (b : Bus) (q : Port) : (s.setBus p b).window q = s.window q := rfl
@[simp] theorem State.setBus_isQuiet (s : State) (p : Port) (b : Bus) (q : Port) : (s.setBus p b).isQuiet q = s.isQuiet q := rfl
@[simp] theorem State.setBus_args (s : State) (p : Port) (b : Bus) (q : Port) : (s.setBus p b).args q = s.args q := rfl

/-! `State.setProfile` -/

@[simp] theorem State.setProfile_rstnAsserted (s : State) (n : Line) (f : Profile) : (s.setProfile n f).rstnAsserted = s.rstnAsserted := rfl
@[simp] theorem State.setProfile_slots (s : State) (n : Line) (f : Profile) : (s.setProfile n f).slots = s.slots := rfl
@[simp] theorem State.setProfile_heldBy (s : State) (n : Line) (f : Profile) : (s.setProfile n f).heldBy = s.heldBy := rfl
@[simp] theorem State.setProfile_patTaken (s : State) (n : Line) (f : Profile) : (s.setProfile n f).patTaken = s.patTaken := rfl
@[simp] theorem State.setProfile_guardTaken (s : State) (n : Line) (f : Profile) : (s.setProfile n f).guardTaken = s.guardTaken := rfl
@[simp] theorem State.setProfile_portRecs (s : State) (n : Line) (f : Profile) : (s.setProfile n f).portRecs = s.portRecs := rfl
@[simp] theorem State.setProfile_queue (s : State) (n : Line) (f : Profile) : (s.setProfile n f).queue = s.queue := rfl
@[simp] theorem State.setProfile_arrivals (s : State) (n : Line) (f : Profile) : (s.setProfile n f).arrivals = s.arrivals := rfl
@[simp] theorem State.setProfile_charters (s : State) (n : Line) (f : Profile) : (s.setProfile n f).charters = s.charters := rfl
@[simp] theorem State.setProfile_cells (s : State) (n : Line) (f : Profile) : (s.setProfile n f).cells = s.cells := rfl
@[simp] theorem State.setProfile_settling (s : State) (n : Line) (f : Profile) : (s.setProfile n f).settling = s.settling := rfl
@[simp] theorem State.setProfile_patChans (s : State) (n : Line) (f : Profile) : (s.setProfile n f).patChans = s.patChans := rfl
@[simp] theorem State.setProfile_patInbox (s : State) (n : Line) (f : Profile) : (s.setProfile n f).patInbox = s.patInbox := rfl
@[simp] theorem State.setProfile_guardChans (s : State) (n : Line) (f : Profile) : (s.setProfile n f).guardChans = s.guardChans := rfl
@[simp] theorem State.setProfile_guardInbox (s : State) (n : Line) (f : Profile) : (s.setProfile n f).guardInbox = s.guardInbox := rfl
@[simp] theorem State.setProfile_reports (s : State) (n : Line) (f : Profile) : (s.setProfile n f).reports = s.reports := rfl
@[simp] theorem State.setProfile_maps (s : State) (n : Line) (f : Profile) : (s.setProfile n f).maps = s.maps := rfl
@[simp] theorem State.setProfile_windows (s : State) (n : Line) (f : Profile) : (s.setProfile n f).windows = s.windows := rfl
@[simp] theorem State.setProfile_buses (s : State) (n : Line) (f : Profile) : (s.setProfile n f).buses = s.buses := rfl
@[simp] theorem State.setProfile_lastServed (s : State) (n : Line) (f : Profile) : (s.setProfile n f).lastServed = s.lastServed := rfl
@[simp] theorem State.setProfile_pending (s : State) (n : Line) (f : Profile) : (s.setProfile n f).pending = s.pending := rfl
@[simp] theorem State.setProfile_lease (s : State) (n : Line) (f : Profile) (j : Slot) : (s.setProfile n f).lease j = s.lease j := rfl
@[simp] theorem State.setProfile_handle (s : State) (n : Line) (f : Profile) (j : Slot) : (s.setProfile n f).handle j = s.handle j := rfl
@[simp] theorem State.setProfile_charter (s : State) (n : Line) (f : Profile) (q : Port) : (s.setProfile n f).charter q = s.charter q := rfl
@[simp] theorem State.setProfile_cell (s : State) (n : Line) (f : Profile) (j : Line) : (s.setProfile n f).cell j = s.cell j := rfl
@[simp] theorem State.setProfile_portRec (s : State) (n : Line) (f : Profile) (q : Port) : (s.setProfile n f).portRec q = s.portRec q := rfl
@[simp] theorem State.setProfile_map (s : State) (n : Line) (f : Profile) (q : Port) : (s.setProfile n f).map q = s.map q := rfl
@[simp] theorem State.setProfile_window (s : State) (n : Line) (f : Profile) (q : Port) : (s.setProfile n f).window q = s.window q := rfl
@[simp] theorem State.setProfile_bus (s : State) (n : Line) (f : Profile) (q : Port) : (s.setProfile n f).bus q = s.bus q := rfl
@[simp] theorem State.setProfile_isQuiet (s : State) (n : Line) (f : Profile) (q : Port) : (s.setProfile n f).isQuiet q = s.isQuiet q := rfl
@[simp] theorem State.setProfile_args (s : State) (n : Line) (f : Profile) (q : Port) : (s.setProfile n f).args q = s.args q := rfl

/-! `State.setPatChan` -/

@[simp] theorem State.setPatChan_rstnAsserted (s : State) (c : PatChan) (x : Option PatternChannel) : (s.setPatChan c x).rstnAsserted = s.rstnAsserted := rfl
@[simp] theorem State.setPatChan_slots (s : State) (c : PatChan) (x : Option PatternChannel) : (s.setPatChan c x).slots = s.slots := rfl
@[simp] theorem State.setPatChan_heldBy (s : State) (c : PatChan) (x : Option PatternChannel) : (s.setPatChan c x).heldBy = s.heldBy := rfl
@[simp] theorem State.setPatChan_patTaken (s : State) (c : PatChan) (x : Option PatternChannel) : (s.setPatChan c x).patTaken = s.patTaken := rfl
@[simp] theorem State.setPatChan_guardTaken (s : State) (c : PatChan) (x : Option PatternChannel) : (s.setPatChan c x).guardTaken = s.guardTaken := rfl
@[simp] theorem State.setPatChan_portRecs (s : State) (c : PatChan) (x : Option PatternChannel) : (s.setPatChan c x).portRecs = s.portRecs := rfl
@[simp] theorem State.setPatChan_queue (s : State) (c : PatChan) (x : Option PatternChannel) : (s.setPatChan c x).queue = s.queue := rfl
@[simp] theorem State.setPatChan_arrivals (s : State) (c : PatChan) (x : Option PatternChannel) : (s.setPatChan c x).arrivals = s.arrivals := rfl
@[simp] theorem State.setPatChan_charters (s : State) (c : PatChan) (x : Option PatternChannel) : (s.setPatChan c x).charters = s.charters := rfl
@[simp] theorem State.setPatChan_profiles (s : State) (c : PatChan) (x : Option PatternChannel) : (s.setPatChan c x).profiles = s.profiles := rfl
@[simp] theorem State.setPatChan_cells (s : State) (c : PatChan) (x : Option PatternChannel) : (s.setPatChan c x).cells = s.cells := rfl
@[simp] theorem State.setPatChan_settling (s : State) (c : PatChan) (x : Option PatternChannel) : (s.setPatChan c x).settling = s.settling := rfl
@[simp] theorem State.setPatChan_patInbox (s : State) (c : PatChan) (x : Option PatternChannel) : (s.setPatChan c x).patInbox = s.patInbox := rfl
@[simp] theorem State.setPatChan_guardChans (s : State) (c : PatChan) (x : Option PatternChannel) : (s.setPatChan c x).guardChans = s.guardChans := rfl
@[simp] theorem State.setPatChan_guardInbox (s : State) (c : PatChan) (x : Option PatternChannel) : (s.setPatChan c x).guardInbox = s.guardInbox := rfl
@[simp] theorem State.setPatChan_reports (s : State) (c : PatChan) (x : Option PatternChannel) : (s.setPatChan c x).reports = s.reports := rfl
@[simp] theorem State.setPatChan_maps (s : State) (c : PatChan) (x : Option PatternChannel) : (s.setPatChan c x).maps = s.maps := rfl
@[simp] theorem State.setPatChan_windows (s : State) (c : PatChan) (x : Option PatternChannel) : (s.setPatChan c x).windows = s.windows := rfl
@[simp] theorem State.setPatChan_buses (s : State) (c : PatChan) (x : Option PatternChannel) : (s.setPatChan c x).buses = s.buses := rfl
@[simp] theorem State.setPatChan_lastServed (s : State) (c : PatChan) (x : Option PatternChannel) : (s.setPatChan c x).lastServed = s.lastServed := rfl
@[simp] theorem State.setPatChan_pending (s : State) (c : PatChan) (x : Option PatternChannel) : (s.setPatChan c x).pending = s.pending := rfl
@[simp] theorem State.setPatChan_lease (s : State) (c : PatChan) (x : Option PatternChannel) (j : Slot) : (s.setPatChan c x).lease j = s.lease j := rfl
@[simp] theorem State.setPatChan_handle (s : State) (c : PatChan) (x : Option PatternChannel) (j : Slot) : (s.setPatChan c x).handle j = s.handle j := rfl
@[simp] theorem State.setPatChan_charter (s : State) (c : PatChan) (x : Option PatternChannel) (q : Port) : (s.setPatChan c x).charter q = s.charter q := rfl
@[simp] theorem State.setPatChan_profile (s : State) (c : PatChan) (x : Option PatternChannel) (j : Line) : (s.setPatChan c x).profile j = s.profile j := rfl
@[simp] theorem State.setPatChan_cell (s : State) (c : PatChan) (x : Option PatternChannel) (j : Line) : (s.setPatChan c x).cell j = s.cell j := rfl
@[simp] theorem State.setPatChan_portRec (s : State) (c : PatChan) (x : Option PatternChannel) (q : Port) : (s.setPatChan c x).portRec q = s.portRec q := rfl
@[simp] theorem State.setPatChan_map (s : State) (c : PatChan) (x : Option PatternChannel) (q : Port) : (s.setPatChan c x).map q = s.map q := rfl
@[simp] theorem State.setPatChan_window (s : State) (c : PatChan) (x : Option PatternChannel) (q : Port) : (s.setPatChan c x).window q = s.window q := rfl
@[simp] theorem State.setPatChan_bus (s : State) (c : PatChan) (x : Option PatternChannel) (q : Port) : (s.setPatChan c x).bus q = s.bus q := rfl
@[simp] theorem State.setPatChan_isQuiet (s : State) (c : PatChan) (x : Option PatternChannel) (q : Port) : (s.setPatChan c x).isQuiet q = s.isQuiet q := rfl
@[simp] theorem State.setPatChan_args (s : State) (c : PatChan) (x : Option PatternChannel) (q : Port) : (s.setPatChan c x).args q = s.args q := rfl

/-! `State.setGuardChan` -/

@[simp] theorem State.setGuardChan_rstnAsserted (s : State) (g : GuardChan) (x : Option GuardChannel) : (s.setGuardChan g x).rstnAsserted = s.rstnAsserted := rfl
@[simp] theorem State.setGuardChan_slots (s : State) (g : GuardChan) (x : Option GuardChannel) : (s.setGuardChan g x).slots = s.slots := rfl
@[simp] theorem State.setGuardChan_heldBy (s : State) (g : GuardChan) (x : Option GuardChannel) : (s.setGuardChan g x).heldBy = s.heldBy := rfl
@[simp] theorem State.setGuardChan_patTaken (s : State) (g : GuardChan) (x : Option GuardChannel) : (s.setGuardChan g x).patTaken = s.patTaken := rfl
@[simp] theorem State.setGuardChan_guardTaken (s : State) (g : GuardChan) (x : Option GuardChannel) : (s.setGuardChan g x).guardTaken = s.guardTaken := rfl
@[simp] theorem State.setGuardChan_portRecs (s : State) (g : GuardChan) (x : Option GuardChannel) : (s.setGuardChan g x).portRecs = s.portRecs := rfl
@[simp] theorem State.setGuardChan_queue (s : State) (g : GuardChan) (x : Option GuardChannel) : (s.setGuardChan g x).queue = s.queue := rfl
@[simp] theorem State.setGuardChan_arrivals (s : State) (g : GuardChan) (x : Option GuardChannel) : (s.setGuardChan g x).arrivals = s.arrivals := rfl
@[simp] theorem State.setGuardChan_charters (s : State) (g : GuardChan) (x : Option GuardChannel) : (s.setGuardChan g x).charters = s.charters := rfl
@[simp] theorem State.setGuardChan_profiles (s : State) (g : GuardChan) (x : Option GuardChannel) : (s.setGuardChan g x).profiles = s.profiles := rfl
@[simp] theorem State.setGuardChan_cells (s : State) (g : GuardChan) (x : Option GuardChannel) : (s.setGuardChan g x).cells = s.cells := rfl
@[simp] theorem State.setGuardChan_settling (s : State) (g : GuardChan) (x : Option GuardChannel) : (s.setGuardChan g x).settling = s.settling := rfl
@[simp] theorem State.setGuardChan_patChans (s : State) (g : GuardChan) (x : Option GuardChannel) : (s.setGuardChan g x).patChans = s.patChans := rfl
@[simp] theorem State.setGuardChan_patInbox (s : State) (g : GuardChan) (x : Option GuardChannel) : (s.setGuardChan g x).patInbox = s.patInbox := rfl
@[simp] theorem State.setGuardChan_guardInbox (s : State) (g : GuardChan) (x : Option GuardChannel) : (s.setGuardChan g x).guardInbox = s.guardInbox := rfl
@[simp] theorem State.setGuardChan_reports (s : State) (g : GuardChan) (x : Option GuardChannel) : (s.setGuardChan g x).reports = s.reports := rfl
@[simp] theorem State.setGuardChan_maps (s : State) (g : GuardChan) (x : Option GuardChannel) : (s.setGuardChan g x).maps = s.maps := rfl
@[simp] theorem State.setGuardChan_windows (s : State) (g : GuardChan) (x : Option GuardChannel) : (s.setGuardChan g x).windows = s.windows := rfl
@[simp] theorem State.setGuardChan_buses (s : State) (g : GuardChan) (x : Option GuardChannel) : (s.setGuardChan g x).buses = s.buses := rfl
@[simp] theorem State.setGuardChan_lastServed (s : State) (g : GuardChan) (x : Option GuardChannel) : (s.setGuardChan g x).lastServed = s.lastServed := rfl
@[simp] theorem State.setGuardChan_pending (s : State) (g : GuardChan) (x : Option GuardChannel) : (s.setGuardChan g x).pending = s.pending := rfl
@[simp] theorem State.setGuardChan_lease (s : State) (g : GuardChan) (x : Option GuardChannel) (j : Slot) : (s.setGuardChan g x).lease j = s.lease j := rfl
@[simp] theorem State.setGuardChan_handle (s : State) (g : GuardChan) (x : Option GuardChannel) (j : Slot) : (s.setGuardChan g x).handle j = s.handle j := rfl
@[simp] theorem State.setGuardChan_charter (s : State) (g : GuardChan) (x : Option GuardChannel) (q : Port) : (s.setGuardChan g x).charter q = s.charter q := rfl
@[simp] theorem State.setGuardChan_profile (s : State) (g : GuardChan) (x : Option GuardChannel) (j : Line) : (s.setGuardChan g x).profile j = s.profile j := rfl
@[simp] theorem State.setGuardChan_cell (s : State) (g : GuardChan) (x : Option GuardChannel) (j : Line) : (s.setGuardChan g x).cell j = s.cell j := rfl
@[simp] theorem State.setGuardChan_portRec (s : State) (g : GuardChan) (x : Option GuardChannel) (q : Port) : (s.setGuardChan g x).portRec q = s.portRec q := rfl
@[simp] theorem State.setGuardChan_map (s : State) (g : GuardChan) (x : Option GuardChannel) (q : Port) : (s.setGuardChan g x).map q = s.map q := rfl
@[simp] theorem State.setGuardChan_window (s : State) (g : GuardChan) (x : Option GuardChannel) (q : Port) : (s.setGuardChan g x).window q = s.window q := rfl
@[simp] theorem State.setGuardChan_bus (s : State) (g : GuardChan) (x : Option GuardChannel) (q : Port) : (s.setGuardChan g x).bus q = s.bus q := rfl
@[simp] theorem State.setGuardChan_isQuiet (s : State) (g : GuardChan) (x : Option GuardChannel) (q : Port) : (s.setGuardChan g x).isQuiet q = s.isQuiet q := rfl
@[simp] theorem State.setGuardChan_args (s : State) (g : GuardChan) (x : Option GuardChannel) (q : Port) : (s.setGuardChan g x).args q = s.args q := rfl

/-! `State.tellPattern` -/

@[simp] theorem State.tellPattern_rstnAsserted (s : State) (c : PatChan) (i : PatternInstr) : (s.tellPattern c i).rstnAsserted = s.rstnAsserted := rfl
@[simp] theorem State.tellPattern_slots (s : State) (c : PatChan) (i : PatternInstr) : (s.tellPattern c i).slots = s.slots := rfl
@[simp] theorem State.tellPattern_heldBy (s : State) (c : PatChan) (i : PatternInstr) : (s.tellPattern c i).heldBy = s.heldBy := rfl
@[simp] theorem State.tellPattern_patTaken (s : State) (c : PatChan) (i : PatternInstr) : (s.tellPattern c i).patTaken = s.patTaken := rfl
@[simp] theorem State.tellPattern_guardTaken (s : State) (c : PatChan) (i : PatternInstr) : (s.tellPattern c i).guardTaken = s.guardTaken := rfl
@[simp] theorem State.tellPattern_portRecs (s : State) (c : PatChan) (i : PatternInstr) : (s.tellPattern c i).portRecs = s.portRecs := rfl
@[simp] theorem State.tellPattern_queue (s : State) (c : PatChan) (i : PatternInstr) : (s.tellPattern c i).queue = s.queue := rfl
@[simp] theorem State.tellPattern_arrivals (s : State) (c : PatChan) (i : PatternInstr) : (s.tellPattern c i).arrivals = s.arrivals := rfl
@[simp] theorem State.tellPattern_charters (s : State) (c : PatChan) (i : PatternInstr) : (s.tellPattern c i).charters = s.charters := rfl
@[simp] theorem State.tellPattern_profiles (s : State) (c : PatChan) (i : PatternInstr) : (s.tellPattern c i).profiles = s.profiles := rfl
@[simp] theorem State.tellPattern_cells (s : State) (c : PatChan) (i : PatternInstr) : (s.tellPattern c i).cells = s.cells := rfl
@[simp] theorem State.tellPattern_settling (s : State) (c : PatChan) (i : PatternInstr) : (s.tellPattern c i).settling = s.settling := rfl
@[simp] theorem State.tellPattern_patChans (s : State) (c : PatChan) (i : PatternInstr) : (s.tellPattern c i).patChans = s.patChans := rfl
@[simp] theorem State.tellPattern_guardChans (s : State) (c : PatChan) (i : PatternInstr) : (s.tellPattern c i).guardChans = s.guardChans := rfl
@[simp] theorem State.tellPattern_guardInbox (s : State) (c : PatChan) (i : PatternInstr) : (s.tellPattern c i).guardInbox = s.guardInbox := rfl
@[simp] theorem State.tellPattern_reports (s : State) (c : PatChan) (i : PatternInstr) : (s.tellPattern c i).reports = s.reports := rfl
@[simp] theorem State.tellPattern_maps (s : State) (c : PatChan) (i : PatternInstr) : (s.tellPattern c i).maps = s.maps := rfl
@[simp] theorem State.tellPattern_windows (s : State) (c : PatChan) (i : PatternInstr) : (s.tellPattern c i).windows = s.windows := rfl
@[simp] theorem State.tellPattern_buses (s : State) (c : PatChan) (i : PatternInstr) : (s.tellPattern c i).buses = s.buses := rfl
@[simp] theorem State.tellPattern_lastServed (s : State) (c : PatChan) (i : PatternInstr) : (s.tellPattern c i).lastServed = s.lastServed := rfl
@[simp] theorem State.tellPattern_pending (s : State) (c : PatChan) (i : PatternInstr) : (s.tellPattern c i).pending = s.pending := rfl
@[simp] theorem State.tellPattern_lease (s : State) (c : PatChan) (i : PatternInstr) (j : Slot) : (s.tellPattern c i).lease j = s.lease j := rfl
@[simp] theorem State.tellPattern_handle (s : State) (c : PatChan) (i : PatternInstr) (j : Slot) : (s.tellPattern c i).handle j = s.handle j := rfl
@[simp] theorem State.tellPattern_charter (s : State) (c : PatChan) (i : PatternInstr) (q : Port) : (s.tellPattern c i).charter q = s.charter q := rfl
@[simp] theorem State.tellPattern_profile (s : State) (c : PatChan) (i : PatternInstr) (j : Line) : (s.tellPattern c i).profile j = s.profile j := rfl
@[simp] theorem State.tellPattern_cell (s : State) (c : PatChan) (i : PatternInstr) (j : Line) : (s.tellPattern c i).cell j = s.cell j := rfl
@[simp] theorem State.tellPattern_portRec (s : State) (c : PatChan) (i : PatternInstr) (q : Port) : (s.tellPattern c i).portRec q = s.portRec q := rfl
@[simp] theorem State.tellPattern_map (s : State) (c : PatChan) (i : PatternInstr) (q : Port) : (s.tellPattern c i).map q = s.map q := rfl
@[simp] theorem State.tellPattern_window (s : State) (c : PatChan) (i : PatternInstr) (q : Port) : (s.tellPattern c i).window q = s.window q := rfl
@[simp] theorem State.tellPattern_bus (s : State) (c : PatChan) (i : PatternInstr) (q : Port) : (s.tellPattern c i).bus q = s.bus q := rfl
@[simp] theorem State.tellPattern_isQuiet (s : State) (c : PatChan) (i : PatternInstr) (q : Port) : (s.tellPattern c i).isQuiet q = s.isQuiet q := rfl
@[simp] theorem State.tellPattern_args (s : State) (c : PatChan) (i : PatternInstr) (q : Port) : (s.tellPattern c i).args q = s.args q := rfl

/-! `State.tellGuard` -/

@[simp] theorem State.tellGuard_rstnAsserted (s : State) (g : GuardChan) (i : GuardInstr) : (s.tellGuard g i).rstnAsserted = s.rstnAsserted := rfl
@[simp] theorem State.tellGuard_slots (s : State) (g : GuardChan) (i : GuardInstr) : (s.tellGuard g i).slots = s.slots := rfl
@[simp] theorem State.tellGuard_heldBy (s : State) (g : GuardChan) (i : GuardInstr) : (s.tellGuard g i).heldBy = s.heldBy := rfl
@[simp] theorem State.tellGuard_patTaken (s : State) (g : GuardChan) (i : GuardInstr) : (s.tellGuard g i).patTaken = s.patTaken := rfl
@[simp] theorem State.tellGuard_guardTaken (s : State) (g : GuardChan) (i : GuardInstr) : (s.tellGuard g i).guardTaken = s.guardTaken := rfl
@[simp] theorem State.tellGuard_portRecs (s : State) (g : GuardChan) (i : GuardInstr) : (s.tellGuard g i).portRecs = s.portRecs := rfl
@[simp] theorem State.tellGuard_queue (s : State) (g : GuardChan) (i : GuardInstr) : (s.tellGuard g i).queue = s.queue := rfl
@[simp] theorem State.tellGuard_arrivals (s : State) (g : GuardChan) (i : GuardInstr) : (s.tellGuard g i).arrivals = s.arrivals := rfl
@[simp] theorem State.tellGuard_charters (s : State) (g : GuardChan) (i : GuardInstr) : (s.tellGuard g i).charters = s.charters := rfl
@[simp] theorem State.tellGuard_profiles (s : State) (g : GuardChan) (i : GuardInstr) : (s.tellGuard g i).profiles = s.profiles := rfl
@[simp] theorem State.tellGuard_cells (s : State) (g : GuardChan) (i : GuardInstr) : (s.tellGuard g i).cells = s.cells := rfl
@[simp] theorem State.tellGuard_settling (s : State) (g : GuardChan) (i : GuardInstr) : (s.tellGuard g i).settling = s.settling := rfl
@[simp] theorem State.tellGuard_patChans (s : State) (g : GuardChan) (i : GuardInstr) : (s.tellGuard g i).patChans = s.patChans := rfl
@[simp] theorem State.tellGuard_patInbox (s : State) (g : GuardChan) (i : GuardInstr) : (s.tellGuard g i).patInbox = s.patInbox := rfl
@[simp] theorem State.tellGuard_guardChans (s : State) (g : GuardChan) (i : GuardInstr) : (s.tellGuard g i).guardChans = s.guardChans := rfl
@[simp] theorem State.tellGuard_reports (s : State) (g : GuardChan) (i : GuardInstr) : (s.tellGuard g i).reports = s.reports := rfl
@[simp] theorem State.tellGuard_maps (s : State) (g : GuardChan) (i : GuardInstr) : (s.tellGuard g i).maps = s.maps := rfl
@[simp] theorem State.tellGuard_windows (s : State) (g : GuardChan) (i : GuardInstr) : (s.tellGuard g i).windows = s.windows := rfl
@[simp] theorem State.tellGuard_buses (s : State) (g : GuardChan) (i : GuardInstr) : (s.tellGuard g i).buses = s.buses := rfl
@[simp] theorem State.tellGuard_lastServed (s : State) (g : GuardChan) (i : GuardInstr) : (s.tellGuard g i).lastServed = s.lastServed := rfl
@[simp] theorem State.tellGuard_pending (s : State) (g : GuardChan) (i : GuardInstr) : (s.tellGuard g i).pending = s.pending := rfl
@[simp] theorem State.tellGuard_lease (s : State) (g : GuardChan) (i : GuardInstr) (j : Slot) : (s.tellGuard g i).lease j = s.lease j := rfl
@[simp] theorem State.tellGuard_handle (s : State) (g : GuardChan) (i : GuardInstr) (j : Slot) : (s.tellGuard g i).handle j = s.handle j := rfl
@[simp] theorem State.tellGuard_charter (s : State) (g : GuardChan) (i : GuardInstr) (q : Port) : (s.tellGuard g i).charter q = s.charter q := rfl
@[simp] theorem State.tellGuard_profile (s : State) (g : GuardChan) (i : GuardInstr) (j : Line) : (s.tellGuard g i).profile j = s.profile j := rfl
@[simp] theorem State.tellGuard_cell (s : State) (g : GuardChan) (i : GuardInstr) (j : Line) : (s.tellGuard g i).cell j = s.cell j := rfl
@[simp] theorem State.tellGuard_portRec (s : State) (g : GuardChan) (i : GuardInstr) (q : Port) : (s.tellGuard g i).portRec q = s.portRec q := rfl
@[simp] theorem State.tellGuard_map (s : State) (g : GuardChan) (i : GuardInstr) (q : Port) : (s.tellGuard g i).map q = s.map q := rfl
@[simp] theorem State.tellGuard_window (s : State) (g : GuardChan) (i : GuardInstr) (q : Port) : (s.tellGuard g i).window q = s.window q := rfl
@[simp] theorem State.tellGuard_bus (s : State) (g : GuardChan) (i : GuardInstr) (q : Port) : (s.tellGuard g i).bus q = s.bus q := rfl
@[simp] theorem State.tellGuard_isQuiet (s : State) (g : GuardChan) (i : GuardInstr) (q : Port) : (s.tellGuard g i).isQuiet q = s.isQuiet q := rfl
@[simp] theorem State.tellGuard_args (s : State) (g : GuardChan) (i : GuardInstr) (q : Port) : (s.tellGuard g i).args q = s.args q := rfl

/-! `State.report` -/

@[simp] theorem State.report_rstnAsserted (s : State) (r : Report) : (s.report r).rstnAsserted = s.rstnAsserted := rfl
@[simp] theorem State.report_slots (s : State) (r : Report) : (s.report r).slots = s.slots := rfl
@[simp] theorem State.report_heldBy (s : State) (r : Report) : (s.report r).heldBy = s.heldBy := rfl
@[simp] theorem State.report_patTaken (s : State) (r : Report) : (s.report r).patTaken = s.patTaken := rfl
@[simp] theorem State.report_guardTaken (s : State) (r : Report) : (s.report r).guardTaken = s.guardTaken := rfl
@[simp] theorem State.report_portRecs (s : State) (r : Report) : (s.report r).portRecs = s.portRecs := rfl
@[simp] theorem State.report_queue (s : State) (r : Report) : (s.report r).queue = s.queue := rfl
@[simp] theorem State.report_arrivals (s : State) (r : Report) : (s.report r).arrivals = s.arrivals := rfl
@[simp] theorem State.report_charters (s : State) (r : Report) : (s.report r).charters = s.charters := rfl
@[simp] theorem State.report_profiles (s : State) (r : Report) : (s.report r).profiles = s.profiles := rfl
@[simp] theorem State.report_cells (s : State) (r : Report) : (s.report r).cells = s.cells := rfl
@[simp] theorem State.report_settling (s : State) (r : Report) : (s.report r).settling = s.settling := rfl
@[simp] theorem State.report_patChans (s : State) (r : Report) : (s.report r).patChans = s.patChans := rfl
@[simp] theorem State.report_patInbox (s : State) (r : Report) : (s.report r).patInbox = s.patInbox := rfl
@[simp] theorem State.report_guardChans (s : State) (r : Report) : (s.report r).guardChans = s.guardChans := rfl
@[simp] theorem State.report_guardInbox (s : State) (r : Report) : (s.report r).guardInbox = s.guardInbox := rfl
@[simp] theorem State.report_maps (s : State) (r : Report) : (s.report r).maps = s.maps := rfl
@[simp] theorem State.report_windows (s : State) (r : Report) : (s.report r).windows = s.windows := rfl
@[simp] theorem State.report_buses (s : State) (r : Report) : (s.report r).buses = s.buses := rfl
@[simp] theorem State.report_lastServed (s : State) (r : Report) : (s.report r).lastServed = s.lastServed := rfl
@[simp] theorem State.report_pending (s : State) (r : Report) : (s.report r).pending = s.pending := rfl
@[simp] theorem State.report_lease (s : State) (r : Report) (j : Slot) : (s.report r).lease j = s.lease j := rfl
@[simp] theorem State.report_handle (s : State) (r : Report) (j : Slot) : (s.report r).handle j = s.handle j := rfl
@[simp] theorem State.report_charter (s : State) (r : Report) (q : Port) : (s.report r).charter q = s.charter q := rfl
@[simp] theorem State.report_profile (s : State) (r : Report) (j : Line) : (s.report r).profile j = s.profile j := rfl
@[simp] theorem State.report_cell (s : State) (r : Report) (j : Line) : (s.report r).cell j = s.cell j := rfl
@[simp] theorem State.report_portRec (s : State) (r : Report) (q : Port) : (s.report r).portRec q = s.portRec q := rfl
@[simp] theorem State.report_map (s : State) (r : Report) (q : Port) : (s.report r).map q = s.map q := rfl
@[simp] theorem State.report_window (s : State) (r : Report) (q : Port) : (s.report r).window q = s.window q := rfl
@[simp] theorem State.report_bus (s : State) (r : Report) (q : Port) : (s.report r).bus q = s.bus q := rfl
@[simp] theorem State.report_isQuiet (s : State) (r : Report) (q : Port) : (s.report r).isQuiet q = s.isQuiet q := rfl
@[simp] theorem State.report_args (s : State) (r : Report) (q : Port) : (s.report r).args q = s.args q := rfl

/-! `State.mapCells` -/

@[simp] theorem State.mapCells_rstnAsserted (s : State) (ls : LineSet) (f : Line → Cell → Cell) : (s.mapCells ls f).rstnAsserted = s.rstnAsserted := by simp only [State.mapCells]
@[simp] theorem State.mapCells_slots (s : State) (ls : LineSet) (f : Line → Cell → Cell) : (s.mapCells ls f).slots = s.slots := by simp only [State.mapCells]
@[simp] theorem State.mapCells_heldBy (s : State) (ls : LineSet) (f : Line → Cell → Cell) : (s.mapCells ls f).heldBy = s.heldBy := by simp only [State.mapCells]
@[simp] theorem State.mapCells_patTaken (s : State) (ls : LineSet) (f : Line → Cell → Cell) : (s.mapCells ls f).patTaken = s.patTaken := by simp only [State.mapCells]
@[simp] theorem State.mapCells_guardTaken (s : State) (ls : LineSet) (f : Line → Cell → Cell) : (s.mapCells ls f).guardTaken = s.guardTaken := by simp only [State.mapCells]
@[simp] theorem State.mapCells_portRecs (s : State) (ls : LineSet) (f : Line → Cell → Cell) : (s.mapCells ls f).portRecs = s.portRecs := by simp only [State.mapCells]
@[simp] theorem State.mapCells_queue (s : State) (ls : LineSet) (f : Line → Cell → Cell) : (s.mapCells ls f).queue = s.queue := by simp only [State.mapCells]
@[simp] theorem State.mapCells_arrivals (s : State) (ls : LineSet) (f : Line → Cell → Cell) : (s.mapCells ls f).arrivals = s.arrivals := by simp only [State.mapCells]
@[simp] theorem State.mapCells_charters (s : State) (ls : LineSet) (f : Line → Cell → Cell) : (s.mapCells ls f).charters = s.charters := by simp only [State.mapCells]
@[simp] theorem State.mapCells_profiles (s : State) (ls : LineSet) (f : Line → Cell → Cell) : (s.mapCells ls f).profiles = s.profiles := by simp only [State.mapCells]
@[simp] theorem State.mapCells_settling (s : State) (ls : LineSet) (f : Line → Cell → Cell) : (s.mapCells ls f).settling = s.settling := by simp only [State.mapCells]
@[simp] theorem State.mapCells_patChans (s : State) (ls : LineSet) (f : Line → Cell → Cell) : (s.mapCells ls f).patChans = s.patChans := by simp only [State.mapCells]
@[simp] theorem State.mapCells_patInbox (s : State) (ls : LineSet) (f : Line → Cell → Cell) : (s.mapCells ls f).patInbox = s.patInbox := by simp only [State.mapCells]
@[simp] theorem State.mapCells_guardChans (s : State) (ls : LineSet) (f : Line → Cell → Cell) : (s.mapCells ls f).guardChans = s.guardChans := by simp only [State.mapCells]
@[simp] theorem State.mapCells_guardInbox (s : State) (ls : LineSet) (f : Line → Cell → Cell) : (s.mapCells ls f).guardInbox = s.guardInbox := by simp only [State.mapCells]
@[simp] theorem State.mapCells_reports (s : State) (ls : LineSet) (f : Line → Cell → Cell) : (s.mapCells ls f).reports = s.reports := by simp only [State.mapCells]
@[simp] theorem State.mapCells_maps (s : State) (ls : LineSet) (f : Line → Cell → Cell) : (s.mapCells ls f).maps = s.maps := by simp only [State.mapCells]
@[simp] theorem State.mapCells_windows (s : State) (ls : LineSet) (f : Line → Cell → Cell) : (s.mapCells ls f).windows = s.windows := by simp only [State.mapCells]
@[simp] theorem State.mapCells_buses (s : State) (ls : LineSet) (f : Line → Cell → Cell) : (s.mapCells ls f).buses = s.buses := by simp only [State.mapCells]
@[simp] theorem State.mapCells_lastServed (s : State) (ls : LineSet) (f : Line → Cell → Cell) : (s.mapCells ls f).lastServed = s.lastServed := by simp only [State.mapCells]
@[simp] theorem State.mapCells_pending (s : State) (ls : LineSet) (f : Line → Cell → Cell) : (s.mapCells ls f).pending = s.pending := by simp only [State.mapCells]
@[simp] theorem State.mapCells_lease (s : State) (ls : LineSet) (f : Line → Cell → Cell) (j : Slot) : (s.mapCells ls f).lease j = s.lease j := by simp only [State.mapCells, State.lease]
@[simp] theorem State.mapCells_handle (s : State) (ls : LineSet) (f : Line → Cell → Cell) (j : Slot) : (s.mapCells ls f).handle j = s.handle j := by simp only [State.mapCells, State.handle]
@[simp] theorem State.mapCells_charter (s : State) (ls : LineSet) (f : Line → Cell → Cell) (q : Port) : (s.mapCells ls f).charter q = s.charter q := by simp only [State.mapCells, State.charter]
@[simp] theorem State.mapCells_profile (s : State) (ls : LineSet) (f : Line → Cell → Cell) (j : Line) : (s.mapCells ls f).profile j = s.profile j := by simp only [State.mapCells, State.profile]
@[simp] theorem State.mapCells_portRec (s : State) (ls : LineSet) (f : Line → Cell → Cell) (q : Port) : (s.mapCells ls f).portRec q = s.portRec q := by simp only [State.mapCells, State.portRec]
@[simp] theorem State.mapCells_map (s : State) (ls : LineSet) (f : Line → Cell → Cell) (q : Port) : (s.mapCells ls f).map q = s.map q := by simp only [State.mapCells, State.map]
@[simp] theorem State.mapCells_window (s : State) (ls : LineSet) (f : Line → Cell → Cell) (q : Port) : (s.mapCells ls f).window q = s.window q := by simp only [State.mapCells, State.window]
@[simp] theorem State.mapCells_bus (s : State) (ls : LineSet) (f : Line → Cell → Cell) (q : Port) : (s.mapCells ls f).bus q = s.bus q := by simp only [State.mapCells, State.bus]
@[simp] theorem State.mapCells_isQuiet (s : State) (ls : LineSet) (f : Line → Cell → Cell) (q : Port) : (s.mapCells ls f).isQuiet q = s.isQuiet q := by simp only [State.isQuiet, State.mapCells_portRec]
@[simp] theorem State.mapCells_args (s : State) (ls : LineSet) (f : Line → Cell → Cell) (q : Port) : (s.mapCells ls f).args q = s.args q := by simp only [State.mapCells, State.args, State.window]

/-! `State.take` -/

@[simp] theorem State.take_rstnAsserted (s : State) (p : Port) : (s.take p).rstnAsserted = s.rstnAsserted := rfl
@[simp] theorem State.take_slots (s : State) (p : Port) : (s.take p).slots = s.slots := rfl
@[simp] theorem State.take_heldBy (s : State) (p : Port) : (s.take p).heldBy = s.heldBy := rfl
@[simp] theorem State.take_patTaken (s : State) (p : Port) : (s.take p).patTaken = s.patTaken := rfl
@[simp] theorem State.take_guardTaken (s : State) (p : Port) : (s.take p).guardTaken = s.guardTaken := rfl
@[simp] theorem State.take_portRecs (s : State) (p : Port) : (s.take p).portRecs = s.portRecs := rfl
@[simp] theorem State.take_queue (s : State) (p : Port) : (s.take p).queue = s.queue := rfl
@[simp] theorem State.take_arrivals (s : State) (p : Port) : (s.take p).arrivals = s.arrivals := rfl
@[simp] theorem State.take_charters (s : State) (p : Port) : (s.take p).charters = s.charters := rfl
@[simp] theorem State.take_profiles (s : State) (p : Port) : (s.take p).profiles = s.profiles := rfl
@[simp] theorem State.take_cells (s : State) (p : Port) : (s.take p).cells = s.cells := rfl
@[simp] theorem State.take_settling (s : State) (p : Port) : (s.take p).settling = s.settling := rfl
@[simp] theorem State.take_patChans (s : State) (p : Port) : (s.take p).patChans = s.patChans := rfl
@[simp] theorem State.take_patInbox (s : State) (p : Port) : (s.take p).patInbox = s.patInbox := rfl
@[simp] theorem State.take_guardChans (s : State) (p : Port) : (s.take p).guardChans = s.guardChans := rfl
@[simp] theorem State.take_guardInbox (s : State) (p : Port) : (s.take p).guardInbox = s.guardInbox := rfl
@[simp] theorem State.take_reports (s : State) (p : Port) : (s.take p).reports = s.reports := rfl
@[simp] theorem State.take_maps (s : State) (p : Port) : (s.take p).maps = s.maps := rfl
@[simp] theorem State.take_buses (s : State) (p : Port) : (s.take p).buses = s.buses := rfl
@[simp] theorem State.take_pending (s : State) (p : Port) : (s.take p).pending = s.pending := rfl
@[simp] theorem State.take_lease (s : State) (p : Port) (j : Slot) : (s.take p).lease j = s.lease j := rfl
@[simp] theorem State.take_handle (s : State) (p : Port) (j : Slot) : (s.take p).handle j = s.handle j := rfl
@[simp] theorem State.take_charter (s : State) (p : Port) (q : Port) : (s.take p).charter q = s.charter q := rfl
@[simp] theorem State.take_profile (s : State) (p : Port) (j : Line) : (s.take p).profile j = s.profile j := rfl
@[simp] theorem State.take_cell (s : State) (p : Port) (j : Line) : (s.take p).cell j = s.cell j := rfl
@[simp] theorem State.take_portRec (s : State) (p : Port) (q : Port) : (s.take p).portRec q = s.portRec q := rfl
@[simp] theorem State.take_map (s : State) (p : Port) (q : Port) : (s.take p).map q = s.map q := rfl
@[simp] theorem State.take_bus (s : State) (p : Port) (q : Port) : (s.take p).bus q = s.bus q := rfl
@[simp] theorem State.take_isQuiet (s : State) (p : Port) (q : Port) : (s.take p).isQuiet q = s.isQuiet q := rfl

/-! `State.complete` -/

@[simp] theorem State.complete_rstnAsserted (s : State) (p : Port) (r : Reply) : (s.complete p r).rstnAsserted = s.rstnAsserted := by simp only [State.complete, State.setWindow_rstnAsserted]
@[simp] theorem State.complete_slots (s : State) (p : Port) (r : Reply) : (s.complete p r).slots = s.slots := by simp only [State.complete, State.setWindow_slots]
@[simp] theorem State.complete_heldBy (s : State) (p : Port) (r : Reply) : (s.complete p r).heldBy = s.heldBy := by simp only [State.complete, State.setWindow_heldBy]
@[simp] theorem State.complete_patTaken (s : State) (p : Port) (r : Reply) : (s.complete p r).patTaken = s.patTaken := by simp only [State.complete, State.setWindow_patTaken]
@[simp] theorem State.complete_guardTaken (s : State) (p : Port) (r : Reply) : (s.complete p r).guardTaken = s.guardTaken := by simp only [State.complete, State.setWindow_guardTaken]
@[simp] theorem State.complete_portRecs (s : State) (p : Port) (r : Reply) : (s.complete p r).portRecs = s.portRecs := by simp only [State.complete, State.setWindow_portRecs]
@[simp] theorem State.complete_queue (s : State) (p : Port) (r : Reply) : (s.complete p r).queue = s.queue := by simp only [State.complete, State.setWindow_queue]
@[simp] theorem State.complete_arrivals (s : State) (p : Port) (r : Reply) : (s.complete p r).arrivals = s.arrivals := by simp only [State.complete, State.setWindow_arrivals]
@[simp] theorem State.complete_charters (s : State) (p : Port) (r : Reply) : (s.complete p r).charters = s.charters := by simp only [State.complete, State.setWindow_charters]
@[simp] theorem State.complete_profiles (s : State) (p : Port) (r : Reply) : (s.complete p r).profiles = s.profiles := by simp only [State.complete, State.setWindow_profiles]
@[simp] theorem State.complete_cells (s : State) (p : Port) (r : Reply) : (s.complete p r).cells = s.cells := by simp only [State.complete, State.setWindow_cells]
@[simp] theorem State.complete_settling (s : State) (p : Port) (r : Reply) : (s.complete p r).settling = s.settling := by simp only [State.complete, State.setWindow_settling]
@[simp] theorem State.complete_patChans (s : State) (p : Port) (r : Reply) : (s.complete p r).patChans = s.patChans := by simp only [State.complete, State.setWindow_patChans]
@[simp] theorem State.complete_patInbox (s : State) (p : Port) (r : Reply) : (s.complete p r).patInbox = s.patInbox := by simp only [State.complete, State.setWindow_patInbox]
@[simp] theorem State.complete_guardChans (s : State) (p : Port) (r : Reply) : (s.complete p r).guardChans = s.guardChans := by simp only [State.complete, State.setWindow_guardChans]
@[simp] theorem State.complete_guardInbox (s : State) (p : Port) (r : Reply) : (s.complete p r).guardInbox = s.guardInbox := by simp only [State.complete, State.setWindow_guardInbox]
@[simp] theorem State.complete_reports (s : State) (p : Port) (r : Reply) : (s.complete p r).reports = s.reports := by simp only [State.complete, State.setWindow_reports]
@[simp] theorem State.complete_maps (s : State) (p : Port) (r : Reply) : (s.complete p r).maps = s.maps := by simp only [State.complete, State.setWindow_maps]
@[simp] theorem State.complete_buses (s : State) (p : Port) (r : Reply) : (s.complete p r).buses = s.buses := by simp only [State.complete, State.setWindow_buses]
@[simp] theorem State.complete_lastServed (s : State) (p : Port) (r : Reply) : (s.complete p r).lastServed = s.lastServed := by simp only [State.complete, State.setWindow_lastServed]
@[simp] theorem State.complete_pending (s : State) (p : Port) (r : Reply) : (s.complete p r).pending = s.pending := by simp only [State.complete, State.setWindow_pending]
@[simp] theorem State.complete_lease (s : State) (p : Port) (r : Reply) (j : Slot) : (s.complete p r).lease j = s.lease j := by simp only [State.complete, State.setWindow_lease]
@[simp] theorem State.complete_handle (s : State) (p : Port) (r : Reply) (j : Slot) : (s.complete p r).handle j = s.handle j := by simp only [State.complete, State.setWindow_handle]
@[simp] theorem State.complete_charter (s : State) (p : Port) (r : Reply) (q : Port) : (s.complete p r).charter q = s.charter q := by simp only [State.complete, State.setWindow_charter]
@[simp] theorem State.complete_profile (s : State) (p : Port) (r : Reply) (j : Line) : (s.complete p r).profile j = s.profile j := by simp only [State.complete, State.setWindow_profile]
@[simp] theorem State.complete_cell (s : State) (p : Port) (r : Reply) (j : Line) : (s.complete p r).cell j = s.cell j := by simp only [State.complete, State.setWindow_cell]
@[simp] theorem State.complete_portRec (s : State) (p : Port) (r : Reply) (q : Port) : (s.complete p r).portRec q = s.portRec q := by simp only [State.complete, State.setWindow_portRec]
@[simp] theorem State.complete_map (s : State) (p : Port) (r : Reply) (q : Port) : (s.complete p r).map q = s.map q := by simp only [State.complete, State.setWindow_map]
@[simp] theorem State.complete_bus (s : State) (p : Port) (r : Reply) (q : Port) : (s.complete p r).bus q = s.bus q := by simp only [State.complete, State.setWindow_bus]
@[simp] theorem State.complete_isQuiet (s : State) (p : Port) (r : Reply) (q : Port) : (s.complete p r).isQuiet q = s.isQuiet q := by simp only [State.complete, State.setWindow_isQuiet]

/-! The place that an update writes -/

@[simp] theorem State.setLease_lease (s : State) (k j : Slot) (l : Lease) :
    (s.setLease k l).lease j = if j = k then some l else s.lease j := by
  simp only [State.lease, State.setLease, vget_vset]
  split <;> rfl

@[simp] theorem State.setLease_handle (s : State) (k j : Slot) (l : Lease) :
    (s.setLease k l).handle j = s.handle j := by
  simp only [State.handle, State.setLease, vget_vset]
  split <;> simp_all

@[simp] theorem State.setCell_cell (s : State) (i j : Line) (c : Cell) :
    (s.setCell i c).cell j = if j = i then c else s.cell j := by
  simp only [State.cell, State.setCell, vget_vset]

@[simp] theorem State.setPortRec_portRec (s : State) (i j : Port) (r : PortRec) :
    (s.setPortRec i r).portRec j = if j = i then r else s.portRec j := by
  simp only [State.portRec, State.setPortRec, vget_vset]

@[simp] theorem State.setMap_map (s : State) (i j : Port) (m : NoticeMap) :
    (s.setMap i m).map j = if j = i then m else s.map j := by
  simp only [State.map, State.setMap, vget_vset]

@[simp] theorem State.setWindow_window (s : State) (i j : Port) (w : Window) :
    (s.setWindow i w).window j = if j = i then w else s.window j := by
  simp only [State.window, State.setWindow, vget_vset]

@[simp] theorem State.setBus_bus (s : State) (i j : Port) (b : Bus) :
    (s.setBus i b).bus j = if j = i then b else s.bus j := by
  simp only [State.bus, State.setBus, vget_vset]

@[simp] theorem State.setProfile_profile (s : State) (i j : Line) (f : Profile) :
    (s.setProfile i f).profile j = if j = i then f else s.profile j := by
  simp only [State.profile, State.setProfile, vget_vset]

@[simp] theorem State.setPatChan_get (s : State) (i j : PatChan) (x : Option PatternChannel) :
    vget (s.setPatChan i x).patChans j = if j = i then x else vget s.patChans j := by
  simp only [State.setPatChan, vget_vset]

@[simp] theorem State.setGuardChan_get (s : State) (i j : GuardChan) (x : Option GuardChannel) :
    vget (s.setGuardChan i x).guardChans j = if j = i then x else vget s.guardChans j := by
  simp only [State.setGuardChan, vget_vset]

@[simp] theorem State.tellPattern_get (s : State) (i j : PatChan) (x : PatternInstr) :
    vget (s.tellPattern i x).patInbox j = if j = i then vget s.patInbox j ++ [x] else vget s.patInbox j := by
  simp only [State.tellPattern, vget_vset]
  split <;> simp_all

@[simp] theorem State.tellGuard_get (s : State) (i j : GuardChan) (x : GuardInstr) :
    vget (s.tellGuard i x).guardInbox j = if j = i then vget s.guardInbox j ++ [x] else vget s.guardInbox j := by
  simp only [State.tellGuard, vget_vset]
  split <;> simp_all

@[simp] theorem State.report_reports (s : State) (r : Report) : (s.report r).reports = s.reports ++ [r] := rfl

@[simp] theorem State.mapCells_cell (s : State) (ls : LineSet) (f : Line → Cell → Cell) (n : Line) :
    (s.mapCells ls f).cell n = if has ls n then f n (s.cell n) else s.cell n := by
  simp [State.cell, State.mapCells]

@[simp] theorem State.take_lastServed (s : State) (p : Port) : (s.take p).lastServed = p := rfl

@[simp] theorem State.take_window (s : State) (p q : Port) :
    (s.take p).window q = if q = p then { s.window p with phase := .executing } else s.window q := by
  simp only [State.take, State.window, State.setWindow, vget_vset]

@[simp] theorem State.take_args (s : State) (p q : Port) : (s.take p).args q = s.args q := by
  simp only [State.args, State.take_window]
  split <;> simp_all

@[simp] theorem State.complete_window (s : State) (p q : Port) (r : Reply) :
    (s.complete p r).window q =
      if q = p then
        { s.window p with
          phase := .idle, status := r.status, result := padResult r.result,
          sequence := (s.window p).sequence + 1#8 }
      else s.window q := by
  simp only [State.complete, State.setWindow_window]

end Sys2Proof.Machine
end

