-- ==== Sys2Proof/Laws/Frames.lean ====
section
/-! SUPPORT. What each shared operation leaves unchanged, one lemma per field. -/

namespace Sys2Proof.Machine

/-- What every pass of a fold over slots keeps, the fold keeps. -/
theorem forSlots_keeps {α : Type} (g : State → α) (f : Slot → State → State) (h : ∀ k s, g (f k s) = g s)
    (s : State) : g (forSlots f s) = g s := by
  unfold forSlots
  induction List.finRange 24 generalizing s with
  | nil => rfl
  | cons k ks ih => rw [List.foldl_cons, ih, h]

/-- What every pass of a fold over ports keeps, the fold keeps. -/
theorem forPorts_keeps {α : Type} (g : State → α) (f : Port → State → State) (h : ∀ p s, g (f p s) = g s)
    (s : State) : g (forPorts f s) = g s := by
  unfold forPorts
  induction List.finRange 4 generalizing s with
  | nil => rfl
  | cons p ps ih => rw [List.foldl_cons, ih, h]

/-- A predicate that every pass of a fold over slots keeps holds after the fold. -/
theorem forSlots_inv (P : State → Prop) (f : Slot → State → State) (h : ∀ k s, P s → P (f k s)) (s : State)
    (hs : P s) : P (forSlots f s) := by
  unfold forSlots
  induction List.finRange 24 generalizing s with
  | nil => exact hs
  | cons k ks ih => exact ih _ (h k s hs)

/-- A predicate that every pass of a fold over ports keeps holds after the fold. -/
theorem forPorts_inv (P : State → Prop) (f : Port → State → State) (h : ∀ p s, P s → P (f p s)) (s : State)
    (hs : P s) : P (forPorts f s) := by
  unfold forPorts
  induction List.finRange 4 generalizing s with
  | nil => exact hs
  | cons p ps ih => exact ih _ (h p s hs)

/-- What a refused post and a grant keep, the examination of the entries keeps. -/
theorem scanList_keeps {α : Type} (g : State → α) (hp : ∀ e kd s, g (postTicket e kd s) = g s)
    (hg : ∀ e s, g (scanGrant e s) = g s) (es older : List QueueEntry) (s : State) :
    g (scanList older es s).2.1 = g s := by
  induction es generalizing older s with
  | nil => rfl
  | cons e es ih =>
    simp only [scanList]
    split
    · simp only [ih, hp]
    · split
      · rw [ih, hg]
      · rw [ih]


/-! Maps -/

@[simp] theorem postPort_frame (p : Port) (kd : KindSet) (s : State) :
    let t := postPort p kd s
    t.rstnAsserted = s.rstnAsserted ∧ t.slots = s.slots ∧ t.heldBy = s.heldBy ∧ t.patTaken = s.patTaken ∧
    t.guardTaken = s.guardTaken ∧ t.portRecs = s.portRecs ∧ t.queue = s.queue ∧ t.arrivals = s.arrivals ∧
    t.charters = s.charters ∧ t.profiles = s.profiles ∧ t.cells = s.cells ∧ t.settling = s.settling ∧
    t.patChans = s.patChans ∧ t.patInbox = s.patInbox ∧ t.guardChans = s.guardChans ∧ t.guardInbox = s.guardInbox ∧
    t.reports = s.reports ∧ t.windows = s.windows ∧ t.buses = s.buses ∧ t.lastServed = s.lastServed ∧
    t.pending = s.pending := by
  simp [postPort]

@[simp] theorem postLine_frame (n : Line) (s : State) :
    let t := postLine n s
    t.rstnAsserted = s.rstnAsserted ∧ t.slots = s.slots ∧ t.heldBy = s.heldBy ∧ t.patTaken = s.patTaken ∧
    t.guardTaken = s.guardTaken ∧ t.portRecs = s.portRecs ∧ t.queue = s.queue ∧ t.arrivals = s.arrivals ∧
    t.charters = s.charters ∧ t.profiles = s.profiles ∧ t.cells = s.cells ∧ t.settling = s.settling ∧
    t.patChans = s.patChans ∧ t.patInbox = s.patInbox ∧ t.guardChans = s.guardChans ∧ t.guardInbox = s.guardInbox ∧
    t.reports = s.reports ∧ t.windows = s.windows ∧ t.buses = s.buses ∧ t.lastServed = s.lastServed ∧
    t.pending = s.pending := by
  simp [postLine]

@[simp] theorem postSlot_frame (p : Port) (k : Slot) (kd : KindSet) (d : Detail) (s : State) :
    let t := postSlot p k kd d s
    t.rstnAsserted = s.rstnAsserted ∧ t.slots = s.slots ∧ t.heldBy = s.heldBy ∧ t.patTaken = s.patTaken ∧
    t.guardTaken = s.guardTaken ∧ t.portRecs = s.portRecs ∧ t.queue = s.queue ∧ t.arrivals = s.arrivals ∧
    t.charters = s.charters ∧ t.profiles = s.profiles ∧ t.cells = s.cells ∧ t.settling = s.settling ∧
    t.patChans = s.patChans ∧ t.patInbox = s.patInbox ∧ t.guardChans = s.guardChans ∧ t.guardInbox = s.guardInbox ∧
    t.reports = s.reports ∧ t.windows = s.windows ∧ t.buses = s.buses ∧ t.lastServed = s.lastServed ∧
    t.pending = s.pending := by
  simp [postSlot]

@[simp] theorem postTicket_frame (e : QueueEntry) (kd : KindSet) (s : State) :
    let t := postTicket e kd s
    t.rstnAsserted = s.rstnAsserted ∧ t.slots = s.slots ∧ t.heldBy = s.heldBy ∧ t.patTaken = s.patTaken ∧
    t.guardTaken = s.guardTaken ∧ t.portRecs = s.portRecs ∧ t.queue = s.queue ∧ t.arrivals = s.arrivals ∧
    t.charters = s.charters ∧ t.profiles = s.profiles ∧ t.cells = s.cells ∧ t.settling = s.settling ∧
    t.patChans = s.patChans ∧ t.patInbox = s.patInbox ∧ t.guardChans = s.guardChans ∧ t.guardInbox = s.guardInbox ∧
    t.reports = s.reports ∧ t.windows = s.windows ∧ t.buses = s.buses ∧ t.lastServed = s.lastServed ∧
    t.pending = s.pending := by
  simp [postTicket]

@[simp] theorem dropSlotKinds_frame (p : Port) (k : Slot) (kd : KindSet) (s : State) :
    let t := dropSlotKinds p k kd s
    t.rstnAsserted = s.rstnAsserted ∧ t.slots = s.slots ∧ t.heldBy = s.heldBy ∧ t.patTaken = s.patTaken ∧
    t.guardTaken = s.guardTaken ∧ t.portRecs = s.portRecs ∧ t.queue = s.queue ∧ t.arrivals = s.arrivals ∧
    t.charters = s.charters ∧ t.profiles = s.profiles ∧ t.cells = s.cells ∧ t.settling = s.settling ∧
    t.patChans = s.patChans ∧ t.patInbox = s.patInbox ∧ t.guardChans = s.guardChans ∧ t.guardInbox = s.guardInbox ∧
    t.reports = s.reports ∧ t.windows = s.windows ∧ t.buses = s.buses ∧ t.lastServed = s.lastServed ∧
    t.pending = s.pending := by
  simp [dropSlotKinds]


/-! The line bank -/

@[simp] theorem restartChecks_frame (before s : State) :
    let t := restartChecks before s
    t.rstnAsserted = s.rstnAsserted ∧ t.slots = s.slots ∧ t.heldBy = s.heldBy ∧ t.patTaken = s.patTaken ∧
    t.guardTaken = s.guardTaken ∧ t.portRecs = s.portRecs ∧ t.queue = s.queue ∧ t.arrivals = s.arrivals ∧
    t.charters = s.charters ∧ t.profiles = s.profiles ∧ t.settling = s.settling ∧ t.patChans = s.patChans ∧
    t.patInbox = s.patInbox ∧ t.guardChans = s.guardChans ∧ t.guardInbox = s.guardInbox ∧ t.reports = s.reports ∧
    t.maps = s.maps ∧ t.windows = s.windows ∧ t.buses = s.buses ∧ t.lastServed = s.lastServed ∧
    t.pending = s.pending := by
  simp only [restartChecks, and_self]

@[simp] theorem restartLines_frame (ls : LineSet) (s : State) :
    let t := restartLines ls s
    t.rstnAsserted = s.rstnAsserted ∧ t.slots = s.slots ∧ t.heldBy = s.heldBy ∧ t.patTaken = s.patTaken ∧
    t.guardTaken = s.guardTaken ∧ t.portRecs = s.portRecs ∧ t.queue = s.queue ∧ t.arrivals = s.arrivals ∧
    t.charters = s.charters ∧ t.profiles = s.profiles ∧ t.settling = s.settling ∧ t.patChans = s.patChans ∧
    t.patInbox = s.patInbox ∧ t.guardChans = s.guardChans ∧ t.guardInbox = s.guardInbox ∧ t.reports = s.reports ∧
    t.maps = s.maps ∧ t.windows = s.windows ∧ t.buses = s.buses ∧ t.lastServed = s.lastServed ∧
    t.pending = s.pending := by
  simp [restartLines]

@[simp] theorem applyLevels_frame (h : Handle) (may : Lease → Bool) (lv : Line → Level) (s : State) :
    let t := applyLevels h may lv s
    t.rstnAsserted = s.rstnAsserted ∧ t.slots = s.slots ∧ t.heldBy = s.heldBy ∧ t.patTaken = s.patTaken ∧
    t.guardTaken = s.guardTaken ∧ t.portRecs = s.portRecs ∧ t.queue = s.queue ∧ t.arrivals = s.arrivals ∧
    t.charters = s.charters ∧ t.profiles = s.profiles ∧ t.settling = s.settling ∧ t.patChans = s.patChans ∧
    t.patInbox = s.patInbox ∧ t.guardChans = s.guardChans ∧ t.guardInbox = s.guardInbox ∧ t.reports = s.reports ∧
    t.maps = s.maps ∧ t.windows = s.windows ∧ t.buses = s.buses ∧ t.lastServed = s.lastServed ∧
    t.pending = s.pending := by
  unfold applyLevels
  dsimp only
  repeat' (first | split | dsimp only)
  all_goals simp

@[simp] theorem writeLevels_frame (ls : LineSet) (lv : Line → Option Level) (s : State) :
    let t := writeLevels ls lv s
    t.rstnAsserted = s.rstnAsserted ∧ t.slots = s.slots ∧ t.heldBy = s.heldBy ∧ t.patTaken = s.patTaken ∧
    t.guardTaken = s.guardTaken ∧ t.portRecs = s.portRecs ∧ t.queue = s.queue ∧ t.arrivals = s.arrivals ∧
    t.charters = s.charters ∧ t.profiles = s.profiles ∧ t.settling = s.settling ∧ t.patChans = s.patChans ∧
    t.patInbox = s.patInbox ∧ t.guardChans = s.guardChans ∧ t.guardInbox = s.guardInbox ∧ t.reports = s.reports ∧
    t.maps = s.maps ∧ t.windows = s.windows ∧ t.buses = s.buses ∧ t.lastServed = s.lastServed ∧
    t.pending = s.pending := by
  simp [writeLevels]

@[simp] theorem settleEnd_frame (k : Slot) (s : State) :
    let t := settleEnd k s
    t.rstnAsserted = s.rstnAsserted ∧ t.slots = s.slots ∧ t.heldBy = s.heldBy ∧ t.patTaken = s.patTaken ∧
    t.guardTaken = s.guardTaken ∧ t.portRecs = s.portRecs ∧ t.queue = s.queue ∧ t.arrivals = s.arrivals ∧
    t.charters = s.charters ∧ t.profiles = s.profiles ∧ t.cells = s.cells ∧ t.patChans = s.patChans ∧
    t.patInbox = s.patInbox ∧ t.guardChans = s.guardChans ∧ t.guardInbox = s.guardInbox ∧ t.maps = s.maps ∧
    t.windows = s.windows ∧ t.buses = s.buses ∧ t.lastServed = s.lastServed ∧ t.pending = s.pending := by
  unfold settleEnd
  dsimp only
  repeat' (first | split | dsimp only)
  all_goals simp

@[simp] theorem settleTick_frame (k : Slot) (s : State) :
    let t := settleTick k s
    t.rstnAsserted = s.rstnAsserted ∧ t.slots = s.slots ∧ t.heldBy = s.heldBy ∧ t.patTaken = s.patTaken ∧
    t.guardTaken = s.guardTaken ∧ t.portRecs = s.portRecs ∧ t.queue = s.queue ∧ t.arrivals = s.arrivals ∧
    t.charters = s.charters ∧ t.profiles = s.profiles ∧ t.patChans = s.patChans ∧ t.patInbox = s.patInbox ∧
    t.guardChans = s.guardChans ∧ t.guardInbox = s.guardInbox ∧ t.maps = s.maps ∧ t.windows = s.windows ∧
    t.buses = s.buses ∧ t.lastServed = s.lastServed ∧ t.pending = s.pending := by
  unfold settleTick
  dsimp only
  repeat' (first | split | dsimp only)
  all_goals simp

@[simp] theorem driveFaultEnd_frame (n : Line) (s : State) :
    let t := driveFaultEnd n s
    t.rstnAsserted = s.rstnAsserted ∧ t.slots = s.slots ∧ t.heldBy = s.heldBy ∧ t.patTaken = s.patTaken ∧
    t.guardTaken = s.guardTaken ∧ t.portRecs = s.portRecs ∧ t.queue = s.queue ∧ t.arrivals = s.arrivals ∧
    t.charters = s.charters ∧ t.settling = s.settling ∧ t.patChans = s.patChans ∧ t.patInbox = s.patInbox ∧
    t.guardChans = s.guardChans ∧ t.guardInbox = s.guardInbox ∧ t.maps = s.maps ∧ t.windows = s.windows ∧
    t.buses = s.buses ∧ t.lastServed = s.lastServed ∧ t.pending = s.pending := by
  unfold driveFaultEnd
  dsimp only
  repeat' (first | split | dsimp only)
  all_goals simp


/-! The guard monitor -/

@[simp] theorem guardSees_frame (n : Line) (g : GuardChan) (s : State) :
    let t := guardSees n g s
    t.rstnAsserted = s.rstnAsserted ∧ t.slots = s.slots ∧ t.heldBy = s.heldBy ∧ t.patTaken = s.patTaken ∧
    t.guardTaken = s.guardTaken ∧ t.portRecs = s.portRecs ∧ t.queue = s.queue ∧ t.arrivals = s.arrivals ∧
    t.charters = s.charters ∧ t.profiles = s.profiles ∧ t.cells = s.cells ∧ t.settling = s.settling ∧
    t.patChans = s.patChans ∧ t.patInbox = s.patInbox ∧ t.guardInbox = s.guardInbox ∧ t.reports = s.reports ∧
    t.maps = s.maps ∧ t.windows = s.windows ∧ t.buses = s.buses ∧ t.lastServed = s.lastServed ∧
    t.pending = s.pending := by
  unfold guardSees
  dsimp only
  repeat' (first | split | dsimp only)
  all_goals simp

@[simp] theorem tellGuards_frame (n : Line) (s : State) :
    let t := tellGuards n s
    t.rstnAsserted = s.rstnAsserted ∧ t.slots = s.slots ∧ t.heldBy = s.heldBy ∧ t.patTaken = s.patTaken ∧
    t.guardTaken = s.guardTaken ∧ t.portRecs = s.portRecs ∧ t.queue = s.queue ∧ t.arrivals = s.arrivals ∧
    t.charters = s.charters ∧ t.profiles = s.profiles ∧ t.cells = s.cells ∧ t.settling = s.settling ∧
    t.patChans = s.patChans ∧ t.patInbox = s.patInbox ∧ t.guardInbox = s.guardInbox ∧ t.reports = s.reports ∧
    t.maps = s.maps ∧ t.windows = s.windows ∧ t.buses = s.buses ∧ t.lastServed = s.lastServed ∧
    t.pending = s.pending := by
  unfold tellGuards
  induction List.finRange 4 generalizing s with
  | nil => simp
  | cons g gs ih =>
    have h := ih (guardSees n g s)
    simpa using h

@[simp] theorem sendEdge_frame (n : Line) (s : State) :
    let t := sendEdge n s
    t.rstnAsserted = s.rstnAsserted ∧ t.slots = s.slots ∧ t.heldBy = s.heldBy ∧ t.patTaken = s.patTaken ∧
    t.guardTaken = s.guardTaken ∧ t.portRecs = s.portRecs ∧ t.queue = s.queue ∧ t.arrivals = s.arrivals ∧
    t.charters = s.charters ∧ t.profiles = s.profiles ∧ t.cells = s.cells ∧ t.settling = s.settling ∧
    t.patChans = s.patChans ∧ t.patInbox = s.patInbox ∧ t.guardChans = s.guardChans ∧ t.guardInbox = s.guardInbox ∧
    t.maps = s.maps ∧ t.windows = s.windows ∧ t.buses = s.buses ∧ t.lastServed = s.lastServed ∧
    t.pending = s.pending := by
  unfold sendEdge
  dsimp only
  repeat' (first | split | dsimp only)
  all_goals simp

@[simp] theorem debouncedTo_frame (n : Line) (v : Level) (s : State) :
    let t := debouncedTo n v s
    t.rstnAsserted = s.rstnAsserted ∧ t.slots = s.slots ∧ t.heldBy = s.heldBy ∧ t.patTaken = s.patTaken ∧
    t.guardTaken = s.guardTaken ∧ t.portRecs = s.portRecs ∧ t.queue = s.queue ∧ t.arrivals = s.arrivals ∧
    t.charters = s.charters ∧ t.profiles = s.profiles ∧ t.settling = s.settling ∧ t.patChans = s.patChans ∧
    t.patInbox = s.patInbox ∧ t.guardInbox = s.guardInbox ∧ t.maps = s.maps ∧ t.windows = s.windows ∧
    t.buses = s.buses ∧ t.lastServed = s.lastServed ∧ t.pending = s.pending := by
  simp [debouncedTo]

@[simp] theorem debounceSample_frame (n : Line) (v : Level) (s : State) :
    let t := debounceSample n v s
    t.rstnAsserted = s.rstnAsserted ∧ t.slots = s.slots ∧ t.heldBy = s.heldBy ∧ t.patTaken = s.patTaken ∧
    t.guardTaken = s.guardTaken ∧ t.portRecs = s.portRecs ∧ t.queue = s.queue ∧ t.arrivals = s.arrivals ∧
    t.charters = s.charters ∧ t.profiles = s.profiles ∧ t.settling = s.settling ∧ t.patChans = s.patChans ∧
    t.patInbox = s.patInbox ∧ t.guardInbox = s.guardInbox ∧ t.maps = s.maps ∧ t.windows = s.windows ∧
    t.buses = s.buses ∧ t.lastServed = s.lastServed ∧ t.pending = s.pending := by
  unfold debounceSample
  dsimp only
  repeat' (first | split | dsimp only)
  all_goals simp

@[simp] theorem compareSample_frame (n : Line) (v : Level) (s : State) :
    let t := compareSample n v s
    t.rstnAsserted = s.rstnAsserted ∧ t.slots = s.slots ∧ t.heldBy = s.heldBy ∧ t.patTaken = s.patTaken ∧
    t.guardTaken = s.guardTaken ∧ t.portRecs = s.portRecs ∧ t.queue = s.queue ∧ t.arrivals = s.arrivals ∧
    t.charters = s.charters ∧ t.settling = s.settling ∧ t.patChans = s.patChans ∧ t.patInbox = s.patInbox ∧
    t.guardChans = s.guardChans ∧ t.guardInbox = s.guardInbox ∧ t.maps = s.maps ∧ t.windows = s.windows ∧
    t.buses = s.buses ∧ t.lastServed = s.lastServed ∧ t.pending = s.pending := by
  unfold compareSample
  split <;> simp

@[simp] theorem sendAction_frame (ch : GuardChannel) (v : Action → Level) (s : State) :
    let t := sendAction ch v s
    t.rstnAsserted = s.rstnAsserted ∧ t.slots = s.slots ∧ t.heldBy = s.heldBy ∧ t.patTaken = s.patTaken ∧
    t.guardTaken = s.guardTaken ∧ t.portRecs = s.portRecs ∧ t.queue = s.queue ∧ t.arrivals = s.arrivals ∧
    t.charters = s.charters ∧ t.profiles = s.profiles ∧ t.settling = s.settling ∧ t.patChans = s.patChans ∧
    t.patInbox = s.patInbox ∧ t.guardChans = s.guardChans ∧ t.guardInbox = s.guardInbox ∧ t.reports = s.reports ∧
    t.maps = s.maps ∧ t.windows = s.windows ∧ t.buses = s.buses ∧ t.lastServed = s.lastServed ∧
    t.pending = s.pending := by
  unfold sendAction
  dsimp only
  repeat' (first | split | dsimp only)
  all_goals simp

@[simp] theorem guardFireEnd_frame (g : GuardChan) (s : State) :
    let t := guardFireEnd g s
    t.rstnAsserted = s.rstnAsserted ∧ t.slots = s.slots ∧ t.heldBy = s.heldBy ∧ t.patTaken = s.patTaken ∧
    t.guardTaken = s.guardTaken ∧ t.portRecs = s.portRecs ∧ t.queue = s.queue ∧ t.arrivals = s.arrivals ∧
    t.charters = s.charters ∧ t.profiles = s.profiles ∧ t.settling = s.settling ∧ t.patChans = s.patChans ∧
    t.patInbox = s.patInbox ∧ t.guardInbox = s.guardInbox ∧ t.maps = s.maps ∧ t.windows = s.windows ∧
    t.buses = s.buses ∧ t.lastServed = s.lastServed ∧ t.pending = s.pending := by
  unfold guardFireEnd
  dsimp only
  repeat' (first | split | dsimp only)
  all_goals simp

@[simp] theorem pulseEndStep_frame (g : GuardChan) (s : State) :
    let t := pulseEndStep g s
    t.rstnAsserted = s.rstnAsserted ∧ t.slots = s.slots ∧ t.heldBy = s.heldBy ∧ t.patTaken = s.patTaken ∧
    t.guardTaken = s.guardTaken ∧ t.portRecs = s.portRecs ∧ t.queue = s.queue ∧ t.arrivals = s.arrivals ∧
    t.charters = s.charters ∧ t.profiles = s.profiles ∧ t.settling = s.settling ∧ t.patChans = s.patChans ∧
    t.patInbox = s.patInbox ∧ t.guardInbox = s.guardInbox ∧ t.reports = s.reports ∧ t.maps = s.maps ∧
    t.windows = s.windows ∧ t.buses = s.buses ∧ t.lastServed = s.lastServed ∧ t.pending = s.pending := by
  unfold pulseEndStep
  dsimp only
  repeat' (first | split | dsimp only)
  all_goals simp

@[simp] theorem guardTick_frame (g : GuardChan) (s : State) :
    let t := guardTick g s
    t.rstnAsserted = s.rstnAsserted ∧ t.slots = s.slots ∧ t.heldBy = s.heldBy ∧ t.patTaken = s.patTaken ∧
    t.guardTaken = s.guardTaken ∧ t.portRecs = s.portRecs ∧ t.queue = s.queue ∧ t.arrivals = s.arrivals ∧
    t.charters = s.charters ∧ t.profiles = s.profiles ∧ t.settling = s.settling ∧ t.patChans = s.patChans ∧
    t.patInbox = s.patInbox ∧ t.guardInbox = s.guardInbox ∧ t.maps = s.maps ∧ t.windows = s.windows ∧
    t.buses = s.buses ∧ t.lastServed = s.lastServed ∧ t.pending = s.pending := by
  unfold guardTick
  dsimp only
  repeat' (first | split | dsimp only)
  all_goals simp

@[simp] theorem leaveFor_frame (g : GuardChan) (ch : GuardChannel) (nx : Option GuardChannel) (s : State) :
    let t := leaveFor g ch nx s
    t.rstnAsserted = s.rstnAsserted ∧ t.slots = s.slots ∧ t.heldBy = s.heldBy ∧ t.patTaken = s.patTaken ∧
    t.guardTaken = s.guardTaken ∧ t.portRecs = s.portRecs ∧ t.queue = s.queue ∧ t.arrivals = s.arrivals ∧
    t.charters = s.charters ∧ t.profiles = s.profiles ∧ t.settling = s.settling ∧ t.patChans = s.patChans ∧
    t.patInbox = s.patInbox ∧ t.guardInbox = s.guardInbox ∧ t.reports = s.reports ∧ t.maps = s.maps ∧
    t.windows = s.windows ∧ t.buses = s.buses ∧ t.lastServed = s.lastServed ∧ t.pending = s.pending := by
  unfold leaveFor
  dsimp only
  repeat' (first | split | dsimp only)
  all_goals simp

@[simp] theorem takeGuardInstr_frame (g : GuardChan) (i : GuardInstr) (s : State) :
    let t := takeGuardInstr g i s
    t.rstnAsserted = s.rstnAsserted ∧ t.slots = s.slots ∧ t.heldBy = s.heldBy ∧ t.patTaken = s.patTaken ∧
    t.guardTaken = s.guardTaken ∧ t.portRecs = s.portRecs ∧ t.queue = s.queue ∧ t.arrivals = s.arrivals ∧
    t.charters = s.charters ∧ t.profiles = s.profiles ∧ t.settling = s.settling ∧ t.patChans = s.patChans ∧
    t.patInbox = s.patInbox ∧ t.guardInbox = s.guardInbox ∧ t.reports = s.reports ∧ t.maps = s.maps ∧
    t.windows = s.windows ∧ t.buses = s.buses ∧ t.lastServed = s.lastServed ∧ t.pending = s.pending := by
  unfold takeGuardInstr
  dsimp only
  repeat' (first | split | dsimp only)
  all_goals simp

@[simp] theorem takeGuardFront_frame (g : GuardChan) (w : GuardInstr → Bool) (s : State) :
    let t := takeGuardFront g w s
    t.rstnAsserted = s.rstnAsserted ∧ t.slots = s.slots ∧ t.heldBy = s.heldBy ∧ t.patTaken = s.patTaken ∧
    t.guardTaken = s.guardTaken ∧ t.portRecs = s.portRecs ∧ t.queue = s.queue ∧ t.arrivals = s.arrivals ∧
    t.charters = s.charters ∧ t.profiles = s.profiles ∧ t.settling = s.settling ∧ t.patChans = s.patChans ∧
    t.patInbox = s.patInbox ∧ t.reports = s.reports ∧ t.maps = s.maps ∧ t.windows = s.windows ∧ t.buses = s.buses ∧
    t.lastServed = s.lastServed ∧ t.pending = s.pending := by
  unfold takeGuardFront
  dsimp only
  repeat' (first | split | dsimp only)
  all_goals simp


/-! The pattern sequencer -/

@[simp] theorem sendStep_frame (ch : PatternChannel) (s : State) :
    let t := sendStep ch s
    t.rstnAsserted = s.rstnAsserted ∧ t.slots = s.slots ∧ t.heldBy = s.heldBy ∧ t.patTaken = s.patTaken ∧
    t.guardTaken = s.guardTaken ∧ t.portRecs = s.portRecs ∧ t.queue = s.queue ∧ t.arrivals = s.arrivals ∧
    t.charters = s.charters ∧ t.profiles = s.profiles ∧ t.settling = s.settling ∧ t.patChans = s.patChans ∧
    t.patInbox = s.patInbox ∧ t.guardChans = s.guardChans ∧ t.guardInbox = s.guardInbox ∧ t.reports = s.reports ∧
    t.maps = s.maps ∧ t.windows = s.windows ∧ t.buses = s.buses ∧ t.lastServed = s.lastServed ∧
    t.pending = s.pending := by
  simp [sendStep]

@[simp] theorem beginStep_frame (c : PatChan) (ch : PatternChannel) (i : Nat) (left : Option Nat) (s : State) :
    let t := beginStep c ch i left s
    t.rstnAsserted = s.rstnAsserted ∧ t.slots = s.slots ∧ t.heldBy = s.heldBy ∧ t.patTaken = s.patTaken ∧
    t.guardTaken = s.guardTaken ∧ t.portRecs = s.portRecs ∧ t.queue = s.queue ∧ t.arrivals = s.arrivals ∧
    t.charters = s.charters ∧ t.profiles = s.profiles ∧ t.settling = s.settling ∧ t.patInbox = s.patInbox ∧
    t.guardChans = s.guardChans ∧ t.guardInbox = s.guardInbox ∧ t.reports = s.reports ∧ t.maps = s.maps ∧
    t.windows = s.windows ∧ t.buses = s.buses ∧ t.lastServed = s.lastServed ∧ t.pending = s.pending := by
  simp [beginStep]

@[simp] theorem patternDone_frame (c : PatChan) (ch : PatternChannel) (s : State) :
    let t := patternDone c ch s
    t.rstnAsserted = s.rstnAsserted ∧ t.slots = s.slots ∧ t.heldBy = s.heldBy ∧ t.patTaken = s.patTaken ∧
    t.guardTaken = s.guardTaken ∧ t.portRecs = s.portRecs ∧ t.queue = s.queue ∧ t.arrivals = s.arrivals ∧
    t.charters = s.charters ∧ t.profiles = s.profiles ∧ t.cells = s.cells ∧ t.settling = s.settling ∧
    t.patInbox = s.patInbox ∧ t.guardChans = s.guardChans ∧ t.guardInbox = s.guardInbox ∧ t.maps = s.maps ∧
    t.windows = s.windows ∧ t.buses = s.buses ∧ t.lastServed = s.lastServed ∧ t.pending = s.pending := by
  simp [patternDone]

@[simp] theorem stepEndStep_frame (c : PatChan) (s : State) :
    let t := stepEndStep c s
    t.rstnAsserted = s.rstnAsserted ∧ t.slots = s.slots ∧ t.heldBy = s.heldBy ∧ t.patTaken = s.patTaken ∧
    t.guardTaken = s.guardTaken ∧ t.portRecs = s.portRecs ∧ t.queue = s.queue ∧ t.arrivals = s.arrivals ∧
    t.charters = s.charters ∧ t.profiles = s.profiles ∧ t.settling = s.settling ∧ t.patInbox = s.patInbox ∧
    t.guardChans = s.guardChans ∧ t.guardInbox = s.guardInbox ∧ t.maps = s.maps ∧ t.windows = s.windows ∧
    t.buses = s.buses ∧ t.lastServed = s.lastServed ∧ t.pending = s.pending := by
  unfold stepEndStep
  dsimp only
  repeat' (first | split | dsimp only)
  all_goals simp

@[simp] theorem patternTick_frame (c : PatChan) (s : State) :
    let t := patternTick c s
    t.rstnAsserted = s.rstnAsserted ∧ t.slots = s.slots ∧ t.heldBy = s.heldBy ∧ t.patTaken = s.patTaken ∧
    t.guardTaken = s.guardTaken ∧ t.portRecs = s.portRecs ∧ t.queue = s.queue ∧ t.arrivals = s.arrivals ∧
    t.charters = s.charters ∧ t.profiles = s.profiles ∧ t.settling = s.settling ∧ t.patInbox = s.patInbox ∧
    t.guardChans = s.guardChans ∧ t.guardInbox = s.guardInbox ∧ t.maps = s.maps ∧ t.windows = s.windows ∧
    t.buses = s.buses ∧ t.lastServed = s.lastServed ∧ t.pending = s.pending := by
  unfold patternTick
  dsimp only
  repeat' (first | split | dsimp only)
  all_goals simp

@[simp] theorem takePatternInstr_frame (c : PatChan) (i : PatternInstr) (s : State) :
    let t := takePatternInstr c i s
    t.rstnAsserted = s.rstnAsserted ∧ t.slots = s.slots ∧ t.heldBy = s.heldBy ∧ t.patTaken = s.patTaken ∧
    t.guardTaken = s.guardTaken ∧ t.portRecs = s.portRecs ∧ t.queue = s.queue ∧ t.arrivals = s.arrivals ∧
    t.charters = s.charters ∧ t.profiles = s.profiles ∧ t.settling = s.settling ∧ t.patInbox = s.patInbox ∧
    t.guardChans = s.guardChans ∧ t.guardInbox = s.guardInbox ∧ t.reports = s.reports ∧ t.maps = s.maps ∧
    t.windows = s.windows ∧ t.buses = s.buses ∧ t.lastServed = s.lastServed ∧ t.pending = s.pending := by
  unfold takePatternInstr
  dsimp only
  repeat' (first | split | dsimp only)
  all_goals simp

@[simp] theorem takePatternFront_frame (c : PatChan) (w : PatternInstr → Bool) (s : State) :
    let t := takePatternFront c w s
    t.rstnAsserted = s.rstnAsserted ∧ t.slots = s.slots ∧ t.heldBy = s.heldBy ∧ t.patTaken = s.patTaken ∧
    t.guardTaken = s.guardTaken ∧ t.portRecs = s.portRecs ∧ t.queue = s.queue ∧ t.arrivals = s.arrivals ∧
    t.charters = s.charters ∧ t.profiles = s.profiles ∧ t.settling = s.settling ∧ t.guardChans = s.guardChans ∧
    t.guardInbox = s.guardInbox ∧ t.reports = s.reports ∧ t.maps = s.maps ∧ t.windows = s.windows ∧
    t.buses = s.buses ∧ t.lastServed = s.lastServed ∧ t.pending = s.pending := by
  unfold takePatternFront
  dsimp only
  repeat' (first | split | dsimp only)
  all_goals simp

@[simp] theorem stallEnd_frame (p : Port) (s : State) :
    let t := stallEnd p s
    t.rstnAsserted = s.rstnAsserted ∧ t.slots = s.slots ∧ t.heldBy = s.heldBy ∧ t.patTaken = s.patTaken ∧
    t.guardTaken = s.guardTaken ∧ t.portRecs = s.portRecs ∧ t.queue = s.queue ∧ t.arrivals = s.arrivals ∧
    t.charters = s.charters ∧ t.profiles = s.profiles ∧ t.cells = s.cells ∧ t.settling = s.settling ∧
    t.patChans = s.patChans ∧ t.patInbox = s.patInbox ∧ t.guardChans = s.guardChans ∧ t.guardInbox = s.guardInbox ∧
    t.reports = s.reports ∧ t.maps = s.maps ∧ t.windows = s.windows ∧ t.lastServed = s.lastServed ∧
    t.pending = s.pending := by
  unfold stallEnd
  dsimp only
  repeat' (first | split | dsimp only)
  all_goals simp

@[simp] theorem busTick_frame (p : Port) (low rose : Bool) (s : State) :
    let t := busTick p low rose s
    t.rstnAsserted = s.rstnAsserted ∧ t.slots = s.slots ∧ t.heldBy = s.heldBy ∧ t.patTaken = s.patTaken ∧
    t.guardTaken = s.guardTaken ∧ t.portRecs = s.portRecs ∧ t.queue = s.queue ∧ t.arrivals = s.arrivals ∧
    t.charters = s.charters ∧ t.profiles = s.profiles ∧ t.cells = s.cells ∧ t.settling = s.settling ∧
    t.patChans = s.patChans ∧ t.patInbox = s.patInbox ∧ t.guardChans = s.guardChans ∧ t.guardInbox = s.guardInbox ∧
    t.reports = s.reports ∧ t.maps = s.maps ∧ t.windows = s.windows ∧ t.lastServed = s.lastServed ∧
    t.pending = s.pending := by
  simp [busTick]

/-- What a tick leaves of a port's interface: the transaction is abandoned when the count has reached 26, and else
only the count changes (R168). -/
theorem busTick_bus (p q : Port) (low rose : Bool) (s : State) :
    (busTick p low rose s).bus q =
      if q = p then
        if (s.bus p).state.addressed ∧ Config.stallTicks ≤ stallAfter (s.bus p) low rose then
          { s.bus p with state := .waiting, stall := 0, acked := false }
        else { s.bus p with stall := stallAfter (s.bus p) low rose }
      else s.bus q := by
  by_cases h : q = p
  · subst h
    unfold busTick stallEnd
    simp only [State.setBus, State.bus, vget_vset_self, if_true]
    split <;> rename_i h <;> simp [h]
  · unfold busTick stallEnd
    simp only [State.setBus, State.bus, vget_vset_self, h, if_false]
    split <;> simp [vget_vset, h]


/-! The lease engine -/

@[simp] theorem takeChannel_frame (h : Handle) (pr : KindParams) (s : State) :
    let t := takeChannel h pr s
    t.rstnAsserted = s.rstnAsserted ∧ t.slots = s.slots ∧ t.heldBy = s.heldBy ∧ t.portRecs = s.portRecs ∧
    t.queue = s.queue ∧ t.arrivals = s.arrivals ∧ t.charters = s.charters ∧ t.profiles = s.profiles ∧
    t.cells = s.cells ∧ t.settling = s.settling ∧ t.patChans = s.patChans ∧ t.guardChans = s.guardChans ∧
    t.reports = s.reports ∧ t.maps = s.maps ∧ t.windows = s.windows ∧ t.buses = s.buses ∧
    t.lastServed = s.lastServed ∧ t.pending = s.pending := by
  unfold takeChannel
  dsimp only
  repeat' (first | split | dsimp only)
  all_goals simp

@[simp] theorem freeChannel_frame (pr : KindParams) (s : State) :
    let t := freeChannel pr s
    t.rstnAsserted = s.rstnAsserted ∧ t.slots = s.slots ∧ t.heldBy = s.heldBy ∧ t.portRecs = s.portRecs ∧
    t.queue = s.queue ∧ t.arrivals = s.arrivals ∧ t.charters = s.charters ∧ t.profiles = s.profiles ∧
    t.cells = s.cells ∧ t.settling = s.settling ∧ t.patChans = s.patChans ∧ t.guardChans = s.guardChans ∧
    t.reports = s.reports ∧ t.maps = s.maps ∧ t.windows = s.windows ∧ t.buses = s.buses ∧
    t.lastServed = s.lastServed ∧ t.pending = s.pending := by
  unfold freeChannel
  dsimp only
  repeat' (first | split | dsimp only)
  all_goals simp

@[simp] theorem fillSlot_frame (k : Slot) (l : Lease) (s : State) :
    let t := fillSlot k l s
    t.rstnAsserted = s.rstnAsserted ∧ t.heldBy = s.heldBy ∧ t.patTaken = s.patTaken ∧ t.guardTaken = s.guardTaken ∧
    t.portRecs = s.portRecs ∧ t.queue = s.queue ∧ t.arrivals = s.arrivals ∧ t.charters = s.charters ∧
    t.profiles = s.profiles ∧ t.cells = s.cells ∧ t.settling = s.settling ∧ t.patChans = s.patChans ∧
    t.patInbox = s.patInbox ∧ t.guardChans = s.guardChans ∧ t.guardInbox = s.guardInbox ∧ t.reports = s.reports ∧
    t.maps = s.maps ∧ t.windows = s.windows ∧ t.buses = s.buses ∧ t.lastServed = s.lastServed ∧
    t.pending = s.pending := by
  simp only [fillSlot, and_self]

@[simp] theorem claimLines_frame (k : Slot) (ls : LineSet) (s : State) :
    let t := claimLines k ls s
    t.rstnAsserted = s.rstnAsserted ∧ t.slots = s.slots ∧ t.patTaken = s.patTaken ∧ t.guardTaken = s.guardTaken ∧
    t.portRecs = s.portRecs ∧ t.queue = s.queue ∧ t.arrivals = s.arrivals ∧ t.charters = s.charters ∧
    t.profiles = s.profiles ∧ t.cells = s.cells ∧ t.settling = s.settling ∧ t.patChans = s.patChans ∧
    t.patInbox = s.patInbox ∧ t.guardChans = s.guardChans ∧ t.guardInbox = s.guardInbox ∧ t.reports = s.reports ∧
    t.maps = s.maps ∧ t.windows = s.windows ∧ t.buses = s.buses ∧ t.lastServed = s.lastServed ∧
    t.pending = s.pending := by
  simp only [claimLines, and_self]

@[simp] theorem raiseCount_frame (p : Port) (s : State) :
    let t := raiseCount p s
    t.rstnAsserted = s.rstnAsserted ∧ t.slots = s.slots ∧ t.heldBy = s.heldBy ∧ t.patTaken = s.patTaken ∧
    t.guardTaken = s.guardTaken ∧ t.queue = s.queue ∧ t.arrivals = s.arrivals ∧ t.charters = s.charters ∧
    t.profiles = s.profiles ∧ t.cells = s.cells ∧ t.settling = s.settling ∧ t.patChans = s.patChans ∧
    t.patInbox = s.patInbox ∧ t.guardChans = s.guardChans ∧ t.guardInbox = s.guardInbox ∧ t.reports = s.reports ∧
    t.maps = s.maps ∧ t.windows = s.windows ∧ t.buses = s.buses ∧ t.lastServed = s.lastServed ∧
    t.pending = s.pending := by
  simp [raiseCount]

@[simp] theorem lowerCount_frame (p : Port) (s : State) :
    let t := lowerCount p s
    t.rstnAsserted = s.rstnAsserted ∧ t.slots = s.slots ∧ t.heldBy = s.heldBy ∧ t.patTaken = s.patTaken ∧
    t.guardTaken = s.guardTaken ∧ t.queue = s.queue ∧ t.arrivals = s.arrivals ∧ t.charters = s.charters ∧
    t.profiles = s.profiles ∧ t.cells = s.cells ∧ t.settling = s.settling ∧ t.patChans = s.patChans ∧
    t.patInbox = s.patInbox ∧ t.guardChans = s.guardChans ∧ t.guardInbox = s.guardInbox ∧ t.reports = s.reports ∧
    t.maps = s.maps ∧ t.windows = s.windows ∧ t.buses = s.buses ∧ t.lastServed = s.lastServed ∧
    t.pending = s.pending := by
  simp [lowerCount]

@[simp] theorem grantInto_frame (k : Slot) (p : Port) (r : Request) (o : Option Ticket) (s : State) :
    let t := grantInto k p r o s
    t.rstnAsserted = s.rstnAsserted ∧ t.queue = s.queue ∧ t.arrivals = s.arrivals ∧ t.charters = s.charters ∧
    t.profiles = s.profiles ∧ t.settling = s.settling ∧ t.patChans = s.patChans ∧ t.guardChans = s.guardChans ∧
    t.reports = s.reports ∧ t.maps = s.maps ∧ t.windows = s.windows ∧ t.buses = s.buses ∧
    t.lastServed = s.lastServed ∧ t.pending = s.pending := by
  simp [grantInto]

@[simp] theorem endOffer_frame (k : Slot) (s : State) :
    let t := endOffer k s
    t.rstnAsserted = s.rstnAsserted ∧ t.heldBy = s.heldBy ∧ t.patTaken = s.patTaken ∧ t.guardTaken = s.guardTaken ∧
    t.portRecs = s.portRecs ∧ t.queue = s.queue ∧ t.arrivals = s.arrivals ∧ t.charters = s.charters ∧
    t.profiles = s.profiles ∧ t.cells = s.cells ∧ t.settling = s.settling ∧ t.patChans = s.patChans ∧
    t.patInbox = s.patInbox ∧ t.guardChans = s.guardChans ∧ t.guardInbox = s.guardInbox ∧ t.reports = s.reports ∧
    t.maps = s.maps ∧ t.windows = s.windows ∧ t.buses = s.buses ∧ t.lastServed = s.lastServed ∧
    t.pending = s.pending := by
  unfold endOffer
  dsimp only
  repeat' (first | split | dsimp only)
  all_goals simp

@[simp] theorem withdrawOffer_frame (k : Slot) (s : State) :
    let t := withdrawOffer k s
    t.rstnAsserted = s.rstnAsserted ∧ t.heldBy = s.heldBy ∧ t.patTaken = s.patTaken ∧ t.guardTaken = s.guardTaken ∧
    t.portRecs = s.portRecs ∧ t.queue = s.queue ∧ t.arrivals = s.arrivals ∧ t.charters = s.charters ∧
    t.profiles = s.profiles ∧ t.cells = s.cells ∧ t.settling = s.settling ∧ t.patChans = s.patChans ∧
    t.patInbox = s.patInbox ∧ t.guardChans = s.guardChans ∧ t.guardInbox = s.guardInbox ∧ t.reports = s.reports ∧
    t.windows = s.windows ∧ t.buses = s.buses ∧ t.lastServed = s.lastServed ∧ t.pending = s.pending := by
  unfold withdrawOffer
  dsimp only
  repeat' (first | split | dsimp only)
  all_goals simp

@[simp] theorem cancelOffer_frame (t : Port) (k : Slot) (s : State) :
    let t := cancelOffer t k s
    t.rstnAsserted = s.rstnAsserted ∧ t.heldBy = s.heldBy ∧ t.patTaken = s.patTaken ∧ t.guardTaken = s.guardTaken ∧
    t.portRecs = s.portRecs ∧ t.queue = s.queue ∧ t.arrivals = s.arrivals ∧ t.charters = s.charters ∧
    t.profiles = s.profiles ∧ t.cells = s.cells ∧ t.settling = s.settling ∧ t.patChans = s.patChans ∧
    t.patInbox = s.patInbox ∧ t.guardChans = s.guardChans ∧ t.guardInbox = s.guardInbox ∧ t.reports = s.reports ∧
    t.windows = s.windows ∧ t.buses = s.buses ∧ t.lastServed = s.lastServed ∧ t.pending = s.pending := by
  unfold cancelOffer
  dsimp only
  repeat' (first | split | dsimp only)
  all_goals simp

@[simp] theorem cancelOffersTo_frame (t : Port) (s : State) :
    let t := cancelOffersTo t s
    t.rstnAsserted = s.rstnAsserted ∧ t.heldBy = s.heldBy ∧ t.patTaken = s.patTaken ∧ t.guardTaken = s.guardTaken ∧
    t.portRecs = s.portRecs ∧ t.queue = s.queue ∧ t.arrivals = s.arrivals ∧ t.charters = s.charters ∧
    t.profiles = s.profiles ∧ t.cells = s.cells ∧ t.settling = s.settling ∧ t.patChans = s.patChans ∧
    t.patInbox = s.patInbox ∧ t.guardChans = s.guardChans ∧ t.guardInbox = s.guardInbox ∧ t.reports = s.reports ∧
    t.windows = s.windows ∧ t.buses = s.buses ∧ t.lastServed = s.lastServed ∧ t.pending = s.pending := by
  have h := forSlots_keeps (fun s => (s.rstnAsserted, s.heldBy, s.patTaken, s.guardTaken, s.portRecs, s.queue, s.arrivals, s.charters, s.profiles, s.cells, s.settling, s.patChans, s.patInbox, s.guardChans, s.guardInbox, s.reports, s.windows, s.buses, s.lastServed, s.pending))
    (cancelOffer t) (fun k s => by simp) s
  simp only [Prod.mk.injEq] at h
  exact h

@[simp] theorem restLines_frame (k : Slot) (ls : LineSet) (s : State) :
    let t := restLines k ls s
    t.rstnAsserted = s.rstnAsserted ∧ t.slots = s.slots ∧ t.heldBy = s.heldBy ∧ t.patTaken = s.patTaken ∧
    t.guardTaken = s.guardTaken ∧ t.portRecs = s.portRecs ∧ t.queue = s.queue ∧ t.arrivals = s.arrivals ∧
    t.charters = s.charters ∧ t.profiles = s.profiles ∧ t.patChans = s.patChans ∧ t.patInbox = s.patInbox ∧
    t.guardChans = s.guardChans ∧ t.guardInbox = s.guardInbox ∧ t.reports = s.reports ∧ t.maps = s.maps ∧
    t.windows = s.windows ∧ t.buses = s.buses ∧ t.lastServed = s.lastServed ∧ t.pending = s.pending := by
  simp [restLines]

@[simp] theorem retire_frame (k : Slot) (r : CloseReason) (s : State) :
    let t := retire k r s
    t.rstnAsserted = s.rstnAsserted ∧ t.heldBy = s.heldBy ∧ t.portRecs = s.portRecs ∧ t.queue = s.queue ∧
    t.arrivals = s.arrivals ∧ t.charters = s.charters ∧ t.profiles = s.profiles ∧ t.patChans = s.patChans ∧
    t.guardChans = s.guardChans ∧ t.reports = s.reports ∧ t.windows = s.windows ∧ t.buses = s.buses ∧
    t.lastServed = s.lastServed ∧ t.pending = s.pending := by
  unfold retire
  dsimp only
  repeat' (first | split | dsimp only)
  all_goals simp

@[simp] theorem freeRecord_frame (k : Slot) (s : State) :
    let t := freeRecord k s
    t.rstnAsserted = s.rstnAsserted ∧ t.heldBy = s.heldBy ∧ t.patTaken = s.patTaken ∧ t.guardTaken = s.guardTaken ∧
    t.queue = s.queue ∧ t.arrivals = s.arrivals ∧ t.charters = s.charters ∧ t.profiles = s.profiles ∧
    t.cells = s.cells ∧ t.settling = s.settling ∧ t.patChans = s.patChans ∧ t.patInbox = s.patInbox ∧
    t.guardChans = s.guardChans ∧ t.guardInbox = s.guardInbox ∧ t.reports = s.reports ∧ t.maps = s.maps ∧
    t.windows = s.windows ∧ t.buses = s.buses ∧ t.lastServed = s.lastServed ∧ t.pending = s.pending := by
  unfold freeRecord
  dsimp only
  repeat' (first | split | dsimp only)
  all_goals simp

@[simp] theorem tellGrace_frame (pr : KindParams) (s : State) :
    let t := tellGrace pr s
    t.rstnAsserted = s.rstnAsserted ∧ t.slots = s.slots ∧ t.heldBy = s.heldBy ∧ t.patTaken = s.patTaken ∧
    t.guardTaken = s.guardTaken ∧ t.portRecs = s.portRecs ∧ t.queue = s.queue ∧ t.arrivals = s.arrivals ∧
    t.charters = s.charters ∧ t.profiles = s.profiles ∧ t.cells = s.cells ∧ t.settling = s.settling ∧
    t.patChans = s.patChans ∧ t.guardChans = s.guardChans ∧ t.reports = s.reports ∧ t.maps = s.maps ∧
    t.windows = s.windows ∧ t.buses = s.buses ∧ t.lastServed = s.lastServed ∧ t.pending = s.pending := by
  unfold tellGrace
  dsimp only
  repeat' (first | split | dsimp only)
  all_goals simp

@[simp] theorem tellActive_frame (pr : KindParams) (s : State) :
    let t := tellActive pr s
    t.rstnAsserted = s.rstnAsserted ∧ t.slots = s.slots ∧ t.heldBy = s.heldBy ∧ t.patTaken = s.patTaken ∧
    t.guardTaken = s.guardTaken ∧ t.portRecs = s.portRecs ∧ t.queue = s.queue ∧ t.arrivals = s.arrivals ∧
    t.charters = s.charters ∧ t.profiles = s.profiles ∧ t.cells = s.cells ∧ t.settling = s.settling ∧
    t.patChans = s.patChans ∧ t.guardChans = s.guardChans ∧ t.reports = s.reports ∧ t.maps = s.maps ∧
    t.windows = s.windows ∧ t.buses = s.buses ∧ t.lastServed = s.lastServed ∧ t.pending = s.pending := by
  unfold tellActive
  dsimp only
  repeat' (first | split | dsimp only)
  all_goals simp

@[simp] theorem enterGrace_frame (k : Slot) (l : Lease) (s : State) :
    let t := enterGrace k l s
    t.rstnAsserted = s.rstnAsserted ∧ t.heldBy = s.heldBy ∧ t.patTaken = s.patTaken ∧ t.guardTaken = s.guardTaken ∧
    t.portRecs = s.portRecs ∧ t.queue = s.queue ∧ t.arrivals = s.arrivals ∧ t.charters = s.charters ∧
    t.profiles = s.profiles ∧ t.settling = s.settling ∧ t.patChans = s.patChans ∧ t.guardChans = s.guardChans ∧
    t.reports = s.reports ∧ t.maps = s.maps ∧ t.windows = s.windows ∧ t.buses = s.buses ∧
    t.lastServed = s.lastServed ∧ t.pending = s.pending := by
  simp [enterGrace]

@[simp] theorem leaveGrace_frame (k : Slot) (l : Lease) (s : State) :
    let t := leaveGrace k l s
    t.rstnAsserted = s.rstnAsserted ∧ t.heldBy = s.heldBy ∧ t.patTaken = s.patTaken ∧ t.guardTaken = s.guardTaken ∧
    t.portRecs = s.portRecs ∧ t.queue = s.queue ∧ t.arrivals = s.arrivals ∧ t.charters = s.charters ∧
    t.profiles = s.profiles ∧ t.settling = s.settling ∧ t.patChans = s.patChans ∧ t.guardChans = s.guardChans ∧
    t.reports = s.reports ∧ t.maps = s.maps ∧ t.windows = s.windows ∧ t.buses = s.buses ∧
    t.lastServed = s.lastServed ∧ t.pending = s.pending := by
  simp [leaveGrace]

@[simp] theorem removeEntry_frame (p : Port) (t : Byte) (s : State) :
    let t := removeEntry p t s
    t.rstnAsserted = s.rstnAsserted ∧ t.slots = s.slots ∧ t.heldBy = s.heldBy ∧ t.patTaken = s.patTaken ∧
    t.guardTaken = s.guardTaken ∧ t.portRecs = s.portRecs ∧ t.arrivals = s.arrivals ∧ t.charters = s.charters ∧
    t.profiles = s.profiles ∧ t.cells = s.cells ∧ t.settling = s.settling ∧ t.patChans = s.patChans ∧
    t.patInbox = s.patInbox ∧ t.guardChans = s.guardChans ∧ t.guardInbox = s.guardInbox ∧ t.reports = s.reports ∧
    t.maps = s.maps ∧ t.windows = s.windows ∧ t.buses = s.buses ∧ t.lastServed = s.lastServed ∧
    t.pending = s.pending := by
  simp only [removeEntry, and_self]

@[simp] theorem dropWaits_frame (p : Port) (s : State) :
    let t := dropWaits p s
    t.rstnAsserted = s.rstnAsserted ∧ t.slots = s.slots ∧ t.heldBy = s.heldBy ∧ t.patTaken = s.patTaken ∧
    t.guardTaken = s.guardTaken ∧ t.portRecs = s.portRecs ∧ t.arrivals = s.arrivals ∧ t.charters = s.charters ∧
    t.profiles = s.profiles ∧ t.cells = s.cells ∧ t.settling = s.settling ∧ t.patChans = s.patChans ∧
    t.patInbox = s.patInbox ∧ t.guardChans = s.guardChans ∧ t.guardInbox = s.guardInbox ∧ t.reports = s.reports ∧
    t.maps = s.maps ∧ t.windows = s.windows ∧ t.buses = s.buses ∧ t.lastServed = s.lastServed ∧
    t.pending = s.pending := by
  simp only [dropWaits, and_self]

@[simp] theorem scanGrant_frame (e : QueueEntry) (s : State) :
    let t := scanGrant e s
    t.rstnAsserted = s.rstnAsserted ∧ t.queue = s.queue ∧ t.arrivals = s.arrivals ∧ t.charters = s.charters ∧
    t.profiles = s.profiles ∧ t.settling = s.settling ∧ t.patChans = s.patChans ∧ t.guardChans = s.guardChans ∧
    t.reports = s.reports ∧ t.windows = s.windows ∧ t.buses = s.buses ∧ t.lastServed = s.lastServed ∧
    t.pending = s.pending := by
  unfold scanGrant
  dsimp only
  repeat' (first | split | dsimp only)
  all_goals simp

@[simp] theorem scan_frame (s : State) :
    let t := scan s
    t.rstnAsserted = s.rstnAsserted ∧ t.arrivals = s.arrivals ∧ t.charters = s.charters ∧ t.profiles = s.profiles ∧
    t.settling = s.settling ∧ t.patChans = s.patChans ∧ t.guardChans = s.guardChans ∧ t.reports = s.reports ∧
    t.windows = s.windows ∧ t.buses = s.buses ∧ t.lastServed = s.lastServed ∧ t.pending = s.pending := by
  have h := scanList_keeps
    (fun s => (s.rstnAsserted, s.arrivals, s.charters, s.profiles, s.settling, s.patChans, s.guardChans, s.reports, s.windows, s.buses, s.lastServed, s.pending))
    (fun _ _ _ => by simp) (fun _ _ => by simp) s.queue [] s
  simp only [Prod.mk.injEq] at h
  exact h

@[simp] theorem endStep_frame (b s : State) :
    let t := endStep b s
    t.rstnAsserted = s.rstnAsserted ∧ t.arrivals = s.arrivals ∧ t.charters = s.charters ∧ t.profiles = s.profiles ∧
    t.settling = s.settling ∧ t.patChans = s.patChans ∧ t.guardChans = s.guardChans ∧ t.reports = s.reports ∧
    t.windows = s.windows ∧ t.buses = s.buses ∧ t.lastServed = s.lastServed ∧ t.pending = s.pending := by
  unfold endStep
  simp only [restartChecks_frame]
  try split
  all_goals simp

@[simp] theorem endStepScan_frame (b s : State) :
    let t := endStepScan b s
    t.rstnAsserted = s.rstnAsserted ∧ t.arrivals = s.arrivals ∧ t.charters = s.charters ∧ t.profiles = s.profiles ∧
    t.settling = s.settling ∧ t.patChans = s.patChans ∧ t.guardChans = s.guardChans ∧ t.reports = s.reports ∧
    t.windows = s.windows ∧ t.buses = s.buses ∧ t.lastServed = s.lastServed ∧ t.pending = s.pending := by
  unfold endStepScan
  simp only [restartChecks_frame]
  try split
  all_goals simp

@[simp] theorem unholdLines_frame (k : Slot) (s : State) :
    let t := unholdLines k s
    t.rstnAsserted = s.rstnAsserted ∧ t.slots = s.slots ∧ t.patTaken = s.patTaken ∧ t.guardTaken = s.guardTaken ∧
    t.portRecs = s.portRecs ∧ t.queue = s.queue ∧ t.arrivals = s.arrivals ∧ t.charters = s.charters ∧
    t.profiles = s.profiles ∧ t.cells = s.cells ∧ t.settling = s.settling ∧ t.patChans = s.patChans ∧
    t.patInbox = s.patInbox ∧ t.guardChans = s.guardChans ∧ t.guardInbox = s.guardInbox ∧ t.reports = s.reports ∧
    t.maps = s.maps ∧ t.windows = s.windows ∧ t.buses = s.buses ∧ t.lastServed = s.lastServed ∧
    t.pending = s.pending := by
  simp only [unholdLines, and_self]

@[simp] theorem countWaits_frame (s : State) :
    let t := countWaits s
    t.rstnAsserted = s.rstnAsserted ∧ t.slots = s.slots ∧ t.heldBy = s.heldBy ∧ t.patTaken = s.patTaken ∧
    t.guardTaken = s.guardTaken ∧ t.portRecs = s.portRecs ∧ t.arrivals = s.arrivals ∧ t.charters = s.charters ∧
    t.profiles = s.profiles ∧ t.cells = s.cells ∧ t.settling = s.settling ∧ t.patChans = s.patChans ∧
    t.patInbox = s.patInbox ∧ t.guardChans = s.guardChans ∧ t.guardInbox = s.guardInbox ∧ t.reports = s.reports ∧
    t.maps = s.maps ∧ t.windows = s.windows ∧ t.buses = s.buses ∧ t.lastServed = s.lastServed ∧
    t.pending = s.pending := by
  simp only [countWaits, and_self]

@[simp] theorem waitExpiryStep_frame (p : Port) (t : Byte) (s : State) :
    let t := waitExpiryStep p t s
    t.rstnAsserted = s.rstnAsserted ∧ t.slots = s.slots ∧ t.heldBy = s.heldBy ∧ t.patTaken = s.patTaken ∧
    t.guardTaken = s.guardTaken ∧ t.portRecs = s.portRecs ∧ t.arrivals = s.arrivals ∧ t.charters = s.charters ∧
    t.profiles = s.profiles ∧ t.cells = s.cells ∧ t.settling = s.settling ∧ t.patChans = s.patChans ∧
    t.patInbox = s.patInbox ∧ t.guardChans = s.guardChans ∧ t.guardInbox = s.guardInbox ∧ t.reports = s.reports ∧
    t.windows = s.windows ∧ t.buses = s.buses ∧ t.lastServed = s.lastServed ∧ t.pending = s.pending := by
  unfold waitExpiryStep
  dsimp only
  repeat' (first | split | dsimp only)
  all_goals simp

@[simp] theorem quietEndStep_frame (p : Port) (s : State) :
    let t := quietEndStep p s
    t.rstnAsserted = s.rstnAsserted ∧ t.slots = s.slots ∧ t.heldBy = s.heldBy ∧ t.patTaken = s.patTaken ∧
    t.guardTaken = s.guardTaken ∧ t.queue = s.queue ∧ t.arrivals = s.arrivals ∧ t.charters = s.charters ∧
    t.profiles = s.profiles ∧ t.cells = s.cells ∧ t.settling = s.settling ∧ t.patChans = s.patChans ∧
    t.patInbox = s.patInbox ∧ t.guardChans = s.guardChans ∧ t.guardInbox = s.guardInbox ∧ t.reports = s.reports ∧
    t.windows = s.windows ∧ t.buses = s.buses ∧ t.lastServed = s.lastServed ∧ t.pending = s.pending := by
  unfold quietEndStep
  dsimp only
  repeat' (first | split | dsimp only)
  all_goals simp

@[simp] theorem termLowStep_frame (k : Slot) (s : State) :
    let t := termLowStep k s
    t.rstnAsserted = s.rstnAsserted ∧ t.heldBy = s.heldBy ∧ t.patTaken = s.patTaken ∧ t.guardTaken = s.guardTaken ∧
    t.portRecs = s.portRecs ∧ t.queue = s.queue ∧ t.arrivals = s.arrivals ∧ t.charters = s.charters ∧
    t.profiles = s.profiles ∧ t.cells = s.cells ∧ t.settling = s.settling ∧ t.patChans = s.patChans ∧
    t.patInbox = s.patInbox ∧ t.guardChans = s.guardChans ∧ t.guardInbox = s.guardInbox ∧ t.reports = s.reports ∧
    t.windows = s.windows ∧ t.buses = s.buses ∧ t.lastServed = s.lastServed ∧ t.pending = s.pending := by
  unfold termLowStep
  dsimp only
  repeat' (first | split | dsimp only)
  all_goals simp

@[simp] theorem termEndStep_frame (k : Slot) (s : State) :
    let t := termEndStep k s
    t.rstnAsserted = s.rstnAsserted ∧ t.heldBy = s.heldBy ∧ t.portRecs = s.portRecs ∧ t.queue = s.queue ∧
    t.arrivals = s.arrivals ∧ t.charters = s.charters ∧ t.profiles = s.profiles ∧ t.patChans = s.patChans ∧
    t.guardChans = s.guardChans ∧ t.reports = s.reports ∧ t.windows = s.windows ∧ t.buses = s.buses ∧
    t.lastServed = s.lastServed ∧ t.pending = s.pending := by
  unfold termEndStep
  dsimp only
  repeat' (first | split | dsimp only)
  all_goals simp

@[simp] theorem graceEndStep_frame (k : Slot) (s : State) :
    let t := graceEndStep k s
    t.rstnAsserted = s.rstnAsserted ∧ t.heldBy = s.heldBy ∧ t.portRecs = s.portRecs ∧ t.queue = s.queue ∧
    t.arrivals = s.arrivals ∧ t.charters = s.charters ∧ t.profiles = s.profiles ∧ t.patChans = s.patChans ∧
    t.guardChans = s.guardChans ∧ t.reports = s.reports ∧ t.windows = s.windows ∧ t.buses = s.buses ∧
    t.lastServed = s.lastServed ∧ t.pending = s.pending := by
  unfold graceEndStep
  dsimp only
  repeat' (first | split | dsimp only)
  all_goals simp

@[simp] theorem offerLapseStep_frame (k : Slot) (s : State) :
    let t := offerLapseStep k s
    t.rstnAsserted = s.rstnAsserted ∧ t.heldBy = s.heldBy ∧ t.patTaken = s.patTaken ∧ t.guardTaken = s.guardTaken ∧
    t.portRecs = s.portRecs ∧ t.queue = s.queue ∧ t.arrivals = s.arrivals ∧ t.charters = s.charters ∧
    t.profiles = s.profiles ∧ t.cells = s.cells ∧ t.settling = s.settling ∧ t.patChans = s.patChans ∧
    t.patInbox = s.patInbox ∧ t.guardChans = s.guardChans ∧ t.guardInbox = s.guardInbox ∧ t.reports = s.reports ∧
    t.windows = s.windows ∧ t.buses = s.buses ∧ t.lastServed = s.lastServed ∧ t.pending = s.pending := by
  unfold offerLapseStep
  dsimp only
  repeat' (first | split | dsimp only)
  all_goals simp

@[simp] theorem tickSlot_frame (k : Slot) (s : State) :
    let t := tickSlot k s
    t.rstnAsserted = s.rstnAsserted ∧ t.heldBy = s.heldBy ∧ t.portRecs = s.portRecs ∧ t.queue = s.queue ∧
    t.arrivals = s.arrivals ∧ t.charters = s.charters ∧ t.profiles = s.profiles ∧ t.patChans = s.patChans ∧
    t.guardChans = s.guardChans ∧ t.reports = s.reports ∧ t.windows = s.windows ∧ t.buses = s.buses ∧
    t.lastServed = s.lastServed ∧ t.pending = s.pending := by
  unfold tickSlot
  dsimp only
  repeat' (first | split | dsimp only)
  all_goals simp

@[simp] theorem closeRecord_frame (k : Slot) (l : Lease) (r : CloseReason) (s : State) :
    let t := closeRecord k l r s
    t.rstnAsserted = s.rstnAsserted ∧ t.patTaken = s.patTaken ∧ t.guardTaken = s.guardTaken ∧ t.queue = s.queue ∧
    t.arrivals = s.arrivals ∧ t.charters = s.charters ∧ t.profiles = s.profiles ∧ t.cells = s.cells ∧
    t.settling = s.settling ∧ t.patChans = s.patChans ∧ t.patInbox = s.patInbox ∧ t.guardChans = s.guardChans ∧
    t.guardInbox = s.guardInbox ∧ t.reports = s.reports ∧ t.windows = s.windows ∧ t.buses = s.buses ∧
    t.lastServed = s.lastServed ∧ t.pending = s.pending := by
  unfold closeRecord
  dsimp only
  repeat' (first | split | dsimp only)
  all_goals simp

end Sys2Proof.Machine
end

