-- ==== Sys2Proof/Laws/Views.lean ====
section
/-! SUPPORT. The named places that a shared operation leaves as they were. -/

namespace Sys2Proof.Machine

/-! Maps -/

@[simp] theorem postPort_lease (p : Port) (kd : KindSet) (s : State) (j : Slot) :
    (postPort p kd s).lease j = s.lease j := by simp [State.lease]
@[simp] theorem postPort_handle (p : Port) (kd : KindSet) (s : State) (j : Slot) :
    (postPort p kd s).handle j = s.handle j := by simp [State.handle]
@[simp] theorem postPort_cell (p : Port) (kd : KindSet) (s : State) (n' : Line) :
    (postPort p kd s).cell n' = s.cell n' := by simp [State.cell]
@[simp] theorem postPort_charter (p : Port) (kd : KindSet) (s : State) (q : Port) :
    (postPort p kd s).charter q = s.charter q := by simp [State.charter]
@[simp] theorem postPort_profile (p : Port) (kd : KindSet) (s : State) (n' : Line) :
    (postPort p kd s).profile n' = s.profile n' := by simp [State.profile]
@[simp] theorem postPort_portRec (p : Port) (kd : KindSet) (s : State) (q : Port) :
    (postPort p kd s).portRec q = s.portRec q := by simp [State.portRec]

@[simp] theorem postLine_lease (n : Line) (s : State) (j : Slot) :
    (postLine n s).lease j = s.lease j := by simp [State.lease]
@[simp] theorem postLine_handle (n : Line) (s : State) (j : Slot) :
    (postLine n s).handle j = s.handle j := by simp [State.handle]
@[simp] theorem postLine_cell (n : Line) (s : State) (n' : Line) :
    (postLine n s).cell n' = s.cell n' := by simp [State.cell]
@[simp] theorem postLine_charter (n : Line) (s : State) (q : Port) :
    (postLine n s).charter q = s.charter q := by simp [State.charter]
@[simp] theorem postLine_profile (n : Line) (s : State) (n' : Line) :
    (postLine n s).profile n' = s.profile n' := by simp [State.profile]
@[simp] theorem postLine_portRec (n : Line) (s : State) (q : Port) :
    (postLine n s).portRec q = s.portRec q := by simp [State.portRec]

@[simp] theorem postSlot_lease (p : Port) (k : Slot) (kd : KindSet) (d : Detail) (s : State) (j : Slot) :
    (postSlot p k kd d s).lease j = s.lease j := by simp [State.lease]
@[simp] theorem postSlot_handle (p : Port) (k : Slot) (kd : KindSet) (d : Detail) (s : State) (j : Slot) :
    (postSlot p k kd d s).handle j = s.handle j := by simp [State.handle]
@[simp] theorem postSlot_cell (p : Port) (k : Slot) (kd : KindSet) (d : Detail) (s : State) (n' : Line) :
    (postSlot p k kd d s).cell n' = s.cell n' := by simp [State.cell]
@[simp] theorem postSlot_charter (p : Port) (k : Slot) (kd : KindSet) (d : Detail) (s : State) (q : Port) :
    (postSlot p k kd d s).charter q = s.charter q := by simp [State.charter]
@[simp] theorem postSlot_profile (p : Port) (k : Slot) (kd : KindSet) (d : Detail) (s : State) (n' : Line) :
    (postSlot p k kd d s).profile n' = s.profile n' := by simp [State.profile]
@[simp] theorem postSlot_portRec (p : Port) (k : Slot) (kd : KindSet) (d : Detail) (s : State) (q : Port) :
    (postSlot p k kd d s).portRec q = s.portRec q := by simp [State.portRec]

@[simp] theorem postTicket_lease (e : QueueEntry) (kd : KindSet) (s : State) (j : Slot) :
    (postTicket e kd s).lease j = s.lease j := by simp [State.lease]
@[simp] theorem postTicket_handle (e : QueueEntry) (kd : KindSet) (s : State) (j : Slot) :
    (postTicket e kd s).handle j = s.handle j := by simp [State.handle]
@[simp] theorem postTicket_cell (e : QueueEntry) (kd : KindSet) (s : State) (n' : Line) :
    (postTicket e kd s).cell n' = s.cell n' := by simp [State.cell]
@[simp] theorem postTicket_charter (e : QueueEntry) (kd : KindSet) (s : State) (q : Port) :
    (postTicket e kd s).charter q = s.charter q := by simp [State.charter]
@[simp] theorem postTicket_profile (e : QueueEntry) (kd : KindSet) (s : State) (n' : Line) :
    (postTicket e kd s).profile n' = s.profile n' := by simp [State.profile]
@[simp] theorem postTicket_portRec (e : QueueEntry) (kd : KindSet) (s : State) (q : Port) :
    (postTicket e kd s).portRec q = s.portRec q := by simp [State.portRec]

@[simp] theorem dropSlotKinds_lease (p : Port) (k : Slot) (kd : KindSet) (s : State) (j : Slot) :
    (dropSlotKinds p k kd s).lease j = s.lease j := by simp [State.lease]
@[simp] theorem dropSlotKinds_handle (p : Port) (k : Slot) (kd : KindSet) (s : State) (j : Slot) :
    (dropSlotKinds p k kd s).handle j = s.handle j := by simp [State.handle]
@[simp] theorem dropSlotKinds_cell (p : Port) (k : Slot) (kd : KindSet) (s : State) (n' : Line) :
    (dropSlotKinds p k kd s).cell n' = s.cell n' := by simp [State.cell]
@[simp] theorem dropSlotKinds_charter (p : Port) (k : Slot) (kd : KindSet) (s : State) (q : Port) :
    (dropSlotKinds p k kd s).charter q = s.charter q := by simp [State.charter]
@[simp] theorem dropSlotKinds_profile (p : Port) (k : Slot) (kd : KindSet) (s : State) (n' : Line) :
    (dropSlotKinds p k kd s).profile n' = s.profile n' := by simp [State.profile]
@[simp] theorem dropSlotKinds_portRec (p : Port) (k : Slot) (kd : KindSet) (s : State) (q : Port) :
    (dropSlotKinds p k kd s).portRec q = s.portRec q := by simp [State.portRec]

/-! The line bank -/

@[simp] theorem restartChecks_lease (before s : State) (j : Slot) :
    (restartChecks before s).lease j = s.lease j := by simp [State.lease]
@[simp] theorem restartChecks_handle (before s : State) (j : Slot) :
    (restartChecks before s).handle j = s.handle j := by simp [State.handle]
@[simp] theorem restartChecks_charter (before s : State) (q : Port) :
    (restartChecks before s).charter q = s.charter q := by simp [State.charter]
@[simp] theorem restartChecks_profile (before s : State) (n' : Line) :
    (restartChecks before s).profile n' = s.profile n' := by simp [State.profile]
@[simp] theorem restartChecks_map (before s : State) (q : Port) :
    (restartChecks before s).map q = s.map q := by simp [State.map]
@[simp] theorem restartChecks_portRec (before s : State) (q : Port) :
    (restartChecks before s).portRec q = s.portRec q := by simp [State.portRec]

@[simp] theorem restartLines_lease (ls : LineSet) (s : State) (j : Slot) :
    (restartLines ls s).lease j = s.lease j := by simp [State.lease]
@[simp] theorem restartLines_handle (ls : LineSet) (s : State) (j : Slot) :
    (restartLines ls s).handle j = s.handle j := by simp [State.handle]
@[simp] theorem restartLines_charter (ls : LineSet) (s : State) (q : Port) :
    (restartLines ls s).charter q = s.charter q := by simp [State.charter]
@[simp] theorem restartLines_profile (ls : LineSet) (s : State) (n' : Line) :
    (restartLines ls s).profile n' = s.profile n' := by simp [State.profile]
@[simp] theorem restartLines_map (ls : LineSet) (s : State) (q : Port) :
    (restartLines ls s).map q = s.map q := by simp [State.map]
@[simp] theorem restartLines_portRec (ls : LineSet) (s : State) (q : Port) :
    (restartLines ls s).portRec q = s.portRec q := by simp [State.portRec]

@[simp] theorem applyLevels_lease (h : Handle) (may : Lease → Bool) (lv : Line → Level) (s : State) (j : Slot) :
    (applyLevels h may lv s).lease j = s.lease j := by simp [State.lease]
@[simp] theorem applyLevels_handle (h : Handle) (may : Lease → Bool) (lv : Line → Level) (s : State) (j : Slot) :
    (applyLevels h may lv s).handle j = s.handle j := by simp [State.handle]
@[simp] theorem applyLevels_charter (h : Handle) (may : Lease → Bool) (lv : Line → Level) (s : State) (q : Port) :
    (applyLevels h may lv s).charter q = s.charter q := by simp [State.charter]
@[simp] theorem applyLevels_profile (h : Handle) (may : Lease → Bool) (lv : Line → Level) (s : State) (n' : Line) :
    (applyLevels h may lv s).profile n' = s.profile n' := by simp [State.profile]
@[simp] theorem applyLevels_map (h : Handle) (may : Lease → Bool) (lv : Line → Level) (s : State) (q : Port) :
    (applyLevels h may lv s).map q = s.map q := by simp [State.map]
@[simp] theorem applyLevels_portRec (h : Handle) (may : Lease → Bool) (lv : Line → Level) (s : State) (q : Port) :
    (applyLevels h may lv s).portRec q = s.portRec q := by simp [State.portRec]

@[simp] theorem writeLevels_lease (ls : LineSet) (lv : Line → Option Level) (s : State) (j : Slot) :
    (writeLevels ls lv s).lease j = s.lease j := by simp [State.lease]
@[simp] theorem writeLevels_handle (ls : LineSet) (lv : Line → Option Level) (s : State) (j : Slot) :
    (writeLevels ls lv s).handle j = s.handle j := by simp [State.handle]
@[simp] theorem writeLevels_charter (ls : LineSet) (lv : Line → Option Level) (s : State) (q : Port) :
    (writeLevels ls lv s).charter q = s.charter q := by simp [State.charter]
@[simp] theorem writeLevels_profile (ls : LineSet) (lv : Line → Option Level) (s : State) (n' : Line) :
    (writeLevels ls lv s).profile n' = s.profile n' := by simp [State.profile]
@[simp] theorem writeLevels_map (ls : LineSet) (lv : Line → Option Level) (s : State) (q : Port) :
    (writeLevels ls lv s).map q = s.map q := by simp [State.map]
@[simp] theorem writeLevels_portRec (ls : LineSet) (lv : Line → Option Level) (s : State) (q : Port) :
    (writeLevels ls lv s).portRec q = s.portRec q := by simp [State.portRec]

@[simp] theorem settleEnd_lease (k : Slot) (s : State) (j : Slot) :
    (settleEnd k s).lease j = s.lease j := by simp [State.lease]
@[simp] theorem settleEnd_handle (k : Slot) (s : State) (j : Slot) :
    (settleEnd k s).handle j = s.handle j := by simp [State.handle]
@[simp] theorem settleEnd_cell (k : Slot) (s : State) (n' : Line) :
    (settleEnd k s).cell n' = s.cell n' := by simp [State.cell]
@[simp] theorem settleEnd_charter (k : Slot) (s : State) (q : Port) :
    (settleEnd k s).charter q = s.charter q := by simp [State.charter]
@[simp] theorem settleEnd_profile (k : Slot) (s : State) (n' : Line) :
    (settleEnd k s).profile n' = s.profile n' := by simp [State.profile]
@[simp] theorem settleEnd_map (k : Slot) (s : State) (q : Port) :
    (settleEnd k s).map q = s.map q := by simp [State.map]
@[simp] theorem settleEnd_portRec (k : Slot) (s : State) (q : Port) :
    (settleEnd k s).portRec q = s.portRec q := by simp [State.portRec]

@[simp] theorem settleTick_lease (k : Slot) (s : State) (j : Slot) :
    (settleTick k s).lease j = s.lease j := by simp [State.lease]
@[simp] theorem settleTick_handle (k : Slot) (s : State) (j : Slot) :
    (settleTick k s).handle j = s.handle j := by simp [State.handle]
@[simp] theorem settleTick_charter (k : Slot) (s : State) (q : Port) :
    (settleTick k s).charter q = s.charter q := by simp [State.charter]
@[simp] theorem settleTick_profile (k : Slot) (s : State) (n' : Line) :
    (settleTick k s).profile n' = s.profile n' := by simp [State.profile]
@[simp] theorem settleTick_map (k : Slot) (s : State) (q : Port) :
    (settleTick k s).map q = s.map q := by simp [State.map]
@[simp] theorem settleTick_portRec (k : Slot) (s : State) (q : Port) :
    (settleTick k s).portRec q = s.portRec q := by simp [State.portRec]

@[simp] theorem driveFaultEnd_lease (n : Line) (s : State) (j : Slot) :
    (driveFaultEnd n s).lease j = s.lease j := by simp [State.lease]
@[simp] theorem driveFaultEnd_handle (n : Line) (s : State) (j : Slot) :
    (driveFaultEnd n s).handle j = s.handle j := by simp [State.handle]
@[simp] theorem driveFaultEnd_charter (n : Line) (s : State) (q : Port) :
    (driveFaultEnd n s).charter q = s.charter q := by simp [State.charter]
@[simp] theorem driveFaultEnd_map (n : Line) (s : State) (q : Port) :
    (driveFaultEnd n s).map q = s.map q := by simp [State.map]
@[simp] theorem driveFaultEnd_portRec (n : Line) (s : State) (q : Port) :
    (driveFaultEnd n s).portRec q = s.portRec q := by simp [State.portRec]

/-! The guard monitor -/

@[simp] theorem guardSees_lease (n : Line) (g : GuardChan) (s : State) (j : Slot) :
    (guardSees n g s).lease j = s.lease j := by simp [State.lease]
@[simp] theorem guardSees_handle (n : Line) (g : GuardChan) (s : State) (j : Slot) :
    (guardSees n g s).handle j = s.handle j := by simp [State.handle]
@[simp] theorem guardSees_cell (n : Line) (g : GuardChan) (s : State) (n' : Line) :
    (guardSees n g s).cell n' = s.cell n' := by simp [State.cell]
@[simp] theorem guardSees_charter (n : Line) (g : GuardChan) (s : State) (q : Port) :
    (guardSees n g s).charter q = s.charter q := by simp [State.charter]
@[simp] theorem guardSees_profile (n : Line) (g : GuardChan) (s : State) (n' : Line) :
    (guardSees n g s).profile n' = s.profile n' := by simp [State.profile]
@[simp] theorem guardSees_map (n : Line) (g : GuardChan) (s : State) (q : Port) :
    (guardSees n g s).map q = s.map q := by simp [State.map]
@[simp] theorem guardSees_portRec (n : Line) (g : GuardChan) (s : State) (q : Port) :
    (guardSees n g s).portRec q = s.portRec q := by simp [State.portRec]

@[simp] theorem tellGuards_lease (n : Line) (s : State) (j : Slot) :
    (tellGuards n s).lease j = s.lease j := by simp [State.lease]
@[simp] theorem tellGuards_handle (n : Line) (s : State) (j : Slot) :
    (tellGuards n s).handle j = s.handle j := by simp [State.handle]
@[simp] theorem tellGuards_cell (n : Line) (s : State) (n' : Line) :
    (tellGuards n s).cell n' = s.cell n' := by simp [State.cell]
@[simp] theorem tellGuards_charter (n : Line) (s : State) (q : Port) :
    (tellGuards n s).charter q = s.charter q := by simp [State.charter]
@[simp] theorem tellGuards_profile (n : Line) (s : State) (n' : Line) :
    (tellGuards n s).profile n' = s.profile n' := by simp [State.profile]
@[simp] theorem tellGuards_map (n : Line) (s : State) (q : Port) :
    (tellGuards n s).map q = s.map q := by simp [State.map]
@[simp] theorem tellGuards_portRec (n : Line) (s : State) (q : Port) :
    (tellGuards n s).portRec q = s.portRec q := by simp [State.portRec]

@[simp] theorem sendEdge_lease (n : Line) (s : State) (j : Slot) :
    (sendEdge n s).lease j = s.lease j := by simp [State.lease]
@[simp] theorem sendEdge_handle (n : Line) (s : State) (j : Slot) :
    (sendEdge n s).handle j = s.handle j := by simp [State.handle]
@[simp] theorem sendEdge_cell (n : Line) (s : State) (n' : Line) :
    (sendEdge n s).cell n' = s.cell n' := by simp [State.cell]
@[simp] theorem sendEdge_charter (n : Line) (s : State) (q : Port) :
    (sendEdge n s).charter q = s.charter q := by simp [State.charter]
@[simp] theorem sendEdge_profile (n : Line) (s : State) (n' : Line) :
    (sendEdge n s).profile n' = s.profile n' := by simp [State.profile]
@[simp] theorem sendEdge_map (n : Line) (s : State) (q : Port) :
    (sendEdge n s).map q = s.map q := by simp [State.map]
@[simp] theorem sendEdge_portRec (n : Line) (s : State) (q : Port) :
    (sendEdge n s).portRec q = s.portRec q := by simp [State.portRec]

@[simp] theorem debouncedTo_lease (n : Line) (v : Level) (s : State) (j : Slot) :
    (debouncedTo n v s).lease j = s.lease j := by simp [State.lease]
@[simp] theorem debouncedTo_handle (n : Line) (v : Level) (s : State) (j : Slot) :
    (debouncedTo n v s).handle j = s.handle j := by simp [State.handle]
@[simp] theorem debouncedTo_charter (n : Line) (v : Level) (s : State) (q : Port) :
    (debouncedTo n v s).charter q = s.charter q := by simp [State.charter]
@[simp] theorem debouncedTo_profile (n : Line) (v : Level) (s : State) (n' : Line) :
    (debouncedTo n v s).profile n' = s.profile n' := by simp [State.profile]
@[simp] theorem debouncedTo_map (n : Line) (v : Level) (s : State) (q : Port) :
    (debouncedTo n v s).map q = s.map q := by simp [State.map]
@[simp] theorem debouncedTo_portRec (n : Line) (v : Level) (s : State) (q : Port) :
    (debouncedTo n v s).portRec q = s.portRec q := by simp [State.portRec]

@[simp] theorem debounceSample_lease (n : Line) (v : Level) (s : State) (j : Slot) :
    (debounceSample n v s).lease j = s.lease j := by simp [State.lease]
@[simp] theorem debounceSample_handle (n : Line) (v : Level) (s : State) (j : Slot) :
    (debounceSample n v s).handle j = s.handle j := by simp [State.handle]
@[simp] theorem debounceSample_charter (n : Line) (v : Level) (s : State) (q : Port) :
    (debounceSample n v s).charter q = s.charter q := by simp [State.charter]
@[simp] theorem debounceSample_profile (n : Line) (v : Level) (s : State) (n' : Line) :
    (debounceSample n v s).profile n' = s.profile n' := by simp [State.profile]
@[simp] theorem debounceSample_map (n : Line) (v : Level) (s : State) (q : Port) :
    (debounceSample n v s).map q = s.map q := by simp [State.map]
@[simp] theorem debounceSample_portRec (n : Line) (v : Level) (s : State) (q : Port) :
    (debounceSample n v s).portRec q = s.portRec q := by simp [State.portRec]

@[simp] theorem compareSample_lease (n : Line) (v : Level) (s : State) (j : Slot) :
    (compareSample n v s).lease j = s.lease j := by simp [State.lease]
@[simp] theorem compareSample_handle (n : Line) (v : Level) (s : State) (j : Slot) :
    (compareSample n v s).handle j = s.handle j := by simp [State.handle]
@[simp] theorem compareSample_charter (n : Line) (v : Level) (s : State) (q : Port) :
    (compareSample n v s).charter q = s.charter q := by simp [State.charter]
@[simp] theorem compareSample_map (n : Line) (v : Level) (s : State) (q : Port) :
    (compareSample n v s).map q = s.map q := by simp [State.map]
@[simp] theorem compareSample_portRec (n : Line) (v : Level) (s : State) (q : Port) :
    (compareSample n v s).portRec q = s.portRec q := by simp [State.portRec]

@[simp] theorem sendAction_lease (ch : GuardChannel) (v : Action → Level) (s : State) (j : Slot) :
    (sendAction ch v s).lease j = s.lease j := by simp [State.lease]
@[simp] theorem sendAction_handle (ch : GuardChannel) (v : Action → Level) (s : State) (j : Slot) :
    (sendAction ch v s).handle j = s.handle j := by simp [State.handle]
@[simp] theorem sendAction_charter (ch : GuardChannel) (v : Action → Level) (s : State) (q : Port) :
    (sendAction ch v s).charter q = s.charter q := by simp [State.charter]
@[simp] theorem sendAction_profile (ch : GuardChannel) (v : Action → Level) (s : State) (n' : Line) :
    (sendAction ch v s).profile n' = s.profile n' := by simp [State.profile]
@[simp] theorem sendAction_map (ch : GuardChannel) (v : Action → Level) (s : State) (q : Port) :
    (sendAction ch v s).map q = s.map q := by simp [State.map]
@[simp] theorem sendAction_portRec (ch : GuardChannel) (v : Action → Level) (s : State) (q : Port) :
    (sendAction ch v s).portRec q = s.portRec q := by simp [State.portRec]

@[simp] theorem guardFireEnd_lease (g : GuardChan) (s : State) (j : Slot) :
    (guardFireEnd g s).lease j = s.lease j := by simp [State.lease]
@[simp] theorem guardFireEnd_handle (g : GuardChan) (s : State) (j : Slot) :
    (guardFireEnd g s).handle j = s.handle j := by simp [State.handle]
@[simp] theorem guardFireEnd_charter (g : GuardChan) (s : State) (q : Port) :
    (guardFireEnd g s).charter q = s.charter q := by simp [State.charter]
@[simp] theorem guardFireEnd_profile (g : GuardChan) (s : State) (n' : Line) :
    (guardFireEnd g s).profile n' = s.profile n' := by simp [State.profile]
@[simp] theorem guardFireEnd_map (g : GuardChan) (s : State) (q : Port) :
    (guardFireEnd g s).map q = s.map q := by simp [State.map]
@[simp] theorem guardFireEnd_portRec (g : GuardChan) (s : State) (q : Port) :
    (guardFireEnd g s).portRec q = s.portRec q := by simp [State.portRec]

@[simp] theorem pulseEndStep_lease (g : GuardChan) (s : State) (j : Slot) :
    (pulseEndStep g s).lease j = s.lease j := by simp [State.lease]
@[simp] theorem pulseEndStep_handle (g : GuardChan) (s : State) (j : Slot) :
    (pulseEndStep g s).handle j = s.handle j := by simp [State.handle]
@[simp] theorem pulseEndStep_charter (g : GuardChan) (s : State) (q : Port) :
    (pulseEndStep g s).charter q = s.charter q := by simp [State.charter]
@[simp] theorem pulseEndStep_profile (g : GuardChan) (s : State) (n' : Line) :
    (pulseEndStep g s).profile n' = s.profile n' := by simp [State.profile]
@[simp] theorem pulseEndStep_map (g : GuardChan) (s : State) (q : Port) :
    (pulseEndStep g s).map q = s.map q := by simp [State.map]
@[simp] theorem pulseEndStep_portRec (g : GuardChan) (s : State) (q : Port) :
    (pulseEndStep g s).portRec q = s.portRec q := by simp [State.portRec]

@[simp] theorem guardTick_lease (g : GuardChan) (s : State) (j : Slot) :
    (guardTick g s).lease j = s.lease j := by simp [State.lease]
@[simp] theorem guardTick_handle (g : GuardChan) (s : State) (j : Slot) :
    (guardTick g s).handle j = s.handle j := by simp [State.handle]
@[simp] theorem guardTick_charter (g : GuardChan) (s : State) (q : Port) :
    (guardTick g s).charter q = s.charter q := by simp [State.charter]
@[simp] theorem guardTick_profile (g : GuardChan) (s : State) (n' : Line) :
    (guardTick g s).profile n' = s.profile n' := by simp [State.profile]
@[simp] theorem guardTick_map (g : GuardChan) (s : State) (q : Port) :
    (guardTick g s).map q = s.map q := by simp [State.map]
@[simp] theorem guardTick_portRec (g : GuardChan) (s : State) (q : Port) :
    (guardTick g s).portRec q = s.portRec q := by simp [State.portRec]

@[simp] theorem leaveFor_lease (g : GuardChan) (ch : GuardChannel) (nx : Option GuardChannel) (s : State) (j : Slot) :
    (leaveFor g ch nx s).lease j = s.lease j := by simp [State.lease]
@[simp] theorem leaveFor_handle (g : GuardChan) (ch : GuardChannel) (nx : Option GuardChannel) (s : State) (j : Slot) :
    (leaveFor g ch nx s).handle j = s.handle j := by simp [State.handle]
@[simp] theorem leaveFor_charter (g : GuardChan) (ch : GuardChannel) (nx : Option GuardChannel) (s : State) (q : Port) :
    (leaveFor g ch nx s).charter q = s.charter q := by simp [State.charter]
@[simp] theorem leaveFor_profile (g : GuardChan) (ch : GuardChannel) (nx : Option GuardChannel) (s : State) (n' : Line) :
    (leaveFor g ch nx s).profile n' = s.profile n' := by simp [State.profile]
@[simp] theorem leaveFor_map (g : GuardChan) (ch : GuardChannel) (nx : Option GuardChannel) (s : State) (q : Port) :
    (leaveFor g ch nx s).map q = s.map q := by simp [State.map]
@[simp] theorem leaveFor_portRec (g : GuardChan) (ch : GuardChannel) (nx : Option GuardChannel) (s : State) (q : Port) :
    (leaveFor g ch nx s).portRec q = s.portRec q := by simp [State.portRec]

@[simp] theorem takeGuardInstr_lease (g : GuardChan) (i : GuardInstr) (s : State) (j : Slot) :
    (takeGuardInstr g i s).lease j = s.lease j := by simp [State.lease]
@[simp] theorem takeGuardInstr_handle (g : GuardChan) (i : GuardInstr) (s : State) (j : Slot) :
    (takeGuardInstr g i s).handle j = s.handle j := by simp [State.handle]
@[simp] theorem takeGuardInstr_charter (g : GuardChan) (i : GuardInstr) (s : State) (q : Port) :
    (takeGuardInstr g i s).charter q = s.charter q := by simp [State.charter]
@[simp] theorem takeGuardInstr_profile (g : GuardChan) (i : GuardInstr) (s : State) (n' : Line) :
    (takeGuardInstr g i s).profile n' = s.profile n' := by simp [State.profile]
@[simp] theorem takeGuardInstr_map (g : GuardChan) (i : GuardInstr) (s : State) (q : Port) :
    (takeGuardInstr g i s).map q = s.map q := by simp [State.map]
@[simp] theorem takeGuardInstr_portRec (g : GuardChan) (i : GuardInstr) (s : State) (q : Port) :
    (takeGuardInstr g i s).portRec q = s.portRec q := by simp [State.portRec]

@[simp] theorem takeGuardFront_lease (g : GuardChan) (w : GuardInstr → Bool) (s : State) (j : Slot) :
    (takeGuardFront g w s).lease j = s.lease j := by simp [State.lease]
@[simp] theorem takeGuardFront_handle (g : GuardChan) (w : GuardInstr → Bool) (s : State) (j : Slot) :
    (takeGuardFront g w s).handle j = s.handle j := by simp [State.handle]
@[simp] theorem takeGuardFront_charter (g : GuardChan) (w : GuardInstr → Bool) (s : State) (q : Port) :
    (takeGuardFront g w s).charter q = s.charter q := by simp [State.charter]
@[simp] theorem takeGuardFront_profile (g : GuardChan) (w : GuardInstr → Bool) (s : State) (n' : Line) :
    (takeGuardFront g w s).profile n' = s.profile n' := by simp [State.profile]
@[simp] theorem takeGuardFront_map (g : GuardChan) (w : GuardInstr → Bool) (s : State) (q : Port) :
    (takeGuardFront g w s).map q = s.map q := by simp [State.map]
@[simp] theorem takeGuardFront_portRec (g : GuardChan) (w : GuardInstr → Bool) (s : State) (q : Port) :
    (takeGuardFront g w s).portRec q = s.portRec q := by simp [State.portRec]

/-! The pattern sequencer -/

@[simp] theorem sendStep_lease (ch : PatternChannel) (s : State) (j : Slot) :
    (sendStep ch s).lease j = s.lease j := by simp [State.lease]
@[simp] theorem sendStep_handle (ch : PatternChannel) (s : State) (j : Slot) :
    (sendStep ch s).handle j = s.handle j := by simp [State.handle]
@[simp] theorem sendStep_charter (ch : PatternChannel) (s : State) (q : Port) :
    (sendStep ch s).charter q = s.charter q := by simp [State.charter]
@[simp] theorem sendStep_profile (ch : PatternChannel) (s : State) (n' : Line) :
    (sendStep ch s).profile n' = s.profile n' := by simp [State.profile]
@[simp] theorem sendStep_map (ch : PatternChannel) (s : State) (q : Port) :
    (sendStep ch s).map q = s.map q := by simp [State.map]
@[simp] theorem sendStep_portRec (ch : PatternChannel) (s : State) (q : Port) :
    (sendStep ch s).portRec q = s.portRec q := by simp [State.portRec]

@[simp] theorem beginStep_lease (c : PatChan) (ch : PatternChannel) (i : Nat) (left : Option Nat) (s : State) (j : Slot) :
    (beginStep c ch i left s).lease j = s.lease j := by simp [State.lease]
@[simp] theorem beginStep_handle (c : PatChan) (ch : PatternChannel) (i : Nat) (left : Option Nat) (s : State) (j : Slot) :
    (beginStep c ch i left s).handle j = s.handle j := by simp [State.handle]
@[simp] theorem beginStep_charter (c : PatChan) (ch : PatternChannel) (i : Nat) (left : Option Nat) (s : State) (q : Port) :
    (beginStep c ch i left s).charter q = s.charter q := by simp [State.charter]
@[simp] theorem beginStep_profile (c : PatChan) (ch : PatternChannel) (i : Nat) (left : Option Nat) (s : State) (n' : Line) :
    (beginStep c ch i left s).profile n' = s.profile n' := by simp [State.profile]
@[simp] theorem beginStep_map (c : PatChan) (ch : PatternChannel) (i : Nat) (left : Option Nat) (s : State) (q : Port) :
    (beginStep c ch i left s).map q = s.map q := by simp [State.map]
@[simp] theorem beginStep_portRec (c : PatChan) (ch : PatternChannel) (i : Nat) (left : Option Nat) (s : State) (q : Port) :
    (beginStep c ch i left s).portRec q = s.portRec q := by simp [State.portRec]

@[simp] theorem patternDone_lease (c : PatChan) (ch : PatternChannel) (s : State) (j : Slot) :
    (patternDone c ch s).lease j = s.lease j := by simp [State.lease]
@[simp] theorem patternDone_handle (c : PatChan) (ch : PatternChannel) (s : State) (j : Slot) :
    (patternDone c ch s).handle j = s.handle j := by simp [State.handle]
@[simp] theorem patternDone_cell (c : PatChan) (ch : PatternChannel) (s : State) (n' : Line) :
    (patternDone c ch s).cell n' = s.cell n' := by simp [State.cell]
@[simp] theorem patternDone_charter (c : PatChan) (ch : PatternChannel) (s : State) (q : Port) :
    (patternDone c ch s).charter q = s.charter q := by simp [State.charter]
@[simp] theorem patternDone_profile (c : PatChan) (ch : PatternChannel) (s : State) (n' : Line) :
    (patternDone c ch s).profile n' = s.profile n' := by simp [State.profile]
@[simp] theorem patternDone_map (c : PatChan) (ch : PatternChannel) (s : State) (q : Port) :
    (patternDone c ch s).map q = s.map q := by simp [State.map]
@[simp] theorem patternDone_portRec (c : PatChan) (ch : PatternChannel) (s : State) (q : Port) :
    (patternDone c ch s).portRec q = s.portRec q := by simp [State.portRec]

@[simp] theorem stepEndStep_lease (c : PatChan) (s : State) (j : Slot) :
    (stepEndStep c s).lease j = s.lease j := by simp [State.lease]
@[simp] theorem stepEndStep_handle (c : PatChan) (s : State) (j : Slot) :
    (stepEndStep c s).handle j = s.handle j := by simp [State.handle]
@[simp] theorem stepEndStep_charter (c : PatChan) (s : State) (q : Port) :
    (stepEndStep c s).charter q = s.charter q := by simp [State.charter]
@[simp] theorem stepEndStep_profile (c : PatChan) (s : State) (n' : Line) :
    (stepEndStep c s).profile n' = s.profile n' := by simp [State.profile]
@[simp] theorem stepEndStep_map (c : PatChan) (s : State) (q : Port) :
    (stepEndStep c s).map q = s.map q := by simp [State.map]
@[simp] theorem stepEndStep_portRec (c : PatChan) (s : State) (q : Port) :
    (stepEndStep c s).portRec q = s.portRec q := by simp [State.portRec]

@[simp] theorem patternTick_lease (c : PatChan) (s : State) (j : Slot) :
    (patternTick c s).lease j = s.lease j := by simp [State.lease]
@[simp] theorem patternTick_handle (c : PatChan) (s : State) (j : Slot) :
    (patternTick c s).handle j = s.handle j := by simp [State.handle]
@[simp] theorem patternTick_charter (c : PatChan) (s : State) (q : Port) :
    (patternTick c s).charter q = s.charter q := by simp [State.charter]
@[simp] theorem patternTick_profile (c : PatChan) (s : State) (n' : Line) :
    (patternTick c s).profile n' = s.profile n' := by simp [State.profile]
@[simp] theorem patternTick_map (c : PatChan) (s : State) (q : Port) :
    (patternTick c s).map q = s.map q := by simp [State.map]
@[simp] theorem patternTick_portRec (c : PatChan) (s : State) (q : Port) :
    (patternTick c s).portRec q = s.portRec q := by simp [State.portRec]

@[simp] theorem takePatternInstr_lease (c : PatChan) (i : PatternInstr) (s : State) (j : Slot) :
    (takePatternInstr c i s).lease j = s.lease j := by simp [State.lease]
@[simp] theorem takePatternInstr_handle (c : PatChan) (i : PatternInstr) (s : State) (j : Slot) :
    (takePatternInstr c i s).handle j = s.handle j := by simp [State.handle]
@[simp] theorem takePatternInstr_charter (c : PatChan) (i : PatternInstr) (s : State) (q : Port) :
    (takePatternInstr c i s).charter q = s.charter q := by simp [State.charter]
@[simp] theorem takePatternInstr_profile (c : PatChan) (i : PatternInstr) (s : State) (n' : Line) :
    (takePatternInstr c i s).profile n' = s.profile n' := by simp [State.profile]
@[simp] theorem takePatternInstr_map (c : PatChan) (i : PatternInstr) (s : State) (q : Port) :
    (takePatternInstr c i s).map q = s.map q := by simp [State.map]
@[simp] theorem takePatternInstr_portRec (c : PatChan) (i : PatternInstr) (s : State) (q : Port) :
    (takePatternInstr c i s).portRec q = s.portRec q := by simp [State.portRec]

@[simp] theorem takePatternFront_lease (c : PatChan) (w : PatternInstr → Bool) (s : State) (j : Slot) :
    (takePatternFront c w s).lease j = s.lease j := by simp [State.lease]
@[simp] theorem takePatternFront_handle (c : PatChan) (w : PatternInstr → Bool) (s : State) (j : Slot) :
    (takePatternFront c w s).handle j = s.handle j := by simp [State.handle]
@[simp] theorem takePatternFront_charter (c : PatChan) (w : PatternInstr → Bool) (s : State) (q : Port) :
    (takePatternFront c w s).charter q = s.charter q := by simp [State.charter]
@[simp] theorem takePatternFront_profile (c : PatChan) (w : PatternInstr → Bool) (s : State) (n' : Line) :
    (takePatternFront c w s).profile n' = s.profile n' := by simp [State.profile]
@[simp] theorem takePatternFront_map (c : PatChan) (w : PatternInstr → Bool) (s : State) (q : Port) :
    (takePatternFront c w s).map q = s.map q := by simp [State.map]
@[simp] theorem takePatternFront_portRec (c : PatChan) (w : PatternInstr → Bool) (s : State) (q : Port) :
    (takePatternFront c w s).portRec q = s.portRec q := by simp [State.portRec]

@[simp] theorem stallEnd_lease (p : Port) (s : State) (j : Slot) :
    (stallEnd p s).lease j = s.lease j := by simp [State.lease]
@[simp] theorem stallEnd_handle (p : Port) (s : State) (j : Slot) :
    (stallEnd p s).handle j = s.handle j := by simp [State.handle]
@[simp] theorem stallEnd_cell (p : Port) (s : State) (n' : Line) :
    (stallEnd p s).cell n' = s.cell n' := by simp [State.cell]
@[simp] theorem stallEnd_charter (p : Port) (s : State) (q : Port) :
    (stallEnd p s).charter q = s.charter q := by simp [State.charter]
@[simp] theorem stallEnd_profile (p : Port) (s : State) (n' : Line) :
    (stallEnd p s).profile n' = s.profile n' := by simp [State.profile]
@[simp] theorem stallEnd_map (p : Port) (s : State) (q : Port) :
    (stallEnd p s).map q = s.map q := by simp [State.map]
@[simp] theorem stallEnd_portRec (p : Port) (s : State) (q : Port) :
    (stallEnd p s).portRec q = s.portRec q := by simp [State.portRec]

@[simp] theorem busTick_lease (p : Port) (low rose : Bool) (s : State) (j : Slot) :
    (busTick p low rose s).lease j = s.lease j := by simp [State.lease]
@[simp] theorem busTick_handle (p : Port) (low rose : Bool) (s : State) (j : Slot) :
    (busTick p low rose s).handle j = s.handle j := by simp [State.handle]
@[simp] theorem busTick_cell (p : Port) (low rose : Bool) (s : State) (n' : Line) :
    (busTick p low rose s).cell n' = s.cell n' := by simp [State.cell]
@[simp] theorem busTick_charter (p : Port) (low rose : Bool) (s : State) (q : Port) :
    (busTick p low rose s).charter q = s.charter q := by simp [State.charter]
@[simp] theorem busTick_profile (p : Port) (low rose : Bool) (s : State) (n' : Line) :
    (busTick p low rose s).profile n' = s.profile n' := by simp [State.profile]
@[simp] theorem busTick_map (p : Port) (low rose : Bool) (s : State) (q : Port) :
    (busTick p low rose s).map q = s.map q := by simp [State.map]
@[simp] theorem busTick_portRec (p : Port) (low rose : Bool) (s : State) (q : Port) :
    (busTick p low rose s).portRec q = s.portRec q := by simp [State.portRec]

/-! The lease engine -/

@[simp] theorem takeChannel_lease (h : Handle) (pr : KindParams) (s : State) (j : Slot) :
    (takeChannel h pr s).lease j = s.lease j := by simp [State.lease]
@[simp] theorem takeChannel_handle (h : Handle) (pr : KindParams) (s : State) (j : Slot) :
    (takeChannel h pr s).handle j = s.handle j := by simp [State.handle]
@[simp] theorem takeChannel_cell (h : Handle) (pr : KindParams) (s : State) (n' : Line) :
    (takeChannel h pr s).cell n' = s.cell n' := by simp [State.cell]
@[simp] theorem takeChannel_charter (h : Handle) (pr : KindParams) (s : State) (q : Port) :
    (takeChannel h pr s).charter q = s.charter q := by simp [State.charter]
@[simp] theorem takeChannel_profile (h : Handle) (pr : KindParams) (s : State) (n' : Line) :
    (takeChannel h pr s).profile n' = s.profile n' := by simp [State.profile]
@[simp] theorem takeChannel_map (h : Handle) (pr : KindParams) (s : State) (q : Port) :
    (takeChannel h pr s).map q = s.map q := by simp [State.map]
@[simp] theorem takeChannel_portRec (h : Handle) (pr : KindParams) (s : State) (q : Port) :
    (takeChannel h pr s).portRec q = s.portRec q := by simp [State.portRec]

@[simp] theorem freeChannel_lease (pr : KindParams) (s : State) (j : Slot) :
    (freeChannel pr s).lease j = s.lease j := by simp [State.lease]
@[simp] theorem freeChannel_handle (pr : KindParams) (s : State) (j : Slot) :
    (freeChannel pr s).handle j = s.handle j := by simp [State.handle]
@[simp] theorem freeChannel_cell (pr : KindParams) (s : State) (n' : Line) :
    (freeChannel pr s).cell n' = s.cell n' := by simp [State.cell]
@[simp] theorem freeChannel_charter (pr : KindParams) (s : State) (q : Port) :
    (freeChannel pr s).charter q = s.charter q := by simp [State.charter]
@[simp] theorem freeChannel_profile (pr : KindParams) (s : State) (n' : Line) :
    (freeChannel pr s).profile n' = s.profile n' := by simp [State.profile]
@[simp] theorem freeChannel_map (pr : KindParams) (s : State) (q : Port) :
    (freeChannel pr s).map q = s.map q := by simp [State.map]
@[simp] theorem freeChannel_portRec (pr : KindParams) (s : State) (q : Port) :
    (freeChannel pr s).portRec q = s.portRec q := by simp [State.portRec]

@[simp] theorem fillSlot_cell (k : Slot) (l : Lease) (s : State) (n' : Line) :
    (fillSlot k l s).cell n' = s.cell n' := by simp [State.cell]
@[simp] theorem fillSlot_charter (k : Slot) (l : Lease) (s : State) (q : Port) :
    (fillSlot k l s).charter q = s.charter q := by simp [State.charter]
@[simp] theorem fillSlot_profile (k : Slot) (l : Lease) (s : State) (n' : Line) :
    (fillSlot k l s).profile n' = s.profile n' := by simp [State.profile]
@[simp] theorem fillSlot_map (k : Slot) (l : Lease) (s : State) (q : Port) :
    (fillSlot k l s).map q = s.map q := by simp [State.map]
@[simp] theorem fillSlot_portRec (k : Slot) (l : Lease) (s : State) (q : Port) :
    (fillSlot k l s).portRec q = s.portRec q := by simp [State.portRec]

@[simp] theorem claimLines_lease (k : Slot) (ls : LineSet) (s : State) (j : Slot) :
    (claimLines k ls s).lease j = s.lease j := by simp [State.lease]
@[simp] theorem claimLines_handle (k : Slot) (ls : LineSet) (s : State) (j : Slot) :
    (claimLines k ls s).handle j = s.handle j := by simp [State.handle]
@[simp] theorem claimLines_cell (k : Slot) (ls : LineSet) (s : State) (n' : Line) :
    (claimLines k ls s).cell n' = s.cell n' := by simp [State.cell]
@[simp] theorem claimLines_charter (k : Slot) (ls : LineSet) (s : State) (q : Port) :
    (claimLines k ls s).charter q = s.charter q := by simp [State.charter]
@[simp] theorem claimLines_profile (k : Slot) (ls : LineSet) (s : State) (n' : Line) :
    (claimLines k ls s).profile n' = s.profile n' := by simp [State.profile]
@[simp] theorem claimLines_map (k : Slot) (ls : LineSet) (s : State) (q : Port) :
    (claimLines k ls s).map q = s.map q := by simp [State.map]
@[simp] theorem claimLines_portRec (k : Slot) (ls : LineSet) (s : State) (q : Port) :
    (claimLines k ls s).portRec q = s.portRec q := by simp [State.portRec]

@[simp] theorem raiseCount_lease (p : Port) (s : State) (j : Slot) :
    (raiseCount p s).lease j = s.lease j := by simp [State.lease]
@[simp] theorem raiseCount_handle (p : Port) (s : State) (j : Slot) :
    (raiseCount p s).handle j = s.handle j := by simp [State.handle]
@[simp] theorem raiseCount_cell (p : Port) (s : State) (n' : Line) :
    (raiseCount p s).cell n' = s.cell n' := by simp [State.cell]
@[simp] theorem raiseCount_charter (p : Port) (s : State) (q : Port) :
    (raiseCount p s).charter q = s.charter q := by simp [State.charter]
@[simp] theorem raiseCount_profile (p : Port) (s : State) (n' : Line) :
    (raiseCount p s).profile n' = s.profile n' := by simp [State.profile]
@[simp] theorem raiseCount_map (p : Port) (s : State) (q : Port) :
    (raiseCount p s).map q = s.map q := by simp [State.map]

@[simp] theorem lowerCount_lease (p : Port) (s : State) (j : Slot) :
    (lowerCount p s).lease j = s.lease j := by simp [State.lease]
@[simp] theorem lowerCount_handle (p : Port) (s : State) (j : Slot) :
    (lowerCount p s).handle j = s.handle j := by simp [State.handle]
@[simp] theorem lowerCount_cell (p : Port) (s : State) (n' : Line) :
    (lowerCount p s).cell n' = s.cell n' := by simp [State.cell]
@[simp] theorem lowerCount_charter (p : Port) (s : State) (q : Port) :
    (lowerCount p s).charter q = s.charter q := by simp [State.charter]
@[simp] theorem lowerCount_profile (p : Port) (s : State) (n' : Line) :
    (lowerCount p s).profile n' = s.profile n' := by simp [State.profile]
@[simp] theorem lowerCount_map (p : Port) (s : State) (q : Port) :
    (lowerCount p s).map q = s.map q := by simp [State.map]

@[simp] theorem grantInto_charter (k : Slot) (p : Port) (r : Request) (o : Option Ticket) (s : State) (q : Port) :
    (grantInto k p r o s).charter q = s.charter q := by simp [State.charter]
@[simp] theorem grantInto_profile (k : Slot) (p : Port) (r : Request) (o : Option Ticket) (s : State) (n' : Line) :
    (grantInto k p r o s).profile n' = s.profile n' := by simp [State.profile]
@[simp] theorem grantInto_map (k : Slot) (p : Port) (r : Request) (o : Option Ticket) (s : State) (q : Port) :
    (grantInto k p r o s).map q = s.map q := by simp [State.map]

@[simp] theorem endOffer_cell (k : Slot) (s : State) (n' : Line) :
    (endOffer k s).cell n' = s.cell n' := by simp [State.cell]
@[simp] theorem endOffer_charter (k : Slot) (s : State) (q : Port) :
    (endOffer k s).charter q = s.charter q := by simp [State.charter]
@[simp] theorem endOffer_profile (k : Slot) (s : State) (n' : Line) :
    (endOffer k s).profile n' = s.profile n' := by simp [State.profile]
@[simp] theorem endOffer_map (k : Slot) (s : State) (q : Port) :
    (endOffer k s).map q = s.map q := by simp [State.map]
@[simp] theorem endOffer_portRec (k : Slot) (s : State) (q : Port) :
    (endOffer k s).portRec q = s.portRec q := by simp [State.portRec]

@[simp] theorem withdrawOffer_cell (k : Slot) (s : State) (n' : Line) :
    (withdrawOffer k s).cell n' = s.cell n' := by simp [State.cell]
@[simp] theorem withdrawOffer_charter (k : Slot) (s : State) (q : Port) :
    (withdrawOffer k s).charter q = s.charter q := by simp [State.charter]
@[simp] theorem withdrawOffer_profile (k : Slot) (s : State) (n' : Line) :
    (withdrawOffer k s).profile n' = s.profile n' := by simp [State.profile]
@[simp] theorem withdrawOffer_portRec (k : Slot) (s : State) (q : Port) :
    (withdrawOffer k s).portRec q = s.portRec q := by simp [State.portRec]

@[simp] theorem cancelOffer_cell (t : Port) (k : Slot) (s : State) (n' : Line) :
    (cancelOffer t k s).cell n' = s.cell n' := by simp [State.cell]
@[simp] theorem cancelOffer_charter (t : Port) (k : Slot) (s : State) (q : Port) :
    (cancelOffer t k s).charter q = s.charter q := by simp [State.charter]
@[simp] theorem cancelOffer_profile (t : Port) (k : Slot) (s : State) (n' : Line) :
    (cancelOffer t k s).profile n' = s.profile n' := by simp [State.profile]
@[simp] theorem cancelOffer_portRec (t : Port) (k : Slot) (s : State) (q : Port) :
    (cancelOffer t k s).portRec q = s.portRec q := by simp [State.portRec]

@[simp] theorem cancelOffersTo_cell (t : Port) (s : State) (n' : Line) :
    (cancelOffersTo t s).cell n' = s.cell n' := by simp [State.cell]
@[simp] theorem cancelOffersTo_charter (t : Port) (s : State) (q : Port) :
    (cancelOffersTo t s).charter q = s.charter q := by simp [State.charter]
@[simp] theorem cancelOffersTo_profile (t : Port) (s : State) (n' : Line) :
    (cancelOffersTo t s).profile n' = s.profile n' := by simp [State.profile]
@[simp] theorem cancelOffersTo_portRec (t : Port) (s : State) (q : Port) :
    (cancelOffersTo t s).portRec q = s.portRec q := by simp [State.portRec]

@[simp] theorem restLines_lease (k : Slot) (ls : LineSet) (s : State) (j : Slot) :
    (restLines k ls s).lease j = s.lease j := by simp [State.lease]
@[simp] theorem restLines_handle (k : Slot) (ls : LineSet) (s : State) (j : Slot) :
    (restLines k ls s).handle j = s.handle j := by simp [State.handle]
@[simp] theorem restLines_charter (k : Slot) (ls : LineSet) (s : State) (q : Port) :
    (restLines k ls s).charter q = s.charter q := by simp [State.charter]
@[simp] theorem restLines_profile (k : Slot) (ls : LineSet) (s : State) (n' : Line) :
    (restLines k ls s).profile n' = s.profile n' := by simp [State.profile]
@[simp] theorem restLines_map (k : Slot) (ls : LineSet) (s : State) (q : Port) :
    (restLines k ls s).map q = s.map q := by simp [State.map]
@[simp] theorem restLines_portRec (k : Slot) (ls : LineSet) (s : State) (q : Port) :
    (restLines k ls s).portRec q = s.portRec q := by simp [State.portRec]

@[simp] theorem retire_charter (k : Slot) (r : CloseReason) (s : State) (q : Port) :
    (retire k r s).charter q = s.charter q := by simp [State.charter]
@[simp] theorem retire_profile (k : Slot) (r : CloseReason) (s : State) (n' : Line) :
    (retire k r s).profile n' = s.profile n' := by simp [State.profile]
@[simp] theorem retire_portRec (k : Slot) (r : CloseReason) (s : State) (q : Port) :
    (retire k r s).portRec q = s.portRec q := by simp [State.portRec]

@[simp] theorem freeRecord_cell (k : Slot) (s : State) (n' : Line) :
    (freeRecord k s).cell n' = s.cell n' := by simp [State.cell]
@[simp] theorem freeRecord_charter (k : Slot) (s : State) (q : Port) :
    (freeRecord k s).charter q = s.charter q := by simp [State.charter]
@[simp] theorem freeRecord_profile (k : Slot) (s : State) (n' : Line) :
    (freeRecord k s).profile n' = s.profile n' := by simp [State.profile]
@[simp] theorem freeRecord_map (k : Slot) (s : State) (q : Port) :
    (freeRecord k s).map q = s.map q := by simp [State.map]

@[simp] theorem tellGrace_lease (pr : KindParams) (s : State) (j : Slot) :
    (tellGrace pr s).lease j = s.lease j := by simp [State.lease]
@[simp] theorem tellGrace_handle (pr : KindParams) (s : State) (j : Slot) :
    (tellGrace pr s).handle j = s.handle j := by simp [State.handle]
@[simp] theorem tellGrace_cell (pr : KindParams) (s : State) (n' : Line) :
    (tellGrace pr s).cell n' = s.cell n' := by simp [State.cell]
@[simp] theorem tellGrace_charter (pr : KindParams) (s : State) (q : Port) :
    (tellGrace pr s).charter q = s.charter q := by simp [State.charter]
@[simp] theorem tellGrace_profile (pr : KindParams) (s : State) (n' : Line) :
    (tellGrace pr s).profile n' = s.profile n' := by simp [State.profile]
@[simp] theorem tellGrace_map (pr : KindParams) (s : State) (q : Port) :
    (tellGrace pr s).map q = s.map q := by simp [State.map]
@[simp] theorem tellGrace_portRec (pr : KindParams) (s : State) (q : Port) :
    (tellGrace pr s).portRec q = s.portRec q := by simp [State.portRec]

@[simp] theorem tellActive_lease (pr : KindParams) (s : State) (j : Slot) :
    (tellActive pr s).lease j = s.lease j := by simp [State.lease]
@[simp] theorem tellActive_handle (pr : KindParams) (s : State) (j : Slot) :
    (tellActive pr s).handle j = s.handle j := by simp [State.handle]
@[simp] theorem tellActive_cell (pr : KindParams) (s : State) (n' : Line) :
    (tellActive pr s).cell n' = s.cell n' := by simp [State.cell]
@[simp] theorem tellActive_charter (pr : KindParams) (s : State) (q : Port) :
    (tellActive pr s).charter q = s.charter q := by simp [State.charter]
@[simp] theorem tellActive_profile (pr : KindParams) (s : State) (n' : Line) :
    (tellActive pr s).profile n' = s.profile n' := by simp [State.profile]
@[simp] theorem tellActive_map (pr : KindParams) (s : State) (q : Port) :
    (tellActive pr s).map q = s.map q := by simp [State.map]
@[simp] theorem tellActive_portRec (pr : KindParams) (s : State) (q : Port) :
    (tellActive pr s).portRec q = s.portRec q := by simp [State.portRec]

@[simp] theorem enterGrace_charter (k : Slot) (l : Lease) (s : State) (q : Port) :
    (enterGrace k l s).charter q = s.charter q := by simp [State.charter]
@[simp] theorem enterGrace_profile (k : Slot) (l : Lease) (s : State) (n' : Line) :
    (enterGrace k l s).profile n' = s.profile n' := by simp [State.profile]
@[simp] theorem enterGrace_map (k : Slot) (l : Lease) (s : State) (q : Port) :
    (enterGrace k l s).map q = s.map q := by simp [State.map]
@[simp] theorem enterGrace_portRec (k : Slot) (l : Lease) (s : State) (q : Port) :
    (enterGrace k l s).portRec q = s.portRec q := by simp [State.portRec]

@[simp] theorem leaveGrace_charter (k : Slot) (l : Lease) (s : State) (q : Port) :
    (leaveGrace k l s).charter q = s.charter q := by simp [State.charter]
@[simp] theorem leaveGrace_profile (k : Slot) (l : Lease) (s : State) (n' : Line) :
    (leaveGrace k l s).profile n' = s.profile n' := by simp [State.profile]
@[simp] theorem leaveGrace_map (k : Slot) (l : Lease) (s : State) (q : Port) :
    (leaveGrace k l s).map q = s.map q := by simp [State.map]
@[simp] theorem leaveGrace_portRec (k : Slot) (l : Lease) (s : State) (q : Port) :
    (leaveGrace k l s).portRec q = s.portRec q := by simp [State.portRec]

@[simp] theorem removeEntry_lease (p : Port) (t : Byte) (s : State) (j : Slot) :
    (removeEntry p t s).lease j = s.lease j := by simp [State.lease]
@[simp] theorem removeEntry_handle (p : Port) (t : Byte) (s : State) (j : Slot) :
    (removeEntry p t s).handle j = s.handle j := by simp [State.handle]
@[simp] theorem removeEntry_cell (p : Port) (t : Byte) (s : State) (n' : Line) :
    (removeEntry p t s).cell n' = s.cell n' := by simp [State.cell]
@[simp] theorem removeEntry_charter (p : Port) (t : Byte) (s : State) (q : Port) :
    (removeEntry p t s).charter q = s.charter q := by simp [State.charter]
@[simp] theorem removeEntry_profile (p : Port) (t : Byte) (s : State) (n' : Line) :
    (removeEntry p t s).profile n' = s.profile n' := by simp [State.profile]
@[simp] theorem removeEntry_map (p : Port) (t : Byte) (s : State) (q : Port) :
    (removeEntry p t s).map q = s.map q := by simp [State.map]
@[simp] theorem removeEntry_portRec (p : Port) (t : Byte) (s : State) (q : Port) :
    (removeEntry p t s).portRec q = s.portRec q := by simp [State.portRec]

@[simp] theorem dropWaits_lease (p : Port) (s : State) (j : Slot) :
    (dropWaits p s).lease j = s.lease j := by simp [State.lease]
@[simp] theorem dropWaits_handle (p : Port) (s : State) (j : Slot) :
    (dropWaits p s).handle j = s.handle j := by simp [State.handle]
@[simp] theorem dropWaits_cell (p : Port) (s : State) (n' : Line) :
    (dropWaits p s).cell n' = s.cell n' := by simp [State.cell]
@[simp] theorem dropWaits_charter (p : Port) (s : State) (q : Port) :
    (dropWaits p s).charter q = s.charter q := by simp [State.charter]
@[simp] theorem dropWaits_profile (p : Port) (s : State) (n' : Line) :
    (dropWaits p s).profile n' = s.profile n' := by simp [State.profile]
@[simp] theorem dropWaits_map (p : Port) (s : State) (q : Port) :
    (dropWaits p s).map q = s.map q := by simp [State.map]
@[simp] theorem dropWaits_portRec (p : Port) (s : State) (q : Port) :
    (dropWaits p s).portRec q = s.portRec q := by simp [State.portRec]

@[simp] theorem scanGrant_charter (e : QueueEntry) (s : State) (q : Port) :
    (scanGrant e s).charter q = s.charter q := by simp [State.charter]
@[simp] theorem scanGrant_profile (e : QueueEntry) (s : State) (n' : Line) :
    (scanGrant e s).profile n' = s.profile n' := by simp [State.profile]

@[simp] theorem scan_charter (s : State) (q : Port) :
    (scan s).charter q = s.charter q := by simp [State.charter]
@[simp] theorem scan_profile (s : State) (n' : Line) :
    (scan s).profile n' = s.profile n' := by simp [State.profile]

@[simp] theorem endStep_charter (b s : State) (q : Port) :
    (endStep b s).charter q = s.charter q := by simp [State.charter]
@[simp] theorem endStep_profile (b s : State) (n' : Line) :
    (endStep b s).profile n' = s.profile n' := by simp [State.profile]

@[simp] theorem endStepScan_charter (b s : State) (q : Port) :
    (endStepScan b s).charter q = s.charter q := by simp [State.charter]
@[simp] theorem endStepScan_profile (b s : State) (n' : Line) :
    (endStepScan b s).profile n' = s.profile n' := by simp [State.profile]

@[simp] theorem unholdLines_lease (k : Slot) (s : State) (j : Slot) :
    (unholdLines k s).lease j = s.lease j := by simp [State.lease]
@[simp] theorem unholdLines_handle (k : Slot) (s : State) (j : Slot) :
    (unholdLines k s).handle j = s.handle j := by simp [State.handle]
@[simp] theorem unholdLines_cell (k : Slot) (s : State) (n' : Line) :
    (unholdLines k s).cell n' = s.cell n' := by simp [State.cell]
@[simp] theorem unholdLines_charter (k : Slot) (s : State) (q : Port) :
    (unholdLines k s).charter q = s.charter q := by simp [State.charter]
@[simp] theorem unholdLines_profile (k : Slot) (s : State) (n' : Line) :
    (unholdLines k s).profile n' = s.profile n' := by simp [State.profile]
@[simp] theorem unholdLines_map (k : Slot) (s : State) (q : Port) :
    (unholdLines k s).map q = s.map q := by simp [State.map]
@[simp] theorem unholdLines_portRec (k : Slot) (s : State) (q : Port) :
    (unholdLines k s).portRec q = s.portRec q := by simp [State.portRec]

@[simp] theorem countWaits_lease (s : State) (j : Slot) :
    (countWaits s).lease j = s.lease j := by simp [State.lease]
@[simp] theorem countWaits_handle (s : State) (j : Slot) :
    (countWaits s).handle j = s.handle j := by simp [State.handle]
@[simp] theorem countWaits_cell (s : State) (n' : Line) :
    (countWaits s).cell n' = s.cell n' := by simp [State.cell]
@[simp] theorem countWaits_charter (s : State) (q : Port) :
    (countWaits s).charter q = s.charter q := by simp [State.charter]
@[simp] theorem countWaits_profile (s : State) (n' : Line) :
    (countWaits s).profile n' = s.profile n' := by simp [State.profile]
@[simp] theorem countWaits_map (s : State) (q : Port) :
    (countWaits s).map q = s.map q := by simp [State.map]
@[simp] theorem countWaits_portRec (s : State) (q : Port) :
    (countWaits s).portRec q = s.portRec q := by simp [State.portRec]

@[simp] theorem waitExpiryStep_lease (p : Port) (t : Byte) (s : State) (j : Slot) :
    (waitExpiryStep p t s).lease j = s.lease j := by simp [State.lease]
@[simp] theorem waitExpiryStep_handle (p : Port) (t : Byte) (s : State) (j : Slot) :
    (waitExpiryStep p t s).handle j = s.handle j := by simp [State.handle]
@[simp] theorem waitExpiryStep_cell (p : Port) (t : Byte) (s : State) (n' : Line) :
    (waitExpiryStep p t s).cell n' = s.cell n' := by simp [State.cell]
@[simp] theorem waitExpiryStep_charter (p : Port) (t : Byte) (s : State) (q : Port) :
    (waitExpiryStep p t s).charter q = s.charter q := by simp [State.charter]
@[simp] theorem waitExpiryStep_profile (p : Port) (t : Byte) (s : State) (n' : Line) :
    (waitExpiryStep p t s).profile n' = s.profile n' := by simp [State.profile]
@[simp] theorem waitExpiryStep_portRec (p : Port) (t : Byte) (s : State) (q : Port) :
    (waitExpiryStep p t s).portRec q = s.portRec q := by simp [State.portRec]

@[simp] theorem quietEndStep_lease (p : Port) (s : State) (j : Slot) :
    (quietEndStep p s).lease j = s.lease j := by simp [State.lease]
@[simp] theorem quietEndStep_handle (p : Port) (s : State) (j : Slot) :
    (quietEndStep p s).handle j = s.handle j := by simp [State.handle]
@[simp] theorem quietEndStep_cell (p : Port) (s : State) (n' : Line) :
    (quietEndStep p s).cell n' = s.cell n' := by simp [State.cell]
@[simp] theorem quietEndStep_charter (p : Port) (s : State) (q : Port) :
    (quietEndStep p s).charter q = s.charter q := by simp [State.charter]
@[simp] theorem quietEndStep_profile (p : Port) (s : State) (n' : Line) :
    (quietEndStep p s).profile n' = s.profile n' := by simp [State.profile]

@[simp] theorem termLowStep_cell (k : Slot) (s : State) (n' : Line) :
    (termLowStep k s).cell n' = s.cell n' := by simp [State.cell]
@[simp] theorem termLowStep_charter (k : Slot) (s : State) (q : Port) :
    (termLowStep k s).charter q = s.charter q := by simp [State.charter]
@[simp] theorem termLowStep_profile (k : Slot) (s : State) (n' : Line) :
    (termLowStep k s).profile n' = s.profile n' := by simp [State.profile]
@[simp] theorem termLowStep_portRec (k : Slot) (s : State) (q : Port) :
    (termLowStep k s).portRec q = s.portRec q := by simp [State.portRec]

@[simp] theorem termEndStep_charter (k : Slot) (s : State) (q : Port) :
    (termEndStep k s).charter q = s.charter q := by simp [State.charter]
@[simp] theorem termEndStep_profile (k : Slot) (s : State) (n' : Line) :
    (termEndStep k s).profile n' = s.profile n' := by simp [State.profile]
@[simp] theorem termEndStep_portRec (k : Slot) (s : State) (q : Port) :
    (termEndStep k s).portRec q = s.portRec q := by simp [State.portRec]

@[simp] theorem graceEndStep_charter (k : Slot) (s : State) (q : Port) :
    (graceEndStep k s).charter q = s.charter q := by simp [State.charter]
@[simp] theorem graceEndStep_profile (k : Slot) (s : State) (n' : Line) :
    (graceEndStep k s).profile n' = s.profile n' := by simp [State.profile]
@[simp] theorem graceEndStep_portRec (k : Slot) (s : State) (q : Port) :
    (graceEndStep k s).portRec q = s.portRec q := by simp [State.portRec]

@[simp] theorem offerLapseStep_cell (k : Slot) (s : State) (n' : Line) :
    (offerLapseStep k s).cell n' = s.cell n' := by simp [State.cell]
@[simp] theorem offerLapseStep_charter (k : Slot) (s : State) (q : Port) :
    (offerLapseStep k s).charter q = s.charter q := by simp [State.charter]
@[simp] theorem offerLapseStep_profile (k : Slot) (s : State) (n' : Line) :
    (offerLapseStep k s).profile n' = s.profile n' := by simp [State.profile]
@[simp] theorem offerLapseStep_portRec (k : Slot) (s : State) (q : Port) :
    (offerLapseStep k s).portRec q = s.portRec q := by simp [State.portRec]

@[simp] theorem tickSlot_charter (k : Slot) (s : State) (q : Port) :
    (tickSlot k s).charter q = s.charter q := by simp [State.charter]
@[simp] theorem tickSlot_profile (k : Slot) (s : State) (n' : Line) :
    (tickSlot k s).profile n' = s.profile n' := by simp [State.profile]
@[simp] theorem tickSlot_portRec (k : Slot) (s : State) (q : Port) :
    (tickSlot k s).portRec q = s.portRec q := by simp [State.portRec]

@[simp] theorem closeRecord_cell (k : Slot) (l : Lease) (r : CloseReason) (s : State) (n' : Line) :
    (closeRecord k l r s).cell n' = s.cell n' := by simp [State.cell]
@[simp] theorem closeRecord_charter (k : Slot) (l : Lease) (r : CloseReason) (s : State) (q : Port) :
    (closeRecord k l r s).charter q = s.charter q := by simp [State.charter]
@[simp] theorem closeRecord_profile (k : Slot) (l : Lease) (r : CloseReason) (s : State) (n' : Line) :
    (closeRecord k l r s).profile n' = s.profile n' := by simp [State.profile]

end Sys2Proof.Machine
end

