-- ==== Sys2Proof/Laws/Ops.lean ====
section
/-! SUPPORT. What the shared operations do, said once: commands, posts, grants, the queue scan and retirement. -/

namespace Sys2Proof.Machine

/-! ## Lines and checks -/

theorem linesOf_mem (ls : LineSet) (n : Line) : n ∈ linesOf ls ↔ has ls n = true := by simp [linesOf]

/-- Checks that give no failure have all passed. -/
theorem firstFailure_none {α : Type} {L : List (Bool × α)} (h : firstFailure L = none) : ∀ x ∈ L, x.1 = false := by
  induction L with
  | nil => simp
  | cons a L ih =>
    obtain ⟨b, x⟩ := a
    simp only [firstFailure] at h
    split at h <;> simp_all

/-- What the grant conditions of R36 leave: the lines are unheld, a slot and, where needed, a channel is free. -/
theorem blockedBy_none {s : State} {older : List QueueEntry} {p : Port} {r : Request}
    (h : blockedBy s older p r = none) :
    (∀ n, has r.lines n = true → vget s.heldBy n = none) ∧ (∃ k, freeSlot? s = some k)
      ∧ channelFree s r = true := by
  unfold blockedBy at h
  split at h
  · cases h
  · rename_i h1
    split at h
    · cases h
    · have h2 := firstFailure_none h
      refine ⟨fun n hn => ?_, ?_, ?_⟩
      · simpa [lineHeld] using List.find?_eq_none.mp h1 n ((linesOf_mem _ _).mpr hn)
      · exact Option.isSome_iff_exists.mp (by simpa using h2 _ (List.mem_cons_self ..))
      · simpa using h2 (!channelFree s r, .channel) (by simp)

theorem freeSlot_none {s : State} {k : Slot} (h : freeSlot? s = some k) : s.lease k = none := by
  simpa using List.find?_some h

/-! ## Commands -/

/-- A command that the engine takes runs its body and completes with its reply. -/
theorem command_taken {i : Instr} {p : Port} {body : State → State × Reply} {s : State} (h : takes s i p = true) :
    command i p body s = .next ((body (s.take p)).1.complete p (body (s.take p)).2) := by
  simp [command, h]

/-- A completion answers the port when the step before it has left the windows alone. -/
theorem answers_complete {s u : State} {p : Port} (r : Reply) (hw : u.windows = (s.take p).windows)
    (hl : u.lastServed = p) : Answers s (u.complete p r) p r.status r.result := by
  have hq : ∀ q, u.window q = (s.take p).window q := by intro q; simp only [State.window, hw]
  have hp := hq p
  rw [State.take_window, if_pos rfl] at hp
  constructor
  · rw [State.complete, State.window, State.setWindow, vget_vset_self, hp]
  · intro q hqp
    have := hq q
    rw [State.take_window, if_neg hqp] at this
    rw [State.complete, State.window, State.setWindow, vget_vset_ne _ _ hqp]
    exact this
  · simp [hl]

theorem onlyWindow_complete {s u : State} {p : Port} (r : Reply)
    (h : { u with windows := s.windows, lastServed := s.lastServed } = s) : OnlyWindow s (u.complete p r) := by
  unfold OnlyWindow
  rw [← h]
  rfl

/-- A command whose body refuses is refused. -/
theorem refuses {i : Instr} {p : Port} {body : State → State × Reply} {s : State} {st : Status}
    (he : exec i s = command i p body s) (h : takes s i p = true)
    (hb : body (s.take p) = refuse (s.take p) st) : Refuses i s p st := by
  refine ⟨_, by rw [he, command_taken h], ?_, ?_⟩
  · rw [hb]
    exact answers_complete (Reply.bare st) rfl rfl
  · rw [hb]
    exact onlyWindow_complete _ rfl

theorem checkHandle_names {s : State} {p : Port} {k : Slot} {l : Lease} (h : Names s p k l) :
    checkHandle (s.take p) (argByte (s.args p) 4) (argByte (s.args p) 5) = .ok (k, l) := by
  simp [checkHandle, h.slot, h.lease, h.gen]

theorem checkHolder_names {s : State} {p : Port} {k : Slot} {l : Lease} (h : Names s p k l) (hh : l.holder = p) :
    checkHolder (s.take p) p (argByte (s.args p) 4) (argByte (s.args p) 5) = .ok (k, l) := by
  simp [checkHolder, checkHandle_names h, hh]

/-! ## Posts -/

@[simp] theorem postSlot_map (p q : Port) (k : Slot) (kd : KindSet) (d : Detail) (s : State) :
    (postSlot p k kd d s).map q = if q = p then (s.map p).postSlot k (s.handle k).gen kd d else s.map q := by
  simp only [postSlot, State.setMap_map]

@[simp] theorem postPort_map (p q : Port) (kd : KindSet) (s : State) :
    (postPort p kd s).map q = if q = p then (s.map p).postPort kd else s.map q := by
  simp only [postPort, State.setMap_map]

@[simp] theorem postTicket_map (e : QueueEntry) (kd : KindSet) (q : Port) (s : State) :
    (postTicket e kd s).map q
      = if q = e.port then (s.map e.port).postTicket e.ticket e.arrival kd else s.map q := by
  simp only [postTicket, State.setMap_map]

/-- A slot post leaves an entry of the record's handle with the posted kind joined to the kinds it held. -/
theorem slots_postSlot (m : NoticeMap) (k : Slot) (gen : Byte) (kind : KindSet) (d : Detail) :
    ∃ e, vget (m.postSlot k gen kind d).slots k = some e ∧ e.gen = gen ∧ e.kinds = kindsFor m k gen ||| kind := by
  unfold NoticeMap.postSlot kindsFor
  simp only [vget_vset_self, Option.some.injEq, exists_eq_left']
  cases vget m.slots k with
  | none => cases d <;> simp [SlotNotice.fresh, SlotNotice.addDetail]
  | some x =>
    by_cases g : x.gen = gen
    · cases d <;> simp [g, SlotNotice.addDetail]
    · cases d <;> simp [g, SlotNotice.fresh, SlotNotice.addDetail]

theorem slots_postSlot_ne (m : NoticeMap) {k j : Slot} (gen : Byte) (kind : KindSet) (d : Detail) (h : j ≠ k) :
    vget (m.postSlot k gen kind d).slots j = vget m.slots j := by simp [NoticeMap.postSlot, vget_vset_ne _ _ h]

theorem kindsFor_postSlot (m : NoticeMap) (k : Slot) (gen : Byte) (kind : KindSet) (d : Detail) :
    kindsFor (m.postSlot k gen kind d) k gen = kindsFor m k gen ||| kind := by
  obtain ⟨e, h1, h2, h3⟩ := slots_postSlot m k gen kind d
  rw [kindsFor, h1]
  simp [h2, h3]

/-- A slot post, on a state whose map of the port and handle of the slot are those of `s`. -/
theorem postedTo_postSlot {s u t : State} {q : Port} {k : Slot} {kind : KindSet} {d : Detail}
    (hm : u.map q = s.map q) (hh : u.handle k = s.handle k) (ht : t.map q = (postSlot q k kind d u).map q) :
    PostedTo s t q k kind := by
  unfold PostedTo
  rw [ht]
  have := slots_postSlot (u.map q) k (u.handle k).gen kind d
  rw [hm, hh] at this
  simpa [hm, hh] using this

theorem mapKept_postSlot {s u t : State} {q : Port} {k : Slot} {kind : KindSet} {d : Detail}
    (hm : u.map q = s.map q) (ht : t.map q = (postSlot q k kind d u).map q) : MapKept s t q k := by
  unfold MapKept
  rw [ht, postSlot_map, if_pos rfl, hm]
  exact ⟨rfl, fun j hj => slots_postSlot_ne _ _ _ _ hj⟩

/-- A kind that a map holds stays with a slot post for the same record, or for another slot. -/
theorem holds_postSlot {u t : State} {q r : Port} {k j : Slot} {gen : Byte} {kind kd : KindSet} {d : Detail}
    (h : Holds u q k gen kind) (hg : j = k → (u.handle k).gen = gen)
    (ht : t.map q = (postSlot r j kd d u).map q) : Holds t q k gen kind := by
  unfold Holds at *
  rw [ht, postSlot_map]
  split
  · rename_i e
    subst e
    by_cases hj : j = k
    · subst hj
      rw [hg rfl, kindsFor_postSlot]
      rw [← h]
      ext i hi
      simp
      grind
    · rw [kindsFor, slots_postSlot_ne _ _ _ _ (Ne.symm hj)]
      exact h
  · exact h

/-! ## Tickets -/

/-- A ticket notice that is there stays, with its kinds, when another is added. -/
theorem insertTicket_keeps (e x : TicketNotice) (L : List TicketNotice) (h : x ∈ L) :
    ∃ y ∈ insertTicket e L, y.ticket = x.ticket ∧ x.kinds &&& y.kinds = x.kinds := by
  induction L with
  | nil => cases h
  | cons a L ih =>
    simp only [insertTicket]
    rcases List.mem_cons.mp h with rfl | h
    · split
      · refine ⟨_, List.mem_cons_self .., rfl, ?_⟩
        ext i hi
        simp
        grind
      · split
        · exact ⟨x, by simp, rfl, by simp⟩
        · exact ⟨x, by simp, rfl, by simp⟩
    · split
      · exact ⟨x, by simp [h], rfl, by simp⟩
      · split
        · exact ⟨x, by simp [h], rfl, by simp⟩
        · obtain ⟨y, hy, r⟩ := ih h
          exact ⟨y, by simp [hy], r⟩

/-- A ticket post leaves a notice of the ticket with the kind. -/
theorem insertTicket_self (e : TicketNotice) (L : List TicketNotice) :
    ∃ y ∈ insertTicket e L, y.ticket = e.ticket ∧ y.kinds &&& e.kinds = e.kinds := by
  induction L with
  | nil => exact ⟨e, by simp [insertTicket], rfl, by simp⟩
  | cons a L ih =>
    simp only [insertTicket]
    split
    · rename_i h
      refine ⟨_, List.mem_cons_self .., h, ?_⟩
      ext i hi
      simp
      grind
    · split
      · exact ⟨e, by simp, rfl, by simp⟩
      · obtain ⟨y, hy, r⟩ := ih
        exact ⟨y, by simp [hy], r⟩

theorem insertTicket_length (e : TicketNotice) (L : List TicketNotice) :
    (insertTicket e L).length ≤ L.length + 1 := by
  induction L with
  | nil => simp [insertTicket]
  | cons x xs ih =>
    simp only [insertTicket]
    split
    · simp
    · split <;> simp
      omega

/-- What a ticket list holds after a post: what it held, kinds apart, and the posted entry. -/
theorem insertTicket_arrivals (e : TicketNotice) (L : List TicketNotice) (h : ∀ x ∈ L, x.ticket ≠ e.ticket)
    (x : TicketNotice) :
    x ∈ insertTicket e L ↔ x = e ∨ x ∈ L := by
  induction L with
  | nil => simp [insertTicket]
  | cons a L ih =>
    simp only [insertTicket, if_neg (h a (by simp))]
    split
    · simp
    · simp only [List.mem_cons, ih fun x hx => h x (by simp [hx])]
      tauto

/-- A post of a new ticket keeps the order of issue (R156). -/
theorem insertTicket_sorted (e : TicketNotice) (L : List TicketNotice) (hL : (L.map (·.arrival)).Pairwise (· < ·))
    (h : ∀ x ∈ L, x.ticket ≠ e.ticket ∧ x.arrival ≠ e.arrival) :
    ((insertTicket e L).map (·.arrival)).Pairwise (· < ·) := by
  induction L with
  | nil => simp [insertTicket]
  | cons a L ih =>
    have ha := h a (by simp)
    simp only [List.map_cons, List.pairwise_cons, List.forall_mem_map] at hL
    simp only [insertTicket, if_neg ha.1]
    split
    · rename_i hlt
      simp only [List.map_cons, List.pairwise_cons, List.forall_mem_map, List.forall_mem_cons]
      exact ⟨⟨hlt, fun x hx => lt_trans hlt (hL.1 x hx)⟩, hL.1, hL.2⟩
    · rename_i hlt
      have h' : ∀ x ∈ L, x.ticket ≠ e.ticket ∧ x.arrival ≠ e.arrival := fun x hx => h x (by simp [hx])
      simp only [List.map_cons, List.pairwise_cons, List.forall_mem_map]
      refine ⟨fun x hx => ?_, ih hL.2 h'⟩
      rcases (insertTicket_arrivals e L (fun x hx => (h' x hx).1) x).mp hx with rfl | hx
      · have := ha.2
        omega
      · exact hL.1 x hx

/-! ## Grants -/

theorem grantInto_slots (k : Slot) (p : Port) (r : Request) (o : Option Ticket) (s : State) :
    (grantInto k p r o s).slots
      = vset s.slots k { gen := nextGen (vget s.slots k).gen, lease := some (grantRecord s p r o) } := by
  unfold grantInto
  simp only [takeChannel_frame, State.mapCells_slots, raiseCount_frame, claimLines_frame]
  rfl

/-- The slot of a grant takes the record (R4); the other slots stay. -/
theorem grantInto_lease (k : Slot) (p : Port) (r : Request) (o : Option Ticket) (s : State) (j : Slot) :
    (grantInto k p r o s).lease j = if j = k then some (grantRecord s p r o) else s.lease j := by
  unfold State.lease
  rw [grantInto_slots, vget_vset]
  split <;> rfl

/-- The slot of a grant advances its generation (R2); the other slots keep theirs. -/
theorem grantInto_handle (k : Slot) (p : Port) (r : Request) (o : Option Ticket) (s : State) (j : Slot) :
    (grantInto k p r o s).handle j = { slot := j, gen := if j = k then nextGen (s.handle k).gen else (s.handle j).gen } := by
  unfold State.handle
  rw [grantInto_slots, vget_vset]
  split <;> simp

theorem grantInto_heldBy (k : Slot) (p : Port) (r : Request) (o : Option Ticket) (s : State) (n : Line) :
    vget (grantInto k p r o s).heldBy n = if has r.lines n then some k else vget s.heldBy n := by
  unfold grantInto
  simp only [takeChannel_frame, State.mapCells_heldBy, raiseCount_frame, claimLines, vget_vmap]
  rfl

/-- The lines of a grant take the level they start with, and their checks start afresh (R28). -/
theorem grantInto_cell (k : Slot) (p : Port) (r : Request) (o : Option Ticket) (s : State) (n : Line) :
    (grantInto k p r o s).cell n
      = if has r.lines n then
          { s.cell n with assigned := startLevel (grantParams s r) n, mismatch := 0 }
        else s.cell n := by
  unfold grantInto
  simp only [takeChannel_cell, State.mapCells_cell, raiseCount_cell, claimLines_cell, fillSlot_cell]
  rfl

/-- Only the count of the port of a grant changes, by one (R13). -/
theorem grantInto_portRec (k : Slot) (p : Port) (r : Request) (o : Option Ticket) (s : State) (q : Port) :
    (grantInto k p r o s).portRec q
      = if q = p then { s.portRec p with occupied := (s.portRec p).occupied + 1 } else s.portRec q := by
  have : (grantInto k p r o s).portRecs = (raiseCount p s).portRecs := by
    unfold grantInto
    simp only [takeChannel_frame, State.mapCells_portRecs]
    unfold raiseCount State.setPortRec State.portRec
    simp
  unfold State.portRec
  rw [this]
  simp only [raiseCount, State.setPortRec, vget_vset]
  split <;> rfl

/-! ## The queue scan -/

theorem firstFailure_none_iff {α : Type} (L : List (Bool × α)) :
    firstFailure L = none ↔ ∀ x ∈ L, x.1 = false := by
  refine ⟨firstFailure_none, fun h => ?_⟩
  induction L with
  | nil => rfl
  | cons a L ih => simp_all [firstFailure]

/-- The grant conditions of R36, all of them. -/
theorem blockedBy_none_iff (s : State) (older : List QueueEntry) (p : Port) (r : Request) :
    blockedBy s older p r = none ↔
      (∀ n, has r.lines n = true → vget s.heldBy n = none ∧ ∀ x ∈ older, has x.request.lines n = false)
        ∧ (∃ k, s.lease k = none) ∧ (s.portRec p).occupied < (s.charter p).leaseLimit ∧ channelFree s r = true := by
  have h1 : (linesOf r.lines).find? (lineHeld s) = none ↔ ∀ n, has r.lines n = true → vget s.heldBy n = none := by
    simp [List.find?_eq_none, linesOf_mem, lineHeld]
  have h2 : ((linesOf r.lines).find? fun n => !(naming older n).isEmpty) = none
      ↔ ∀ n, has r.lines n = true → ∀ x ∈ older, has x.request.lines n = false := by
    simp [List.find?_eq_none, linesOf_mem, naming]
  have h3 : (freeSlot? s).isNone = false ↔ ∃ k, s.lease k = none := by
    simp [freeSlot?, Option.isNone_eq_false_iff, List.find?_isSome]
  unfold blockedBy
  split
  · rename_i n h
    simp only [reduceCtorEq, false_iff]
    exact fun e => by simp [h1.mpr fun n hn => (e.1 n hn).1] at h
  · rename_i h
    split
    · rename_i n g
      simp only [reduceCtorEq, false_iff]
      exact fun e => by simp [h2.mpr fun n hn => (e.1 n hn).2] at g
    · rename_i g
      rw [firstFailure_none_iff]
      simp only [List.forall_mem_cons, List.not_mem_nil, false_implies, implies_true, and_true, h3,
        decide_eq_false_iff_not, Nat.not_le, Bool.not_eq_false']
      exact ⟨fun e => ⟨fun n hn => ⟨h1.mp h n hn, h2.mp g n hn⟩, e⟩, And.right⟩

/-- An entry waits behind `older` exactly when the scan finds a grant condition that it fails (R34, R36). -/
theorem waits_iff_blocked (s : State) (older : List QueueEntry) (e : QueueEntry) :
    Waits s older e ↔ (blockedBy s older e.port e.request).isSome = true := by
  rw [Option.isSome_iff_ne_none, Ne, blockedBy_none_iff]
  unfold Waits
  constructor
  · rintro (⟨n, hn, hh | ⟨x, hx, hh⟩⟩ | h | h | h) ⟨a, ⟨k, b⟩, c, d⟩
    · simp [(a n hn).1] at hh
    · simp [(a n hn).2 x hx] at hh
    · simpa [b] using h k
    · omega
    · simp [d] at h
  · intro h
    by_contra hc
    simp only [not_or, not_exists, not_and, not_forall, Nat.not_le, Bool.not_eq_true, Bool.not_eq_false,
      Option.isSome_eq_false_iff, Option.isNone_iff_eq_none] at hc
    exact h ⟨fun n hn => hc.1 n hn, hc.2.1, hc.2.2.1, hc.2.2.2⟩

/-- What a queue scan keeps, whatever it grants and refuses: it fills FREE slots with lines that are unheld. -/
structure ScanKeeps (s t : State) : Prop where
  lease : ∀ k, (s.lease k).isSome → t.lease k = s.lease k
  handle : ∀ k, (s.lease k).isSome → t.handle k = s.handle k
  free : ∀ k, s.lease k = none → (t.lease k = none ∧ t.handle k = s.handle k)
    ∨ ∃ l, t.lease k = some l ∧ l.state = .active ∧ (t.handle k).gen = nextGen (s.handle k).gen
  held : ∀ n k, vget s.heldBy n = some k → vget t.heldBy n = some k ∧ t.cell n = s.cell n
  entry : ∀ q k, (s.lease k).isSome → vget (t.map q).slots k = vget (s.map q).slots k
  subjects : ∀ q, (t.map q).port = (s.map q).port ∧ (t.map q).lines = (s.map q).lines
  tickets : ∀ q, ∀ x ∈ (s.map q).tickets, ∃ y ∈ (t.map q).tickets,
    y.ticket = x.ticket ∧ x.kinds &&& y.kinds = x.kinds
  patInbox : ∀ c, vget s.patInbox c <+: vget t.patInbox c
  guardInbox : ∀ g, vget s.guardInbox g <+: vget t.guardInbox g
  records : ∀ q, (t.portRec q).quiet = (s.portRec q).quiet
    ∧ (t.portRec q).ticketCounter = (s.portRec q).ticketCounter
  settling : t.settling = s.settling

theorem ScanKeeps.refl (s : State) : ScanKeeps s s :=
  ⟨fun _ _ => rfl, fun _ _ => rfl, fun _ h => .inl ⟨h, rfl⟩, fun _ _ h => ⟨h, rfl⟩, fun _ _ _ => rfl,
    fun _ => ⟨rfl, rfl⟩, fun _ x h => ⟨x, h, rfl, by simp⟩, fun _ => List.prefix_refl _,
    fun _ => List.prefix_refl _, fun _ => ⟨rfl, rfl⟩, rfl⟩

theorem ScanKeeps.trans {s t u : State} (a : ScanKeeps s t) (b : ScanKeeps t u) : ScanKeeps s u where
  lease k h := by
    have ht : (t.lease k).isSome := by rw [a.lease k h]; exact h
    rw [b.lease k ht, a.lease k h]
  handle k h := by
    have ht : (t.lease k).isSome := by rw [a.lease k h]; exact h
    rw [b.handle k ht, a.handle k h]
  free k h := by
    rcases a.free k h with ⟨h1, h2⟩ | ⟨l, h1, h2, h3⟩
    · rw [← h2]
      exact b.free k h1
    · have ht : (t.lease k).isSome := by simp [h1]
      exact .inr ⟨l, by rw [b.lease k ht, h1], h2, by rw [b.handle k ht, h3]⟩
  held n k h := by
    obtain ⟨h1, h2⟩ := a.held n k h
    obtain ⟨h3, h4⟩ := b.held n k h1
    exact ⟨h3, h4.trans h2⟩
  entry q k h := by
    have ht : (t.lease k).isSome := by rw [a.lease k h]; exact h
    rw [b.entry q k ht, a.entry q k h]
  subjects q := ⟨(b.subjects q).1.trans (a.subjects q).1, (b.subjects q).2.trans (a.subjects q).2⟩
  tickets q x hx := by
    obtain ⟨y, hy, e1, e2⟩ := a.tickets q x hx
    obtain ⟨z, hz, e3, e4⟩ := b.tickets q y hy
    refine ⟨z, hz, e3.trans e1, ?_⟩
    rw [← e2, BitVec.and_assoc, e4]
  patInbox c := (a.patInbox c).trans (b.patInbox c)
  guardInbox g := (a.guardInbox g).trans (b.guardInbox g)
  records q := ⟨(b.records q).1.trans (a.records q).1, (b.records q).2.trans (a.records q).2⟩
  settling := b.settling.trans a.settling

theorem takeChannel_inboxes (h : Handle) (params : KindParams) (s : State) :
    (∀ c, vget s.patInbox c <+: vget (takeChannel h params s).patInbox c)
      ∧ ∀ g, vget s.guardInbox g <+: vget (takeChannel h params s).guardInbox g := by
  unfold takeChannel
  cases params <;> refine ⟨fun c => ?_, fun g => ?_⟩ <;> simp [State.tellPattern, State.tellGuard, vget_vset] <;>
    (split <;> simp_all)

theorem grantInto_inboxes (k : Slot) (p : Port) (r : Request) (o : Option Ticket) (s : State) :
    (∀ c, vget s.patInbox c <+: vget (grantInto k p r o s).patInbox c)
      ∧ ∀ g, vget s.guardInbox g <+: vget (grantInto k p r o s).guardInbox g := by
  unfold grantInto
  have := takeChannel_inboxes ((State.mapCells (raiseCount p (claimLines k (grantRecord s p r o).lines
    (fillSlot k (grantRecord s p r o) s))) (grantRecord s p r o).lines
    fun n c => { c with assigned := startLevel (grantRecord s p r o).params n, mismatch := 0 }).handle k)
    (grantRecord s p r o).params (State.mapCells (raiseCount p (claimLines k (grantRecord s p r o).lines
    (fillSlot k (grantRecord s p r o) s))) (grantRecord s p r o).lines
    fun n c => { c with assigned := startLevel (grantRecord s p r o).params n, mismatch := 0 })
  simpa using this

/-- A grant into a FREE slot with unheld lines keeps what a scan keeps. -/
theorem grantInto_keeps {k : Slot} {p : Port} {r : Request} {o : Option Ticket} {s : State}
    (hk : s.lease k = none) (hl : ∀ n, has r.lines n = true → vget s.heldBy n = none) :
    ScanKeeps s (grantInto k p r o s) where
  lease j hj := by
    rw [grantInto_lease, if_neg]
    rintro rfl
    simp [hk] at hj
  handle j hj := by
    rw [grantInto_handle, if_neg]
    · rfl
    · rintro rfl
      simp [hk] at hj
  free j hj := by
    by_cases e : j = k
    · subst e
      refine .inr ⟨grantRecord s p r o, ?_, rfl, ?_⟩
      · rw [grantInto_lease, if_pos rfl]
      · simp [grantInto_handle]
    · refine .inl ⟨?_, ?_⟩
      · rw [grantInto_lease, if_neg e, hj]
      · rw [grantInto_handle, if_neg e]
        rfl
  held n j h := by
    have : has r.lines n = false := by
      by_contra c
      simp [hl n (by simpa using c)] at h
    rw [grantInto_heldBy, grantInto_cell]
    simp [this, h]
  entry q j _ := by simp
  subjects q := by simp
  tickets q x hx := ⟨x, by simpa using hx, rfl, by simp⟩
  patInbox := (grantInto_inboxes k p r o s).1
  guardInbox := (grantInto_inboxes k p r o s).2
  records q := by
    rw [grantInto_portRec]
    split
    · rename_i e
      subst e
      exact ⟨rfl, rfl⟩
    · exact ⟨rfl, rfl⟩
  settling := by simp

/-- A slot post for a slot that was FREE in `s` keeps what a scan from `s` keeps. -/
theorem postSlot_keeps {s t : State} (a : ScanKeeps s t) {q : Port} {k : Slot} {kd : KindSet} {d : Detail}
    (hk : s.lease k = none) : ScanKeeps s (postSlot q k kd d t) where
  lease j hj := by simpa using a.lease j hj
  handle j hj := by simpa using a.handle j hj
  free j hj := by simpa using a.free j hj
  held n j h := by simpa using a.held n j h
  entry r j hj := by
    have hne : j ≠ k := by
      rintro rfl
      simp [hk] at hj
    rw [postSlot_map]
    split
    · rename_i e
      subst e
      rw [slots_postSlot_ne _ _ _ _ hne]
      exact a.entry _ j hj
    · exact a.entry r j hj
  subjects r := by
    rw [postSlot_map]
    split
    · rename_i e
      subst e
      exact a.subjects _
    · exact a.subjects r
  tickets r x hx := by
    rw [postSlot_map]
    split
    · rename_i e
      subst e
      exact a.tickets _ x hx
    · exact a.tickets r x hx
  patInbox c := by simpa using a.patInbox c
  guardInbox g := by simpa using a.guardInbox g
  records r := by simpa using a.records r
  settling := by simpa using a.settling

theorem scanGrant_keeps {s : State} {older : List QueueEntry} {e : QueueEntry}
    (h : blockedBy s older e.port e.request = none) : ScanKeeps s (scanGrant e s) := by
  obtain ⟨h1, ⟨k, h2⟩, -⟩ := blockedBy_none h
  unfold scanGrant
  rw [h2]
  exact postSlot_keeps (grantInto_keeps (freeSlot_none h2) h1) (freeSlot_none h2)

theorem postTicket_keeps (e : QueueEntry) (kd : KindSet) (s : State) : ScanKeeps s (postTicket e kd s) where
  lease k _ := by simp
  handle k _ := by simp
  free k h := .inl (by simpa using h)
  held n k h := by simpa using h
  entry q k _ := by
    rw [postTicket_map]
    split
    · rename_i h
      subst h
      rfl
    · rfl
  subjects q := by
    rw [postTicket_map]
    split
    · rename_i h
      subst h
      exact ⟨rfl, rfl⟩
    · exact ⟨rfl, rfl⟩
  tickets q x hx := by
    rw [postTicket_map]
    split
    · rename_i h
      subst h
      exact insertTicket_keeps _ x _ hx
    · exact ⟨x, hx, rfl, by simp⟩
  patInbox c := by simp
  guardInbox g := by simp
  records q := by simp
  settling := by simp

theorem scanList_keeps_all (es older : List QueueEntry) (s : State) : ScanKeeps s (scanList older es s).2.1 := by
  induction es generalizing older s with
  | nil => exact ScanKeeps.refl s
  | cons e es ih =>
    simp only [scanList]
    split
    · exact (postTicket_keeps e _ s).trans (ih ..)
    · split
      · rename_i h
        exact (scanGrant_keeps (by simpa using h)).trans (ih ..)
      · exact ih ..

/-- The entries that stay after the examination are some of the entries, in their order. -/
theorem scanList_sublist (es older : List QueueEntry) (s : State) :
    List.Sublist (scanList older es s).1 (older ++ es) := by
  induction es generalizing older s with
  | nil => simp [scanList]
  | cons e es ih =>
    simp only [scanList]
    have step : List.Sublist (older ++ es) (older ++ e :: es) := (List.sublist_cons_self ..).append_left _
    split
    · exact (ih ..).trans step
    · split
      · exact (ih ..).trans step
      · simpa using ih (older ++ [e]) s

/-- Everything a queue scan can do to what was there before it (R35, R36). -/
theorem scan_keeps (s : State) : ScanKeeps s (scan s) := by
  have h := scanList_keeps_all s.queue [] s
  exact ⟨h.lease, h.handle, h.free, h.held, h.entry, h.subjects, h.tickets, h.patInbox, h.guardInbox, h.records,
    h.settling⟩

theorem scan_queue (s : State) : List.Sublist (scan s).queue s.queue := by
  have h := scanList_sublist s.queue [] s
  rw [List.nil_append] at h
  exact h

/-! ## The end of a step -/

/-- The line bank's restarts touch mismatch counts alone. -/
theorem restartChecks_cell (b s : State) (n : Line) :
    (restartChecks b s).cell n = s.cell n ∨ (restartChecks b s).cell n = { s.cell n with mismatch := 0 } := by
  unfold restartChecks State.cell
  simp only [vget_vmap]
  split
  · exact .inl rfl
  · exact .inr rfl

/-- What the end of a step keeps: what a scan keeps, mismatch counts apart. -/
structure EndKeeps (s t : State) : Prop where
  lease : ∀ k, (s.lease k).isSome → t.lease k = s.lease k
  handle : ∀ k, (s.lease k).isSome → t.handle k = s.handle k
  free : ∀ k, s.lease k = none → (t.lease k = none ∧ t.handle k = s.handle k)
    ∨ ∃ l, t.lease k = some l ∧ l.state = .active ∧ (t.handle k).gen = nextGen (s.handle k).gen
  held : ∀ n k, vget s.heldBy n = some k → vget t.heldBy n = some k
    ∧ (t.cell n = s.cell n ∨ t.cell n = { s.cell n with mismatch := 0 })
  entry : ∀ q k, (s.lease k).isSome → vget (t.map q).slots k = vget (s.map q).slots k
  subjects : ∀ q, (t.map q).port = (s.map q).port ∧ (t.map q).lines = (s.map q).lines
  tickets : ∀ q, ∀ x ∈ (s.map q).tickets, ∃ y ∈ (t.map q).tickets,
    y.ticket = x.ticket ∧ x.kinds &&& y.kinds = x.kinds
  patInbox : ∀ c, vget s.patInbox c <+: vget t.patInbox c
  guardInbox : ∀ g, vget s.guardInbox g <+: vget t.guardInbox g
  records : ∀ q, (t.portRec q).quiet = (s.portRec q).quiet
    ∧ (t.portRec q).ticketCounter = (s.portRec q).ticketCounter
  settling : t.settling = s.settling
  queue : List.Sublist t.queue s.queue

theorem restartChecks_keeps {b s t : State} (a : ScanKeeps s t) (hq : List.Sublist t.queue s.queue) :
    EndKeeps s (restartChecks b t) where
  lease k h := by simpa using a.lease k h
  handle k h := by simpa using a.handle k h
  free k h := by simpa using a.free k h
  held n k h := by
    obtain ⟨h1, h2⟩ := a.held n k h
    rw [← h2]
    exact ⟨by simpa using h1, restartChecks_cell ..⟩
  entry q k h := by simpa using a.entry q k h
  subjects q := by simpa using a.subjects q
  tickets q x hx := by simpa using a.tickets q x hx
  patInbox c := by simpa using a.patInbox c
  guardInbox g := by simpa using a.guardInbox g
  records q := by simpa using a.records q
  settling := by simpa using a.settling
  queue := by simpa using hq

/-- Everything the end of a step can do to what the step has left (R35). -/
theorem endStep_keeps (b s : State) : EndKeeps s (endStep b s) := by
  unfold endStep
  split
  · exact restartChecks_keeps (scan_keeps s) (scan_queue s)
  · exact restartChecks_keeps (ScanKeeps.refl s) (List.Sublist.refl _)

theorem endStepScan_keeps (b s : State) : EndKeeps s (endStepScan b s) :=
  restartChecks_keeps (scan_keeps s) (scan_queue s)

/-- An entry of a slot that holds a record keeps its kinds through the end of a step. -/
theorem EndKeeps.holds {s t : State} (a : EndKeeps s t) {q : Port} {k : Slot} {gen : Byte} {kind : KindSet}
    (hk : (s.lease k).isSome) (h : Holds s q k gen kind) : Holds t q k gen kind := by
  unfold Holds kindsFor at *
  rwa [a.entry q k hk]

/-! ## Retirement -/

/-- A kind that joins a set is in it. -/
theorem or_and_self (a b : KindSet) : (a ||| b) &&& b = b := by
  ext i hi
  simp
  grind

@[simp] theorem endOffer_handle (k j : Slot) (s : State) : (endOffer k s).handle j = s.handle j := by
  unfold endOffer
  repeat' split
  all_goals simp

@[simp] theorem withdrawOffer_handle (k j : Slot) (s : State) : (withdrawOffer k s).handle j = s.handle j := by
  unfold withdrawOffer
  repeat' split
  all_goals simp

@[simp] theorem cancelOffer_handle (t : Port) (k j : Slot) (s : State) :
    (cancelOffer t k s).handle j = s.handle j := by
  unfold cancelOffer
  repeat' split
  all_goals simp

theorem restLines_cell (k : Slot) (lines : LineSet) (s : State) (n : Line) :
    (restLines k lines s).cell n
      = if has lines n then { s.cell n with assigned := none, mismatch := 0, settle := (s.profile n).settle }
        else s.cell n := by
  have : (restLines k lines s).cell n = (s.mapCells lines fun n c =>
      { c with assigned := none, mismatch := 0, settle := (s.profile n).settle }).cell n := rfl
  rw [this, State.mapCells_cell]

/-- Entry to RETIRING does what R59 says to a live lease that holds its lines. -/
theorem retire_retired {s : State} {k : Slot} {l : Lease} (hk : s.lease k = some l) (hl : l.state.live = true)
    (hh : ∀ n, has l.lines n = true → vget s.heldBy n = some k) (r : CloseReason) :
    Retired s (retire k r s) k l r := by
  have e : retire k r s = freeChannel l.params (restLines k l.lines
      ((withdrawOffer k s).setLease k { l with state := .retiring r, faults := 0#16 })) := by
    simp [retire, hk, hl]
  constructor
  · simp [e]
  · simp [e]
  · intro n hn
    simp [e, restLines_cell, hn, hh n hn]
  · simp [e, restLines]
  · intro target left h
    unfold Holds
    have : (retire k r s).map target
        = (s.map target).postSlot k (s.handle k).gen SlotKind.offerWithdrawn .none := by
      rw [e]
      simp [withdrawOffer, hk, h, endOffer]
    rw [this, kindsFor_postSlot, or_and_self]
  · intro spec c h
    simp [e, freeChannel, h, State.tellPattern]
  · intro spec armed g h
    simp [e, freeChannel, h, State.tellGuard]

/-- A retirement stands through the end of its step. -/
theorem Retired.endKeeps {s t u : State} {k : Slot} {l : Lease} {r : CloseReason} (h : Retired s t k l r)
    (a : EndKeeps t u) : Retired s u k l r := by
  have hk : (t.lease k).isSome := by simp [h.record]
  constructor
  · rw [a.lease k hk, h.record]
  · rw [a.handle k hk, h.handle]
  · intro n hn
    obtain ⟨h1, h2, h3, h4⟩ := h.lines n hn
    obtain ⟨g1, g2⟩ := a.held n k h4
    rcases g2 with g2 | g2 <;> rw [g2] <;> simp [h1, h2, h3, g1]
  · rw [a.settling, h.settling]
  · exact fun target left e => a.holds hk (h.offer target left e)
  · exact fun spec c e => (a.patInbox c).subset (h.pattern spec c e)
  · exact fun spec armed g e => (a.guardInbox g).subset (h.guard spec armed g e)

/-- A lease that holds its lines is named by the held-by entry of each. -/
theorem Safe.lines {s : State} (h : Safe s) {k : Slot} {l : Lease} (hk : s.lease k = some l)
    (hl : l.state.live = true) (n : Line) (hn : has l.lines n = true) : vget s.heldBy n = some k := by
  rw [h.held n k]
  cases e : l.state <;> simp_all [holdsLine, LeaseState.live, LeaseState.isClosed]

theorem withdrawOffer_lease_ne {k j : Slot} (s : State) (h : j ≠ k) : (withdrawOffer k s).lease j = s.lease j := by
  unfold withdrawOffer endOffer
  repeat' split
  all_goals simp [h]

/-- A retirement leaves the other records alone. -/
theorem retire_lease_ne {k j : Slot} (r : CloseReason) (s : State) (h : j ≠ k) :
    (retire k r s).lease j = s.lease j := by
  unfold retire
  repeat' split
  all_goals simp [h, withdrawOffer_lease_ne]

@[simp] theorem retire_handle (k j : Slot) (r : CloseReason) (s : State) :
    (retire k r s).handle j = s.handle j := by
  unfold retire
  repeat' split
  all_goals simp

/-- A retirement told from a state with the same handle and profiles. -/
theorem Retired.from_eq {s s' t : State} {k : Slot} {l : Lease} {r : CloseReason} (h : Retired s' t k l r)
    (h1 : s'.handle k = s.handle k) (h2 : ∀ n, s'.profile n = s.profile n) : Retired s t k l r := by
  obtain ⟨a, b, c, d, e, f, g⟩ := h
  exact ⟨a, by rw [b, h1], by simpa only [h2] using c, by rw [d, h1], by simpa only [h1] using e, f, g⟩

/-- A retirement stands in a state that differs in nothing it speaks of. -/
theorem Retired.to_eq {s t u : State} {k : Slot} {l : Lease} {r : CloseReason} (h : Retired s t k l r)
    (h1 : u.slots = t.slots) (h2 : u.cells = t.cells) (h3 : u.heldBy = t.heldBy) (h4 : u.settling = t.settling)
    (h5 : u.maps = t.maps) (h6 : u.patInbox = t.patInbox) (h7 : u.guardInbox = t.guardInbox) :
    Retired s u k l r := by
  obtain ⟨a, b, c, d, e, f, g⟩ := h
  exact ⟨by simpa [State.lease, h1] using a, by simpa [State.handle, h1] using b,
    by simpa [State.cell, h2, h3] using c, by simpa [h4] using d, by simpa [Holds, State.map, h5] using e,
    by simpa [h6] using f, by simpa [h7] using g⟩

/-- A retirement stands when a kind is posted. -/
theorem Retired.post {s t : State} {k : Slot} {l : Lease} {r : CloseReason} (h : Retired s t k l r) (q : Port)
    (kd : KindSet) (d : Detail) : Retired s (postSlot q k kd d t) k l r := by
  refine ⟨by simpa using h.record, by simpa using h.handle, by simpa using h.lines, by simpa using h.settling,
    fun target left e => ?_, by simpa using h.pattern, by simpa using h.guard⟩
  exact holds_postSlot (h.offer target left e) (fun _ => by rw [h.handle]) rfl

/-- What the work of a step on one slot leaves of the other records, the end of the step leaves. -/
theorem EndKeeps.othersKept {s t u : State} {k : Slot} (a : EndKeeps t u)
    (h : ∀ j, j ≠ k → t.lease j = s.lease j) (h' : ∀ j, t.handle j = s.handle j) : OthersKept s u k := by
  intro j hj hi
  rw [← h j hj] at hi
  exact ⟨(a.lease j hi).trans (h j hj), (a.handle j hi).trans (h' j)⟩

end Sys2Proof.Machine
end

