-- ==== Sys2Proof/WellFormed.lean ====
section
/-! DEFINITION. Which rows are well formed: what their types do not already say. -/

namespace Sys2Proof

/-- The parts of a tick that `order` lists are each listed once: a part takes the tick once (R130). -/
def TickPart.distinct (order : List TickPart) : Bool := decide order.Nodup

/-- A read transaction clocks out at least one byte: the host ends it by not acknowledging the last byte
it wants (R167). -/
def readCountOk (count : Nat) : Bool := decide (1 ≤ count)

/-- A ticket is one of 1 to 255 (R31). -/
def ticketOk (ticket : Byte) : Bool := decide (ticket ≠ 0)

/-- The checks on a row's operands. -/
def Instr.wellFormed : Instr → Bool
  | .msTick _ _ order => TickPart.distinct order
  | .i2cRead _ count => readCountOk count
  | .waitExpiry _ ticket => ticketOk ticket
  | .request _ | .cancelWait _ | .queryQueue _ | .queryLease _ | .lookupLine _ | .renew _ | .release _
  | .revoke _ | .offer _ | .accept _ | .decline _ | .withdraw _ | .setGuard _ | .setLevels _
  | .restartPattern _ | .readLevels _ | .clearFault _ | .setLineProfile _ | .setCharter _ | .readCharter _
  | .resetPort _ | .nextNotice _ | .ackNotice _ | .unknownCommand _ | .termTick | .termEnd _ | .graceEnd _
  | .offerLapse _ | .quietEnd _ | .edgeReport _ | .faultReport _ | .restFaultReport _ | .settleComplete _
  | .patternDoneReport _ | .fireReport _ | .debouncedChange _ | .driveFault _ | .settleCountdownEnd _
  | .stepEnd _ | .guardFire _ | .pulseEnd _ | .patternSetup _ | .patternPause _ | .patternResume _
  | .patternRestart _ | .patternFree _ | .guardSetup _ | .guardArm _ | .guardDisarm _ | .guardSuspend _
  | .guardUnsuspend _ | .guardFree _ | .i2cAddress _ _ | .i2cOffset _ _ | .windowWrite _ _ | .controlGo _ _
  | .i2cStallTimeout _ | .deviceReset | .rstnRelease _ | .i2cStop _ => true

end Sys2Proof
end

