-- ==== Sys2Proof/Tests/Slice0.lean ====
section
/-! SUPPORT. Tests of the model on small states. Expected values are the spec's: each test names its rule or
worked sequence. -/

namespace Sys2Proof.Tests

open Sys2Proof.Machine

-- One theorem at a time: each kernel evaluation otherwise waits on a thread of its own.
set_option Elab.async false

/-! ## WellFormed -/

theorem test_wf_order_refused :
    (Instr.msTick 0 ⟨0, 0⟩ [.pattern 0, .pattern 0]).wellFormed = false := by decide

theorem test_wf_order_taken : (Instr.msTick 0 ⟨0, 0⟩ [.pattern 0, .guard 0]).wellFormed = true := by decide

theorem test_wf_read_count_refused : (Instr.i2cRead 0 0).wellFormed = false := by decide

theorem test_wf_ticket_refused : (Instr.waitExpiry 0 0).wellFormed = false := by decide

/-! ## Decode (R171) -/

theorem test_decode_renew : decodeCommand 2 0x10 = .renew 2 := by decide

theorem test_decode_ackNotice : decodeCommand 0 0x41 = .ackNotice 0 := by decide

theorem test_decode_zero : decodeCommand 3 0x00 = .unknownCommand 3 := by decide

theorem test_decode_gap : decodeCommand 1 0x04 = .unknownCommand 1 := by decide

theorem test_no_table_word : decodeTableWord 8 0x10 = none := rfl

/-! ## Small states -/

/-- The state after a step. -/
def run (i : Instr) (s : State) : State :=
  match exec i s with
  | .next t => t
  | .fault _ | .refused _ => s

/-- Port `p` has set GO on a command with these argument bytes. -/
def ask (p : Port) (code : Byte) (args : List Byte) (s : State) : State :=
  s.setWindow p { s.window p with command := code, phase := .pending, args := vtab fun i => args.getD i.val 0 }

/-- The channel of a live lease is taken. -/
def takeFor (l : Lease) (s : State) : State :=
  if l.state.live then
    match l.params with
    | .pattern _ c => { s with patTaken := vset s.patTaken c true }
    | .guard _ _ g => { s with guardTaken := vset s.guardTaken g true }
    | .drive _ _ _ | .watch _ _ _ _ => s
  else s

/-- A lease stands in a slot that was never taken: its handle has generation 1. -/
def place (k : Slot) (l : Lease) (s : State) : State :=
  let s := raiseCount l.holder (fillSlot k l s)
  takeFor l (if l.state.isClosed then s else claimLines k l.lines s)

/-- A DRIVE of P1 on L0 and L1, level 1 on L0, granted 3000 with 50 left (11.3's charter fields). -/
def drive (st : LeaseState) : Lease :=
  { holder := 1, lines := 0x0003#16, params := .drive .pushPull 0x0001#16 none, state := st
    term := some { granted := 3000, remaining := some 50 }, grace := 100, warn := 20, termLow := false
    outOfCharter := false, origin := none, faults := 0#16 }

/-- A PATTERN of P1 on L2: 2 ms at 1, 3 ms at 0, once. -/
def twoSteps : PatternSpec :=
  { drive := .pushPull, steps := [⟨0x0004#16, 2⟩, ⟨0x0000#16, 3⟩], loops := 1, safe := none }

def pattern (st : LeaseState) : Lease :=
  { drive st with lines := 0x0004#16, params := .pattern twoSteps 0 }

/-- A WATCH of P1 on L3 for both edges. -/
def watch (changed : LineSet) (st : LeaseState) : Lease :=
  { drive st with lines := 0x0008#16, params := .watch .up 0x0008#16 0x0008#16 changed }

/-- The panel guard of 11.1: P0, pinned, L0 and L1 at 0 for 300 units, pulse 20 units low on L15, recall of P2. -/
def panel : GuardSpec :=
  { conditions := [⟨0, false⟩, ⟨1, false⟩], hold := 300, action := some ⟨15, false, 20⟩, recallSpec := some ⟨2, 1000⟩ }

def guard (st : LeaseState) : Lease :=
  { drive st with holder := 0, lines := 0x8000#16, params := .guard panel true 0, term := none }

/-- The guard channel of the panel guard. -/
def panelChan (sub : Substate) : GuardChannel :=
  { handle := ⟨0, 1⟩, conditions := panel.conditions, hold := 300, action := panel.action, recallAttached := true
    substate := sub }

/-- The pattern channel of the two-step pattern in slot 0. -/
def patternChan (step : Nat) (ph : PatternPhase) : PatternChannel :=
  { handle := ⟨0, 1⟩, drive := .pushPull, steps := twoSteps.steps, loops := 1, step := step, phase := ph }

/-- P2's charter of 11.1. -/
def charterP2 : Charter := ⟨0x01E0#16, 3, 500, 50, 20, false, false, .retire⟩

def withCharter (p : Port) (c : Charter) (s : State) : State := { s with charters := vset s.charters p c }

/-- A charter that permits every line and everything else. -/
def open1 (s : State) : State := withCharter 1 Charter.resetP0 s

/-- An entry of P1 that waits for L6 with a wait limit of 300. -/
def waiter (p : Port) (ticket : Byte) (left : Nat) : QueueEntry :=
  { ticket := ticket, port := p, args := Vector.replicate 32 0#8
    request := { kind := .drive .pushPull 0#16 none, lines := 0x0040#16, term := 100, pinned := false, waitLimit := 300 }
    waitRemaining := left, arrival := 0 }

def status (p : Port) (s : State) : Status := (s.window p).status

/-- The first result bytes of a port's window. -/
def result (p : Port) (n : Nat) (s : State) : List Byte := (s.window p).result.toList.take n

/-! ## Requests -/

/-- 11.1: P1's DRIVE on L4 and L5 with term 3000 is granted with term 3000, not clamped. -/
theorem test_request_granted :
    let t := run (.request 1) (ask 1 0x01 [0x00, 0, 0, 0x30, 0x0B, 0xB8, 0, 0, 0, 0x10] (open1 State.reset))
    (status 1 t, result 1 5 t) = (.ok, [0, 1, 0x0B, 0xB8, 0]) := by decide +kernel

/-- 11.2 b): a line that a waiting entry names is answered LINES_BUSY, queued, handle 0xFFFF. -/
theorem test_request_linesBusy :
    let t := run (.request 1) (ask 1 0x01 [0x00, 0, 0, 0x40, 0, 100, 0, 0]
      (open1 { State.reset with queue := [waiter 2 1 300] }))
    (status 1 t, result 1 4 t) = (.linesBusy, [6, 1, 0xFF, 0xFF]) := by decide +kernel

/-- 11.2 c): with a wait limit of 6000 it is queued with ticket 1 at position 1. -/
theorem test_request_queued :
    let t := run (.request 1) (ask 1 0x01 [0x00, 0, 0, 0x40, 0, 100, 0x17, 0x70]
      (open1 { State.reset with queue := [waiter 2 1 300] }))
    (status 1 t, result 1 4 t) = (.queued, [1, 1, 0x17, 0x70]) := by decide +kernel

/-- R39: a ticket of another port is not the asker's. -/
theorem test_cancelWait_other :
    status 1 (run (.cancelWait 1) (ask 1 0x02 [1] { State.reset with queue := [waiter 2 1 300] }))
      = .noSuchTicket := by decide +kernel

/-- R177: view 0 of QUERY_QUEUE on 11.2's queue at position 1: blocked by order, line 6, older entry P2-1. -/
theorem test_queryQueue_order :
    let t := run (.queryQueue 3) (ask 3 0x03 [1, 0] { State.reset with queue := [waiter 2 1 300, waiter 3 1 6000] })
    result 3 13 t = [2, 1, 1, 3, 0, 0, 0x40, 0x17, 0x70, 2, 6, 2, 1] := by decide +kernel

/-! ## The lease table -/

/-- R177: a FREE slot gives its number and generation. -/
theorem test_queryLease_free :
    result 1 4 (run (.queryLease 1) (ask 1 0x08 [5, 0] State.reset)) = [0, 5, 0, 0] := by decide +kernel

/-- R177: the public fields of a lease as another port sees them, restricted ones withheld. -/
theorem test_queryLease_other :
    let t := run (.queryLease 2) (ask 2 0x08 [0, 0] (place 0 (drive .active) State.reset))
    result 2 18 t = [1, 0, 1, 1, 0, 0, 3, 4, 0, 50, 0xFF, 0xFF, 0, 0, 0xFF, 0xFF, 0xFF, 0xFF] := by decide +kernel

/-- R179: a held line in LOOKUP_LINE. -/
theorem test_lookupLine_held :
    let t := run (.lookupLine 3) (ask 3 0x09 [1] (place 0 (drive .active) State.reset))
    result 3 9 t = [1, 0, 1, 1, 1, 0, 0, 0, 0] := by decide +kernel

/-- 10.5: RENEW with term 0 gives the granted term 50 back, and SEQUENCE goes from 17 to 18. -/
theorem test_renew :
    let l : Lease := { drive .active with holder := 2, term := some ⟨50, some 7⟩ }
    let s := place 0 l State.reset
    let s := s.setWindow 2 { s.window 2 with sequence := 17 }
    let t := run (.renew 2) (ask 2 0x10 [0, 1, 0, 0] (withCharter 2 charterP2 s))
    (status 2 t, result 2 3 t, (t.window 2).sequence, (t.lease 0).bind (·.term))
      = (.ok, [0, 50, 0], 18, some ⟨50, some 50⟩) := by decide +kernel

/-- R59, R60: RELEASE takes the lines to rest with the settle of the profile, and the lines stay held. -/
theorem test_release :
    let s := place 0 (drive .active) State.reset
    let s := s.setProfile 0 { Profile.reset with settle := 10 }
    let t := run (.release 1) (ask 1 0x11 [0, 1] s)
    ((t.lease 0).map (·.state), (t.cell 0).assigned, (t.cell 0).settle, vget t.heldBy 0)
      = (some (.retiring .released), none, 10, some 0) := by decide +kernel

/-- R57: REVOKE posts REVOKED to the holder. -/
theorem test_revoke :
    let t := run (.revoke 0) (ask 0 0x12 [0, 1] (place 0 (drive .active) State.reset))
    (status 0 t, kindsFor (t.map 1) 0 1) = (.ok, SlotKind.revoked) := by decide +kernel

/-! ## Handover (11.3) -/

/-- OFFER opens a window of 200 and posts OFFER_RECEIVED to the target. -/
theorem test_offer :
    let t := run (.offer 1) (ask 1 0x18 [0, 1, 2] (place 0 (drive .active) State.reset))
    ((t.lease 0).map (·.state), kindsFor (t.map 2) 0 1) = (some (.handover 2 200), SlotKind.offerReceived) := by
  decide +kernel

/-- ACCEPT taken first: granted 3000 is clamped to P2's 500, and P1 receives HANDED_OVER. -/
theorem test_accept :
    let l : Lease := { drive (.handover 2 197) with lines := 0x0080#16 }
    let t := run (.accept 2) (ask 2 0x19 [0, 1] (withCharter 2 charterP2 (place 0 l State.reset)))
    (result 2 3 t, (t.lease 0).map (fun l => (l.holder, l.state, l.grace, l.warn)), kindsFor (t.map 1) 0 1)
      = ([1, 0xF4, 1], some (2, .active, 50, 20), SlotKind.handedOver) := by decide +kernel

/-- ACCEPT moves the counts (R13). -/
theorem test_accept_counts :
    let l : Lease := { drive (.handover 2 197) with lines := 0x0080#16 }
    let t := run (.accept 2) (ask 2 0x19 [0, 1] (withCharter 2 charterP2 (place 0 l State.reset)))
    ((t.portRec 1).occupied, (t.portRec 2).occupied) = (0, 1) := by decide +kernel

/-- R74. -/
theorem test_decline :
    let t := run (.decline 2) (ask 2 0x1A [0, 1] (place 0 (drive (.handover 2 5)) State.reset))
    ((t.lease 0).map (·.state), kindsFor (t.map 1) 0 1) = (some .active, SlotKind.offerDeclined) := by
  decide +kernel

/-- R75. -/
theorem test_withdraw :
    let t := run (.withdraw 1) (ask 1 0x1B [0, 1] (place 0 (drive (.handover 2 5)) State.reset))
    ((t.lease 0).map (·.state), kindsFor (t.map 2) 0 1) = (some .active, SlotKind.offerWithdrawn) := by
  decide +kernel

/-! ## Kind commands -/

/-- R89: a disarm writes armed-requested and is sent to the channel. -/
theorem test_setGuard :
    let t := run (.setGuard 0) (ask 0 0x20 [0, 1, 0] (place 0 (guard .active) State.reset))
    ((t.lease 0).map (·.params), vget t.guardInbox 0) = (some (.guard panel false 0), [.disarm]) := by
  decide +kernel

/-- R105: the levels of lines outside the lease are ignored. -/
theorem test_setLevels :
    let t := run (.setLevels 1) (ask 1 0x28 [0, 1, 0xFF, 0xFE] (place 0 (drive .active) State.reset))
    ((t.lease 0).map (·.params), appliedConfig t 0, appliedConfig t 1)
      = (some (.drive .pushPull 0x0002#16 none), .pushPull false, .pushPull true) := by decide +kernel

/-- R111: in GRACE the command is refused. -/
theorem test_restartPattern_grace :
    status 1 (run (.restartPattern 1) (ask 1 0x29 [0, 1] (place 0 (pattern (.grace 3)) State.reset)))
      = .wrongState := by decide +kernel

/-- R115: with take yes the changed set is read and emptied. -/
theorem test_readLevels_take :
    let t := run (.readLevels 1) (ask 1 0x2A [0, 1, 1] (place 0 (watch 0x0008#16 .active) State.reset))
    (result 1 6 t, (t.lease 0).map (·.params.changed)) = ([0, 0, 0, 8, 0, 0], some 0#16) := by decide +kernel

/-- R120: the cleared line shows its level again, and the rest of the fault set is the result. -/
theorem test_clearFault :
    let l : Lease := { drive .active with faults := 0x0003#16 }
    let t := run (.clearFault 1) (ask 1 0x2B [0, 1, 0, 1] (place 0 l State.reset))
    (result 1 2 t, appliedConfig t 1) = ([0, 2], .highImpedance) := by decide +kernel

/-! ## Administration -/

/-- 11.1: L8 becomes DRIVE_LOW with settle 50 and fault check on; R179's result. -/
theorem test_setLineProfile :
    let t := run (.setLineProfile 0) (ask 0 0x30 [8, 3, 4, 50, 1] State.reset)
    (result 0 6 t, appliedConfig t 8) = ([8, 3, 4, 50, 1, 0], .pushPull false) := by decide +kernel

/-- 11.1: P1's charter; R179 gives the ten charter bytes, then the counts. -/
theorem test_setCharter :
    let t := run (.setCharter 0)
      (ask 0 0x38 [1, 0x00, 0xB0, 3, 0x0B, 0xB8, 100, 100, 0, 0, 0] State.reset)
    (result 0 12 t, (t.map 1).port) = ([0, 0xB0, 3, 0x0B, 0xB8, 100, 100, 0, 0, 0, 0, 0], PortKind.charterChanged) := by
  decide +kernel

/-- R138, R144: the reset charter of P0, and its three record values. -/
theorem test_readCharter :
    result 0 14 (run (.readCharter 0) (ask 0 0x39 [0] State.reset))
      = [0xFF, 0xFF, 24, 0x17, 0x70, 100, 100, 1, 1, 0, 0, 0, 0, 0] := by decide +kernel

/-- R146, R148: a reset of P1 by P0. -/
theorem test_resetPort :
    let t := run (.resetPort 0) (ask 0 0x3A [1] (place 0 (drive .active) State.reset))
    ((t.lease 0).map (·.state), status 0 t, status 1 t, (t.window 1).sequence)
      = (some (.retiring .portReset), .ok, .portWasReset, 1) := by decide +kernel

/-! ## Notices -/

/-- R156, R178: the port subject comes first. -/
theorem test_nextNotice :
    let s := postPort 1 PortKind.recalled (postSlot 1 0 SlotKind.termLow .none (place 0 (drive .active) State.reset))
    let t := run (.nextNotice 1) (ask 1 0x40 [] s)
    ((t.window 1).result.toList.take 5, windowByte t 1 0x2C) = ([0, 0xFF, 0xFF, 0, 1], 2) := by decide +kernel

/-- R15, R159: an acknowledgment of RETIRED frees the CLOSED record. -/
theorem test_ackNotice_retired :
    let s := postSlot 1 0 SlotKind.retired (.reason .released) (place 0 (drive (.closed .released)) State.reset)
    let t := run (.ackNotice 1) (ask 1 0x41 [2, 0, 1, 0, 8] s)
    (status 1 t, t.lease 0, (t.handle 0).gen, (t.portRec 1).occupied, result 1 5 t)
      = (.ok, none, 1, 0, [0, 8, 0, 0, 0]) := by decide +kernel

/-- R171: a code that is not in the table. -/
theorem test_unknownCommand :
    status 3 (run (.unknownCommand 3) (ask 3 0x7F [] State.reset)) = .unknownCommand := by decide +kernel

/-! ## Term ticks -/

/-- 11.3, tick taken first: the offer is withdrawn and the lease enters GRACE with 100. -/
theorem test_termTick_ends :
    let l : Lease := { drive (.handover 2 197) with term := some ⟨3000, some 1⟩, termLow := true }
    let t := run .termTick (place 0 l State.reset)
    ((t.lease 0).map (·.state), kindsFor (t.map 1) 0 1, kindsFor (t.map 2) 0 1)
      = (some (.grace 100), SlotKind.graceEntered, SlotKind.offerWithdrawn) := by decide +kernel

/-- R46: TERM_LOW at the margin. -/
theorem test_termTick_low :
    let l : Lease := { drive .active with term := some ⟨3000, some 21⟩ }
    let t := run .termTick (place 0 l State.reset)
    ((t.lease 0).map (·.termLow), kindsFor (t.map 1) 0 1) = (some true, SlotKind.termLow) := by decide +kernel

/-- R45: grace 0 takes the lease straight to RETIRING. -/
theorem test_termEnd :
    let l : Lease := { drive .active with term := some ⟨10, some 0⟩, grace := 0 }
    ((run (.termEnd 0) (place 0 l State.reset)).lease 0).map (·.state) = some (.retiring .expired) := by
  decide +kernel

/-- R49. -/
theorem test_graceEnd :
    ((run (.graceEnd 0) (place 0 (drive (.grace 0)) State.reset)).lease 0).map (·.state)
      = some (.retiring .expired) := by decide +kernel

/-- R76. -/
theorem test_offerLapse :
    let t := run (.offerLapse 0) (place 0 (drive (.handover 2 0)) State.reset)
    ((t.lease 0).map (·.state), kindsFor (t.map 1) 0 1, kindsFor (t.map 2) 0 1)
      = (some .active, SlotKind.offerLapsed, 0#16) := by decide +kernel

/-- R38. -/
theorem test_waitExpiry :
    let t := run (.waitExpiry 2 1) { State.reset with queue := [waiter 2 1 0] }
    (t.queue.length, (t.map 2).tickets.map fun e => (e.ticket, e.kinds)) = (0, [(1, TicketKind.waitExpired)]) := by
  decide +kernel

/-- R50. -/
theorem test_quietEnd :
    let s := State.reset.setPortRec 2 { State.reset.portRec 2 with quiet := some 0 }
    let t := run (.quietEnd 2) s
    ((t.portRec 2).quiet, (t.map 2).port) = (none, PortKind.quietEnded) := by decide +kernel

/-! ## Reports -/

/-- R114. -/
theorem test_edgeReport :
    let s := { place 0 (watch 0#16 .active) State.reset with reports := [.edge ⟨0, 1⟩ 3 true] }
    let t := run (.edgeReport 3) s
    ((t.lease 0).map (·.params.changed), kindsFor (t.map 1) 0 1) = (some 0x0008#16, SlotKind.edge) := by
  decide +kernel

/-- R117: under HOLD the line goes to high impedance and the lease stays. -/
theorem test_faultReport :
    let s := { place 0 (drive .active) State.reset with reports := [.fault ⟨0, 1⟩ 0] }
    let t := run (.faultReport 0) s
    ((t.lease 0).map (fun l => (l.faults, l.state)), appliedConfig t 0, kindsFor (t.map 1) 0 1)
      = (some (1#16, .active), .highImpedance, SlotKind.lineFault) := by decide +kernel

/-- R135. -/
theorem test_restFaultReport :
    let t := run (.restFaultReport 4) { State.reset with reports := [.restFault 4] }
    ((t.map 0).subjects, (t.map 1).subjects) = ([.line 4], []) := by decide +kernel

/-- R62: RETIRED with the reason as its detail, and the lines are unheld. -/
theorem test_settleComplete :
    let s := { place 0 (drive (.retiring .released)) State.reset with reports := [.settleComplete ⟨0, 1⟩] }
    let t := run (.settleComplete 0) s
    ((t.lease 0).map (·.state), vget t.heldBy 1, (vget (t.map 1).slots 0).bind (·.reason))
      = (some (.closed .released), none, some .released) := by decide +kernel

/-- R109. -/
theorem test_patternDoneReport :
    let s := { place 0 (pattern .active) State.reset with reports := [.patternDone ⟨0, 1⟩] }
    kindsFor ((run (.patternDoneReport 0) s).map 1) 0 1 = SlotKind.patternDone := by decide +kernel

/-- 11.4: the panel guard recalls P2: its lease retires, RECALLED is posted, and P2 is quiet for 1000. -/
theorem test_fireReport :
    let s := place 1 { drive .active with holder := 2 } (place 0 (guard .active) State.reset)
    let t := run (.fireReport 0) { s with reports := [.fire ⟨0, 1⟩ true] }
    ((t.lease 1).map (·.state), (t.map 2).port, (t.portRec 2).quiet,
        (vget (t.map 0).slots 0).bind (·.outcome))
      = (some (.retiring .recalled), PortKind.recalled, some 1000, some .done) := by decide +kernel

/-! ## The 1 ms tick -/

/-- R130: with debounce 4 the fifth sample makes the change. R168: SCL low since 25 ticks abandons at this one, and
not when it has been high since the tick before. -/
theorem test_msTick_debounce_and_stall :
    (let s := State.reset.setCell 5 { Cell.reset with stability := 4 }
     ((run (.msTick 0x0020#16 ⟨0, 0⟩ []) s).cell 5).debounced = true)
    ∧ let s := State.reset.setBus 1 { Bus.reset with state := .writing, stall := 25 }
      ((run (.msTick 0 ⟨2#4, 0⟩ []) s).bus 1).state = .waiting
        ∧ (run (.msTick 0 ⟨2#4, 2#4⟩ []) s).bus 1 = { s.bus 1 with stall := 1 } := by decide +kernel

/-- R60: a largest settle of 0 reports at the first tick. -/
theorem test_msTick_settle :
    let s := run (.release 1) (ask 1 0x11 [0, 1] (place 0 (drive .active) State.reset))
    (run (.msTick 0 ⟨0, 0⟩ []) s).reports = [.settleComplete ⟨0, 1⟩] := by decide +kernel

/-- R130, R131: the change on a line of a live WATCH lease sends an edge report. -/
theorem test_debouncedChange :
    let s := (place 0 (watch 0#16 .active) State.reset).setCell 3 { Cell.reset with stability := 4 }
    (run (.debouncedChange 3) s).reports = [.edge ⟨0, 1⟩ 3 true] := by decide +kernel

/-- R135: a fault at rest sets the flag and shows high impedance. -/
theorem test_driveFault_rest :
    let s := (State.reset.setCell 4 { Cell.reset with mismatch := 4 }).setProfile 4
      { Profile.reset with rest := .driveLow, faultCheck := true }
    let t := run (.driveFault 4) s
    ((t.profile 4).restFault, appliedConfig t 4, t.reports) = (true, .highImpedance, [.restFault 4]) := by
  decide +kernel

/-- R132. -/
theorem test_settleCountdownEnd :
    let s := { State.reset with settling := vset State.reset.settling 7 (some ⟨3, 0x0030#16, true⟩) }
    (run (.settleCountdownEnd 7) s).reports = [.settleComplete ⟨7, 3⟩] := by decide +kernel

/-- R108, R109: after the last step of the last loop the channel is DONE and reports. -/
theorem test_stepEnd_done :
    let s := (place 0 (pattern .active) State.reset).setPatChan 0 (some (patternChan 1 (.running 0 (some 1))))
    (run (.stepEnd 0) s).reports = [.patternDone ⟨0, 1⟩] := by decide +kernel

/-- R86: the pulse of 20 units is 200 ms, at level 0 on L15. -/
theorem test_guardFire :
    let s := (place 0 (guard .active) State.reset).setGuardChan 0 (some (panelChan (.holding 0)))
    let t := run (.guardFire 0) s
    ((vget t.guardChans 0).map (·.substate), appliedConfig t 15, t.reports)
      = (some (.firing 200), .pushPull false, [.fire ⟨0, 1⟩ true]) := by decide +kernel

/-- R87: at pulse end with the buttons held the guard is SPENT and L15 idle. -/
theorem test_pulseEnd :
    let s := (place 0 (guard .active) State.reset).setGuardChan 0 (some (panelChan (.firing 0)))
    let t := run (.pulseEnd 0) s
    ((vget t.guardChans 0).map (·.substate), appliedConfig t 15) = (some .spent, .pushPull true) := by
  decide +kernel

/-! ## Channel instructions -/

/-- R107: a set-up runs from step 0 with its duration and all loops. -/
theorem test_patternSetup :
    let s := (place 0 (pattern .active) State.reset).tellPattern 0 (.setup ⟨0, 1⟩ twoSteps)
    vget (run (.patternSetup 0) s).patChans 0 = some (patternChan 0 (.running 2 (some 1))) := by decide +kernel

/-- R110: a pause keeps the step, and the line keeps that step's level. -/
theorem test_patternPause :
    let s := (place 0 (pattern (.grace 9)) State.reset).setPatChan 0 (some (patternChan 0 (.running 1 (some 1))))
    let t := run (.patternPause 0) (s.tellPattern 0 .pause)
    (vget t.patChans 0, (t.cell 2).assigned) = (some (patternChan 0 (.paused (some 1))), some true) := by
  decide +kernel

/-- R110: a resume gives the step its full duration. -/
theorem test_patternResume :
    let s := (place 0 (pattern .active) State.reset).setPatChan 0 (some (patternChan 1 (.paused (some 1))))
    vget (run (.patternResume 0) (s.tellPattern 0 .resume)).patChans 0
      = some (patternChan 1 (.running 3 (some 1))) := by decide +kernel

/-- R112: a restart after DONE runs from step 0. -/
theorem test_patternRestart :
    let s := (place 0 (pattern .active) State.reset).setPatChan 0 (some (patternChan 1 .done))
    vget (run (.patternRestart 0) (s.tellPattern 0 .restart)).patChans 0
      = some (patternChan 0 (.running 2 (some 1))) := by decide +kernel

theorem test_patternFree :
    let s := State.reset.setPatChan 0 (some (patternChan 1 .done))
    vget (run (.patternFree 0) (s.tellPattern 0 .free)).patChans 0 = none := by decide +kernel

/-- R28: armed while the buttons read pressed starts SPENT. -/
theorem test_guardSetup :
    let s := (place 0 (guard .active) State.reset).tellGuard 0 (.setup ⟨0, 1⟩ panel true true)
    vget (run (.guardSetup 0) s).guardChans 0 = some (panelChan .spent) := by decide +kernel

/-- R89: an arm in HOLDING changes nothing. -/
theorem test_guardArm_holding :
    let s := State.reset.setGuardChan 0 (some (panelChan (.holding 7)))
    vget (run (.guardArm 0) (s.tellGuard 0 .arm)).guardChans 0 = some (panelChan (.holding 7)) := by
  decide +kernel

/-- R89, R90: a disarm in FIRING cuts the pulse. -/
theorem test_guardDisarm :
    let s := (place 0 (guard .active) State.reset).setGuardChan 0 (some (panelChan (.firing 9)))
    let t := run (.guardDisarm 0) (s.tellGuard 0 .disarm)
    (vget t.guardChans 0, appliedConfig t 15) = (some (panelChan .disarmed), .pushPull true) := by decide +kernel

/-- R91. -/
theorem test_guardSuspend :
    let s := State.reset.setGuardChan 0 (some (panelChan (.holding 7)))
    vget (run (.guardSuspend 0) (s.tellGuard 0 .suspend)).guardChans 0 = some (panelChan .suspended) := by
  decide +kernel

/-- R54: not armed leaves SUSPENDED for DISARMED. -/
theorem test_guardUnsuspend :
    let s := State.reset.setGuardChan 0 (some (panelChan .suspended))
    vget (run (.guardUnsuspend 0) (s.tellGuard 0 (.unsuspend false true))).guardChans 0
      = some (panelChan .disarmed) := by decide +kernel

theorem test_guardFree :
    let s := State.reset.setGuardChan 0 (some (panelChan .spent))
    vget (run (.guardFree 0) (s.tellGuard 0 .free)).guardChans 0 = none := by decide +kernel

/-! ## The I2C ports -/

/-- R165: address 0x3E for writing. -/
theorem test_i2cAddress : ((run (.i2cAddress 1 0x7C) State.reset).bus 1).state = .awaitOffset := by decide +kernel

/-- R165: offset 0x47 selects 0x07. -/
theorem test_i2cOffset :
    ((run (.i2cOffset 1 0x47) (run (.i2cAddress 1 0x7C) State.reset)).bus 1).pointer = 0x07 := by decide +kernel

/-- R166: a busy port refuses COMMAND, and the pointer advances. -/
theorem test_windowWrite_busy :
    let s := (ask 1 0x10 [] State.reset).setBus 1 { Bus.reset with state := .writing }
    let t := run (.windowWrite 1 0x11) s
    ((t.window 1).command, (t.bus 1).acked, (t.bus 1).pointer) = (0x10, false, 1) := by decide +kernel

/-- R169: GO makes the command pending. -/
theorem test_controlGo :
    let s := State.reset.setBus 1 { Bus.reset with state := .writing, pointer := 1 }
    ((run (.controlGo 1 0) s).window 1).phase = .pending := by decide +kernel

/-- 10.5 step 6: three bytes from 0x01 read 0x00, 0x01, 0x12. -/
theorem test_i2cRead :
    let s := State.reset.setWindow 2 { Window.reset with status := .ok, sequence := 18 }
    ((run (.i2cRead 2 3) (s.setBus 2 { Bus.reset with pointer := 1 })).bus 2).sent = [0x00, 0x01, 0x12] := by
  decide +kernel

/-- R165, R173: the last two bytes, and the wrap from 0x3F to 0x00. -/
theorem test_i2cRead_wraps :
    let t := run (.i2cRead 3 3) (State.reset.setBus 3 { Bus.reset with pointer := 0x3E })
    ((t.bus 3).sent, (t.bus 3).pointer) = ([0x16, 0x24, 0x00], 0x01) := by decide +kernel

/-- R168: the 26th tick with SCL low abandons the transaction. -/
theorem test_i2cStallTimeout :
    let s := State.reset.setBus 1 { Bus.reset with state := .writing, stall := 26, pointer := 5 }
    let t := run (.i2cStallTimeout 1) s
    ((t.bus 1).state, (t.bus 1).pointer) = (.waiting, 5) := by decide +kernel

theorem test_i2cStop :
    ((run (.i2cStop 1) (run (.i2cAddress 1 0x7C) State.reset)).bus 1).state = .waiting := by decide +kernel

/-- R19, R137: device reset and release. -/
theorem test_deviceReset :
    let s := run .deviceReset (place 0 (drive .active) State.reset)
    (s.lease 0, (s.handle 0).gen, s.rstnAsserted) = (none, 0, true) := by decide +kernel

theorem test_rstnRelease :
    let t := run (.rstnRelease 0x8003#16) (run .deviceReset State.reset)
    ((t.cell 15).debounced, (t.cell 4).debounced, t.reports, t.rstnAsserted) = (true, false, [], false) := by
  decide +kernel

/-! ## Witnesses: concrete states and operands that meet the hypotheses of each statement

One theorem per statement that has hypotheses, with one conjunct per clause, at an edge of the clause's range. -/

theorem names_iff {s : State} {p : Port} {k : Slot} {l : Lease} :
    Names s p k l ↔ slotOf (argByte (s.args p) 0x04) = some k ∧ s.lease k = some l
      ∧ (s.handle k).gen = argByte (s.args p) 0x05 :=
  ⟨fun ⟨a, b, c⟩ => ⟨a, b, c⟩, fun ⟨a, b, c⟩ => ⟨a, b, c⟩⟩

theorem admitted_iff {s : State} {p : Port} :
    Admitted s p ↔ s.isQuiet p = false ∧ (Req.faults p (s.args p)).any id = false
      ∧ permits (s.charter p) (Req.read (s.args p)) = true ∧ (s.portRec p).occupied < (s.charter p).leaseLimit :=
  ⟨fun ⟨a, b, c, d⟩ => ⟨a, b, c, d⟩, fun ⟨a, b, c, d⟩ => ⟨a, b, c, d⟩⟩

/-- The agreements of `Safe`, computed. -/
def safeCheck (s : State) : Bool :=
  decide (∀ n k, vget s.heldBy n = some k ↔ holdsLine s k n = true)
    && decide (∀ p, (s.portRec p).occupied = recordsOf s p)
    && decide ((∀ c, vget s.patTaken c = true ↔ ∃ k, patOf s k = some c)
      ∧ (∀ c k j, patOf s k = some c → patOf s j = some c → k = j)
      ∧ (∀ g, vget s.guardTaken g = true ↔ ∃ k, guardOf s k = some g)
      ∧ (∀ g k j, guardOf s k = some g → guardOf s j = some g → k = j))
    && decide (s.queue.length ≤ 8 ∧ (s.queue.map fun e => (e.port, e.ticket)).Nodup ∧ ∀ p, waitBudget s p ≤ 3)

theorem safe_iff {s : State} : Safe s ↔ safeCheck s = true := by
  simp only [safeCheck, Bool.and_eq_true, decide_eq_true_eq]
  exact ⟨fun ⟨a, b, c, d⟩ => ⟨⟨⟨a, b⟩, c⟩, d⟩, fun ⟨⟨⟨a, b⟩, c⟩, d⟩ => ⟨a, b, c, d⟩⟩

theorem next_front {s : State} {sort : Report → Prop} {r : Report} {rest : List Report} (h : s.reports = r :: rest) :
    NextReport s sort r rest := ⟨[], rest, h, rfl, by simp⟩

/-- `exec` answers a next state. -/
def answersNext (i : Instr) (s : State) : Bool :=
  match exec i s with
  | .next _ => true
  | .fault _ | .refused _ => false

theorem exec_run {i : Instr} {s : State} (h : answersNext i s = true) : exec i s = .next (run i s) := by
  unfold answersNext at h
  unfold run
  cases he : exec i s <;> simp_all

/-- Port `p` asks a command on the lease `l` in slot 0 with the further argument bytes. -/
def on (p : Port) (code : Byte) (l : Lease) (more : List Byte := []) : State :=
  ask p code ([0, 1] ++ more) (place 0 l State.reset)

/-- What placing a lease in the reset state gives. -/
theorem placed (l : Lease) : let s := place 0 l State.reset
    (∀ k, s.lease k = if k = 0 then some l else none)
      ∧ (∀ n, vget s.heldBy n = if l.state.isClosed = false ∧ has l.lines n = true then some 0 else none)
      ∧ (∀ p, (s.portRec p).occupied = if p = l.holder then 1 else 0)
      ∧ (∀ c, vget s.patTaken c = decide (l.state.live = true ∧ l.params.patChan = some c))
      ∧ (∀ g, vget s.guardTaken g = decide (l.state.live = true ∧ l.params.guardChan = some g))
      ∧ s.queue = [] ∧ s.maps = State.reset.maps := by
  unfold place takeFor
  cases l.state.live <;> cases l.state.isClosed <;> rcases hp : l.params with _ | _ | _ | _ <;>
    simp [KindParams.patChan, KindParams.guardChan, claimLines, raiseCount, State.setPortRec, State.portRec,
      State.lease, fillSlot, State.reset, vget_vset, apply_ite] <;>
    (try intros) <;> simp_all [eq_comm]

/-- A lease placed in the reset state leaves the agreements standing. -/
theorem placed_safe (l : Lease) : Safe (place 0 l State.reset) := by
  obtain ⟨hl, hh, ho, hp, hg, hq, hm⟩ := placed l
  generalize place 0 l State.reset = s at *
  have hr : ∀ p, recordsOf s p = if p = l.holder then 1 else 0 := by
    intro p
    have : (fun k : Fin 24 => (s.lease k).any fun m => m.holder == p)
        = fun k => decide (k = 0) && decide (p = l.holder) := by
      funext k
      rw [hl]
      by_cases hk : k = 0
      · simp [hk, beq_eq_decide, eq_comm]
      · simp [hk]
    unfold recordsOf
    rw [this]
    by_cases h : p = l.holder <;> simp [h]
    decide
  have e1 : ∀ k, patOf s k = if k = 0 then (if l.state.live then l.params.patChan else none) else none := by
    intro k
    simp only [patOf, hl]
    split <;> simp
  have e2 : ∀ k, guardOf s k = if k = 0 then (if l.state.live then l.params.guardChan else none) else none := by
    intro k
    simp only [guardOf, hl]
    split <;> simp
  refine ⟨fun n k => ?_, fun p => by rw [ho, hr], ⟨fun c => ?_, fun c k j => ?_, fun c => ?_, fun c k j => ?_⟩, ?_⟩
  · rw [hh, holdsLine, hl]
    by_cases hk : k = 0
    · subst hk
      simp
    · simp [hk, Ne.symm hk]
  · simp [hp, e1]
  · rw [e1, e1]
    split <;> split <;> simp_all
  · simp [hg, e2]
  · rw [e2, e2]
    split <;> split <;> simp_all
  · simp [QueueRight, waitBudget, waitingOf, hq, State.map, hm, State.reset, NoticeMap.empty]

theorem reset_safe : Safe State.reset := by simp only [safe_iff]; decide +kernel

theorem ask_safe {s : State} (h : Safe s) (p : Port) (code : Byte) (args : List Byte) : Safe (ask p code args s) :=
  ⟨h.held, h.counts, h.channels, h.waits⟩

theorem on_safe (p : Port) (code : Byte) (l : Lease) (more : List Byte) : Safe (on p code l more) :=
  ask_safe (placed_safe l) _ _ _

theorem witness_StepRunsFrontCommand : State.reset.pending = [] := rfl

theorem witness_SafeKeptByEveryStep :
    let s := { place 0 (drive .active) State.reset with pending := [.termTick] }
    Safe s ∧ ∃ t, step s = .next t :=
  have h := placed_safe (drive .active)
  ⟨⟨h.held, h.counts, h.channels, h.waits⟩,
    _, exec_run (i := .termTick) (s := place 0 (drive .active) State.reset) (by decide +kernel)⟩

theorem ranges_iff {s : State} : RangesRight s ↔
    (∀ p, (s.charter p).leaseLimit ≤ 24 ∧ 1 ≤ (s.charter p).maxTerm ∧ (s.charter p).maxTerm ≤ 6000 ∧
      (s.charter p).grace ≤ 200 ∧ (s.charter p).warn ≤ 255)
    ∧ (∀ n, (s.profile n).debounce ≤ 31 ∧ (s.profile n).settle ≤ 255)
    ∧ (∀ n, (s.cell n).stability ≤ 31 ∧ (s.cell n).mismatch ≤ 3 ∧ (s.cell n).settle ≤ 255)
    ∧ ∀ p, (s.bus p).stall ≤ 25 :=
  ⟨fun ⟨a, b, c, d⟩ => ⟨a, b, c, d⟩, fun ⟨a, b, c, d⟩ => ⟨a, b, c, d⟩⟩

theorem witness_RangesKeptByEveryStep :
    let s := { State.reset.setBus 1 { Bus.reset with state := .writing, stall := 25 } with
      pending := [.msTick 0xFFFF#16 ⟨2#4, 0⟩ []] }
    RangesRight s ∧ ∃ t, step s = .next t :=
  ⟨by simp only [ranges_iff]; decide +kernel,
    _, exec_run (i := .msTick 0xFFFF#16 ⟨2#4, 0⟩ [])
      (s := State.reset.setBus 1 { Bus.reset with state := .writing, stall := 25 }) (by decide +kernel)⟩

theorem waits_iff {s : State} {q : List QueueEntry} : WaitsInOrder s q ↔
    ∀ i : Fin q.length, permits (s.charter q[i].port) q[i].request = true ∧ Waits s (q.take i) q[i] := by
  constructor
  · intro h i
    exact h _ _ (q.drop (i + 1)) (by simp)
  · rintro h older e younger rfl
    have := h ⟨older.length, by simp⟩
    simpa using this

theorem tickets_iff {s : State} : TicketsRight s ↔
    (s.queue.map (·.arrival)).Pairwise (· < ·) ∧ (∀ e ∈ s.queue, e.arrival < s.arrivals)
    ∧ (∀ p, ((s.map p).tickets.map (·.arrival)).Pairwise (· < ·))
    ∧ (∀ p, ∀ x ∈ (s.map p).tickets, x.arrival < s.arrivals)
    ∧ (∀ p, ((s.map p).tickets.map (·.ticket)).Nodup)
    ∧ ∀ p, ∀ x ∈ (s.map p).tickets, ∀ e ∈ s.queue, e.port = p → e.ticket ≠ x.ticket ∧ e.arrival ≠ x.arrival :=
  ⟨fun ⟨a, b, c, d, e, f⟩ => ⟨a, b, c, d, e, f⟩, fun ⟨a, b, c, d, e, f⟩ => ⟨a, b, c, d, e, f⟩⟩

/-- Every port's charter permits everything. -/
def openAll (s : State) : State := { s with charters := Vector.replicate 4 Charter.resetP0 }

/-- P2 waits for L6, which a lease holds, and P1 behind it, with a notice of P1's ticket that was issued between. -/
def waitScene : State :=
  { (openAll (place 0 { drive .active with lines := 0x0040#16 } State.reset)).setMap 1
      { NoticeMap.empty with tickets := [⟨255, TicketKind.waitExpired, 1⟩] } with
    queue := [{ waiter 2 1 1 with arrival := 0 }, { waiter 1 1 9 with arrival := 2 }], arrivals := 3 }

theorem witness_WaitingEntriesStayBlocked :
    let s := { waitScene with pending := [.termTick] }
    EveryEntryWaits s ∧ s.queue.length = 2 ∧ ∃ t, step s = .next t := by
  refine ⟨?_, rfl, _, exec_run (i := .termTick) (s := waitScene) (by decide +kernel)⟩
  simp only [EveryEntryWaits, waits_iff, Waits]
  decide +kernel

theorem witness_TicketsStayInOrder :
    let s := { waitScene with pending := [.termTick] }
    Safe s ∧ TicketsRight s ∧ (∃ t, step s = .next t)
      ∧ exec .termTick waitScene = .next (run .termTick waitScene) ∧ ((run .termTick waitScene).map 2).tickets ≠ []
      ∧ ((run .termTick waitScene).map 1).tickets ≠ [] ∧ (run .termTick waitScene).queue ≠ [] := by
  have h : exec .termTick waitScene = .next (run .termTick waitScene) := exec_run (by decide +kernel)
  refine ⟨?_, ?_, ⟨_, h⟩, h, ?_⟩
  · simp only [safe_iff]
    decide +kernel
  · simp only [tickets_iff]
    decide +kernel
  · decide +kernel

theorem witness_NoTwoLeasesShare :
    let s := place 23 (pattern .active) (place 0 (drive .active) State.reset)
    Safe s ∧ s.lease 0 = some (drive .active) ∧ s.lease 23 = some (pattern .active)
      ∧ (drive .active).state.isClosed = false ∧ (pattern .active).state.isClosed = false := by
  simp only [safe_iff]
  decide +kernel

/-- P1 asks for L4 and L5 as a DRIVE, with the last generation of slot 0 at 255. -/
def askDrive (flags : Byte) (term : Nat) (wait : Nat) (s : State) : State :=
  ask 1 0x01 ([flags, 0, 0, 0x30] ++ b2 term ++ b2 wait ++ [0, 0x10]) (open1 s)

def lastGen : State := { State.reset with slots := vset State.reset.slots 0 ⟨255, none⟩ }

/-- By a REQUEST, and by the scan at the end of a quiet time. -/
theorem witness_GenerationChangesAtGrant :
    (let s := askDrive 0 3000 0 lastGen
     exec (.request 1) s = .next (run (.request 1) s) ∧ ((run (.request 1) s).handle 0).gen ≠ (s.handle 0).gen)
    ∧ let s := { openAll (State.reset.setPortRec 2 ⟨0, some 0, 0⟩) with queue := [waiter 1 1 9] }
      exec (.quietEnd 2) s = .next (run (.quietEnd 2) s)
        ∧ ((run (.quietEnd 2) s).handle 0).gen ≠ (s.handle 0).gen ∧ Safe s := by
  simp only [safe_iff]
  exact ⟨⟨exec_run (by decide +kernel), by decide +kernel⟩, exec_run (by decide +kernel), by decide +kernel⟩

theorem witness_ChartersAndProfilesChangeByAdmin :
    (let s := ask 0 0x38 [1, 0x00, 0xB0, 3, 0x0B, 0xB8, 100, 100, 0, 0, 0] State.reset
     exec (.setCharter 0) s = .next (run (.setCharter 0) s) ∧ (run (.setCharter 0) s).charters ≠ s.charters)
    ∧ let s := State.reset.setCell 4 { Cell.reset with mismatch := 4 }
      exec (.driveFault 4) s = .next (run (.driveFault 4) s) ∧ (run (.driveFault 4) s).profiles ≠ s.profiles :=
  ⟨⟨exec_run (by decide +kernel), by decide +kernel⟩, exec_run (by decide +kernel), by decide +kernel⟩

theorem witness_WindowChangesByOwnPort :
    let s := State.reset.setBus 1 { Bus.reset with state := .writing }
    exec (.windowWrite 1 0x11) s = .next (run (.windowWrite 1 0x11) s)
      ∧ (run (.windowWrite 1 0x11) s).window 1 ≠ s.window 1 :=
  ⟨exec_run (by decide +kernel), by decide +kernel⟩

theorem witness_TakenCommandCompletes :
    takes (on 1 0x11 (drive .active)) (decodeCommand 1 0x11) 1 = true ∧ decodeCommand 1 0x11 ≠ .resetPort 1 := by
  decide +kernel

/-- ACCEPT and DECLINE of P1, whose handle checks are the first three. -/
def targetCommands : List (Byte × Instr) := [(0x19, .accept 1), (0x1A, .decline 1)]

/-- The holder commands with their codes. -/
def holderCommands : List (Byte × Instr) :=
  [(0x10, .renew 1), (0x11, .release 1), (0x18, .offer 1), (0x1B, .withdraw 1), (0x20, .setGuard 1),
    (0x28, .setLevels 1), (0x29, .restartPattern 1), (0x2A, .readLevels 1), (0x2B, .clearFault 1)]

/-- Codes 0x00 and the three of P0; and slot 24 is no slot, slot 23 is FREE, slot 0 has another generation, slot 0
has another holder. -/
theorem witness_CommonRefusals :
    (takes (ask 3 0x00 [] State.reset) (.unknownCommand 3) 3 = true
      ∧ takes (ask 1 0x12 [] State.reset) (.revoke 1) 1 = true
      ∧ takes (ask 1 0x30 [] State.reset) (.setLineProfile 1) 1 = true
      ∧ takes (ask 3 0x38 [] State.reset) (.setCharter 3) 3 = true)
    ∧ (∀ x ∈ targetCommands ++ holderCommands,
      takes (ask 1 x.1 [24, 0] State.reset) x.2 1 = true ∧ takes (ask 1 x.1 [23, 0] State.reset) x.2 1 = true
        ∧ takes (ask 1 x.1 [0, 2] (place 0 (drive .active) State.reset)) x.2 1 = true
        ∧ takes (on 1 x.1 (guard .active)) x.2 1 = true)
    ∧ (takes (ask 0 0x12 [24, 0] State.reset) (.revoke 0) 0 = true
      ∧ takes (ask 0 0x12 [23, 0] State.reset) (.revoke 0) 0 = true
      ∧ takes (ask 0 0x12 [0, 2] (place 0 (drive .active) State.reset)) (.revoke 0) 0 = true)
    ∧ slotOf 24 = none ∧ (slotOf 23 = some 23 ∧ State.reset.lease 23 = none)
    ∧ ((place 0 (drive .active) State.reset).handle 0).gen ≠ 2
    ∧ ∃ l, (place 0 (guard .active) State.reset).lease 0 = some l ∧ l.holder ≠ 1 :=
  ⟨by decide +kernel, by decide +kernel, by decide +kernel, by decide, by decide +kernel, by decide +kernel, guard .active,
    by decide +kernel⟩

/-! Requests -/

/-- Term 0, a term above the maximum, and a pinned lease; the last generation is 255 in the first. -/
theorem witness_RequestGranted :
    ∀ s ∈ [askDrive 0 0 0 lastGen, askDrive 0 6000 65 State.reset, askDrive 1 0 0 State.reset],
      takes s (.request 1) 1 = true ∧ Admitted s 1 ∧ LinesFree s (Req.read (s.args 1)) ∧ LowestFree s 0
        ∧ channelFree s (Req.read (s.args 1)) = true := by
  simp only [admitted_iff, LinesFree, LowestFree]
  decide +kernel

/-- A PATTERN on L4 and L5 of two steps. -/
def askPattern (wait : Byte) (s : State) : State :=
  ask 1 0x01 [0x10, 0, 0, 0x30, 0, 100, 0, wait, 2, 0, 0x01, 0, 5, 0x02, 0, 6] (open1 s)

/-- A WATCH on L4 and L5. -/
def askWatch (s : State) : State := ask 1 0x01 [0x20, 1, 0, 0x30, 0, 100, 0, 0, 0, 0x30, 0, 0x30] (open1 s)

/-- An armed GUARD with action line L4 on L0 and L1. -/
def askGuard (wait : Byte) (s : State) : State :=
  ask 1 0x01 [0x32, 0, 0, 0x10, 0, 100, 0, wait, 0, 10, 2, 1, 20, 0, 0, 0, 0, 0, 1, 0] (open1 s)

theorem witness_GrantSetsUpKind :
    (∀ s ∈ [askDrive 0 3000 0 State.reset, askPattern 0 State.reset, askWatch State.reset, askGuard 0 State.reset],
      Safe s ∧ takes s (.request 1) 1 = true ∧ Admitted s 1 ∧ LinesFree s (Req.read (s.args 1)) ∧ LowestFree s 0
        ∧ channelFree s (Req.read (s.args 1)) = true)
    ∧ (List.map (fun s => (Req.read (s.args 1)).kind.code)
        [askDrive 0 3000 0 State.reset, askPattern 0 State.reset, askWatch State.reset, askGuard 0 State.reset])
      = [0, 1, 2, 3] := by
  simp only [safe_iff, admitted_iff, LinesFree, LowestFree]
  decide +kernel

/-- A lease holds L4. -/
def heldL4 : State := place 0 { drive .active with lines := 0x0010#16 } State.reset

/-- Every slot is occupied. -/
def full : State := (List.finRange 24).foldl (fun s k => place k { drive (.closed .expired) with holder := 0 } s) State.reset

/-- No guard channel is free. -/
def noGuard : State := { State.reset with guardTaken := Vector.replicate 4 true }

/-- Seven entries wait, two of them P1's. -/
def seven (s : State) : State :=
  { s with queue := [waiter 2 1 9, waiter 2 2 9, waiter 2 3 9, waiter 1 1 9, waiter 1 2 9, waiter 3 1 9, waiter 3 2 9] }

theorem witness_RequestQueued :
    (∀ s ∈ [askDrive 0 3000 1 (seven heldL4), askDrive 0 3000 6000 full, askGuard 1 noGuard],
      takes s (.request 1) 1 = true ∧ Admitted s 1 ∧ 0 < (Req.read (s.args 1)).waitLimit ∧ s.queue.length < 8
        ∧ waitBudget s 1 < 3)
    ∧ ¬LinesFree (askDrive 0 3000 1 (seven heldL4)) (Req.read ((askDrive 0 3000 1 (seven heldL4)).args 1))
    ∧ (∀ k, ((askDrive 0 3000 6000 full).lease k).isSome)
    ∧ channelFree (askGuard 1 noGuard) (Req.read ((askGuard 1 noGuard).args 1)) = false := by
  simp only [admitted_iff, LinesFree]
  decide +kernel

/-- P1 is quiet with 1 unit left. -/
def quiet1 : State := State.reset.setPortRec 1 { State.reset.portRec 1 with quiet := some 1 }

/-- P1 is at its lease limit. -/
def atLimit : State := State.reset.setPortRec 1 { State.reset.portRec 1 with occupied := 24 }

/-- The eight entries of a full queue, and three of P1's. -/
def eight (s : State) : State := { seven s with queue := (seven s).queue ++ [waiter 3 3 9] }

def three (s : State) : State := { s with queue := [waiter 1 1 9, waiter 1 2 9, waiter 1 3 9] }

/-- The argument bytes of a request. -/
def argsOf (l : List Byte) : Args := vtab fun i => l.getD i.val 0#8

/-- One state per refusal; and one argument vector per bound, at the edges 6001, 7, 3, 0, 1001 and 5. -/
theorem witness_RequestRefused :
    (let s := askDrive 0 100 0 quiet1
     takes s (.request 1) 1 = true ∧ s.isQuiet 1 = true)
    ∧ (let s := askDrive 0 6001 0 State.reset
      takes s (.request 1) 1 = true ∧ s.isQuiet 1 = false ∧ (Req.faults 1 (s.args 1)).any id = true)
    ∧ (let s := ask 1 0x01 [0, 0, 0, 1, 0, 1, 0, 0, 0, 0] State.reset
      takes s (.request 1) 1 = true ∧ s.isQuiet 1 = false ∧ (Req.faults 1 (s.args 1)).any id = false
        ∧ permits (s.charter 1) (Req.read (s.args 1)) = false)
    ∧ (let s := askDrive 0 100 0 atLimit
      takes s (.request 1) 1 = true ∧ s.isQuiet 1 = false ∧ (Req.faults 1 (s.args 1)).any id = false
        ∧ permits (s.charter 1) (Req.read (s.args 1)) = true
        ∧ (s.charter 1).leaseLimit ≤ (s.portRec 1).occupied)
    ∧ (let s := askDrive 0 100 0 heldL4
      takes s (.request 1) 1 = true ∧ Admitted s 1 ∧ (Req.read (s.args 1)).waitLimit = 0
        ∧ has (Req.read (s.args 1)).lines 4 = true ∧ vget s.heldBy 4 = some 0
        ∧ ∀ m : Line, m < 4 → has (Req.read (s.args 1)).lines m = false)
    ∧ (let s := ask 1 0x01 [0, 0, 0, 0xC0, 0, 100, 0, 0, 0, 0] (open1 (seven State.reset))
      takes s (.request 1) 1 = true ∧ Admitted s 1 ∧ (Req.read (s.args 1)).waitLimit = 0
        ∧ has (Req.read (s.args 1)).lines 6 = true ∧ vget s.heldBy 6 = none
        ∧ (∃ e ∈ s.queue, has e.request.lines 6 = true)
        ∧ ∀ m : Line, m < 6 → has (Req.read (s.args 1)).lines m = false)
    ∧ (let s := askDrive 0 100 0 full
      takes s (.request 1) 1 = true ∧ Admitted s 1 ∧ (Req.read (s.args 1)).waitLimit = 0
        ∧ LinesFree s (Req.read (s.args 1)) ∧ ∀ k, (s.lease k).isSome)
    ∧ (let s := askGuard 0 noGuard
      takes s (.request 1) 1 = true ∧ Admitted s 1 ∧ (Req.read (s.args 1)).waitLimit = 0
        ∧ LinesFree s (Req.read (s.args 1)) ∧ (∃ k, s.lease k = none)
        ∧ channelFree s (Req.read (s.args 1)) = false)
    ∧ (let s := askDrive 0 100 1 (eight heldL4)
      takes s (.request 1) 1 = true ∧ Admitted s 1 ∧ 0 < (Req.read (s.args 1)).waitLimit
        ∧ ¬LinesFree s (Req.read (s.args 1)) ∧ 8 ≤ s.queue.length)
    ∧ (let s := askDrive 0 100 1 (three heldL4)
      takes s (.request 1) 1 = true ∧ Admitted s 1 ∧ 0 < (Req.read (s.args 1)).waitLimit
        ∧ ¬LinesFree s (Req.read (s.args 1)) ∧ s.queue.length < 8 ∧ 3 ≤ waitBudget s 1)
    ∧ 4 ≤ argNat (argsOf [0x40]) 0x04 / 16
      ∧ 6000 < argWord (argsOf [0, 0, 0, 1, 0, 0, 0x17, 0x71]) 0x0A
      ∧ (let a := argsOf [0, 0, 0, 1, 0x17, 0x71]
        6000 < argWord a 0x08 ∧ (argByte a 0x04).getLsbD 0 = false)
      ∧ (let a := argsOf [0x20, 0, 0, 0]
        argNat a 0x04 / 16 < 3 ∧ argSet a 0x06 = 0#16)
      ∧ (let a := argsOf [0, 1, 0, 1, 0x17, 0x70, 0x17, 0x70]
        argNat a 0x04 / 16 = 0 ∧ argWord a 0x0A ≤ 6000 ∧ argWord a 0x08 ≤ 6000 ∧ argSet a 0x06 ≠ 0#16
          ∧ argNat a 0x05 ≤ 1)
      ∧ (let a := argsOf [0x10, 0, 0, 1, 0, 0, 0, 0, 7]
        argNat a 0x04 / 16 = 1 ∧ 6 < argNat a 0x0C)
      ∧ (let a := argsOf [0x20, 3]
        argNat a 0x04 / 16 = 2 ∧ 2 < argNat a 0x05)
      ∧ (let a := argsOf [0x30, 0, 0, 0, 0, 0, 0, 0, 0x03, 0xE9, 5]
        argNat a 0x04 / 16 = 3 ∧ 1000 < argWord a 0x0C ∧ 4 < argNat a 0x0E)
      ∧ (let a := argsOf [0x38, 0, 0, 0, 0, 0, 0, 0, 0, 1, 1, 0, 0, 1]
        argNat a 0x04 / 16 = 3 ∧ (argByte a 0x04).getLsbD 3 = true ∧ argNat a 0x11 = (1 : Port).val)
      ∧ (let a := argsOf [0x38, 0, 0, 0, 0, 0, 0, 0, 0, 1, 1, 0, 0, 4, 0x17, 0x71]
        argNat a 0x04 / 16 = 3 ∧ (argByte a 0x04).getLsbD 3 = true ∧ 3 < argNat a 0x11
          ∧ 6000 < argWord a 0x12) := by
  simp only [admitted_iff, LinesFree]
  refine ⟨?_, ?_, ?_, ?_, ?_, ?_, ?_, ?_, ?_, ?_, ?_⟩ <;> decide +kernel

/-- An entry of P1 with the request of these argument bytes. -/
def entryOf (a : Args) : QueueEntry :=
  { ticket := 255, port := 1, args := a, request := Req.read a, waitRemaining := 9, arrival := 5 }

/-- P3 waits at its limit; a DRIVE, a PATTERN, a WATCH and a GUARD of P1 behind it, with no younger entry and with
one. -/
theorem witness_ScanGrants :
    ∀ ask ∈ [askDrive 0 3000 1, askPattern 1, askWatch, askGuard 1], ∀ younger ∈ [[], [waiter 2 1 9]],
      let e := entryOf ((ask State.reset).args 1)
      let older := [waiter 3 1 9]
      let s := { withCharter 3 { Charter.resetP0 with leaseLimit := 0 } (openAll State.reset) with
        queue := older ++ e :: younger }
      WaitsInOrder s older ∧ permits (s.charter e.port) e.request = true
        ∧ (∀ n, has e.request.lines n = true →
            vget s.heldBy n = none ∧ ∀ x ∈ older, has x.request.lines n = false)
        ∧ LowestFree s 0 ∧ (s.portRec e.port).occupied < (s.charter e.port).leaseLimit
        ∧ channelFree s e.request = true ∧ kindsFor (s.map e.port) 0 1 = 0#16
        ∧ ((scan s).handle 0).gen = 1 := by
  simp only [waits_iff, Waits, LowestFree]
  decide +kernel

theorem witness_CancelWait :
    (let s := ask 1 0x02 [1] (seven State.reset)
     takes s (.cancelWait 1) 1 = true ∧ ∃ e ∈ s.queue, e.port = 1 ∧ e.ticket = argByte (s.args 1) 0x04)
    ∧ let s := ask 1 0x02 [3] (seven State.reset)
      takes s (.cancelWait 1) 1 = true ∧ ∀ e ∈ s.queue, e.port = 1 → e.ticket ≠ argByte (s.args 1) 0x04 := by
  decide +kernel

/-- A waiting entry of P2 for L6, which a lease holds. -/
def heldL6 : State := seven (place 0 { drive .active with lines := 0x0040#16 } State.reset)

/-- A GUARD of P1 that no channel is free for. -/
def guardWaits : State :=
  { open1 noGuard with queue := [entryOf ((askGuard 1 State.reset).args 1)] }

/-- Refusals; an empty position in each view; entries blocked by lines, order, slot, limit and channel; and both views
of the arguments by P1 for its own entry and for P2's. -/
theorem witness_QueryQueue :
    (let s := ask 1 0x03 [8, 0] State.reset
     takes s (.queryQueue 1) 1 = true ∧ 7 < argNat (s.args 1) 0x04)
    ∧ (let s := ask 1 0x03 [0, 3] State.reset
      takes s (.queryQueue 1) 1 = true ∧ 2 < argNat (s.args 1) 0x05)
    ∧ (let s := ask 1 0x03 [7, 0] (seven State.reset)
      takes s (.queryQueue 1) 1 = true ∧ argNat (s.args 1) 0x04 ≤ 7 ∧ argNat (s.args 1) 0x05 = 0
        ∧ s.queue.length ≤ argNat (s.args 1) 0x04)
    ∧ (let s := ask 1 0x03 [0, 0] heldL6
      takes s (.queryQueue 1) 1 = true ∧ s.queue[argNat (s.args 1) 0x04]? = some (waiter 2 1 9)
        ∧ argNat (s.args 1) 0x05 = 0 ∧ has (waiter 2 1 9).request.lines 6 = true ∧ vget s.heldBy 6 = some 0
        ∧ (∀ m : Line, m < 6 → has (waiter 2 1 9).request.lines m = false)
        ∧ ¬((waiter 2 1 9).port = 1 ∨ (1 : Port) = 0))
    ∧ (let s := ask 1 0x03 [3, 0] heldL6
      takes s (.queryQueue 1) 1 = true ∧ s.queue[argNat (s.args 1) 0x04]? = some (waiter 1 1 9))
    ∧ (∀ view ∈ [1, 2], let s := ask 1 0x03 [7, view] (seven State.reset)
      takes s (.queryQueue 1) 1 = true ∧ argNat (s.args 1) 0x04 = 7 ∧ argNat (s.args 1) 0x05 = view.toNat
        ∧ s.queue.length ≤ 7)
    ∧ (let s := ask 1 0x03 [3, 0] (seven State.reset)
      takes s (.queryQueue 1) 1 = true ∧ s.queue[argNat (s.args 1) 0x04]? = some (waiter 1 1 9)
        ∧ argNat (s.args 1) 0x05 = 0 ∧ (∀ n, vget s.heldBy n = none) ∧ has (waiter 1 1 9).request.lines 6 = true
        ∧ (∀ m : Line, m < 6 → has (waiter 1 1 9).request.lines m = false)
        ∧ s.queue.take (argNat (s.args 1) 0x04) = [] ++ waiter 2 1 9 :: [waiter 2 2 9, waiter 2 3 9]
        ∧ has (waiter 2 1 9).request.lines 6 = true)
    ∧ (∀ x ∈ [seven full, seven State.reset], let s := ask 1 0x03 [0, 0] x
      takes s (.queryQueue 1) 1 = true ∧ s.queue[argNat (s.args 1) 0x04]? = some (waiter 2 1 9)
        ∧ argNat (s.args 1) 0x05 = 0 ∧ (∀ n, vget s.heldBy n = none) ∧ s.queue.take (argNat (s.args 1) 0x04) = [])
    ∧ (∀ k, ((ask 1 0x03 [0, 0] (seven full)).lease k).isSome)
    ∧ (let s := ask 1 0x03 [0, 0] (seven State.reset)
      s.lease 0 = none ∧ (s.charter (waiter 2 1 9).port).leaseLimit ≤ (s.portRec (waiter 2 1 9).port).occupied)
    ∧ (let s := ask 1 0x03 [0, 0] guardWaits
      let e := entryOf ((askGuard 1 State.reset).args 1)
      takes s (.queryQueue 1) 1 = true ∧ s.queue[argNat (s.args 1) 0x04]? = some e ∧ argNat (s.args 1) 0x05 = 0
        ∧ (∀ n, vget s.heldBy n = none) ∧ s.queue.take (argNat (s.args 1) 0x04) = [] ∧ s.lease 0 = none
        ∧ ¬(s.charter e.port).leaseLimit ≤ (s.portRec e.port).occupied ∧ channelFree s e.request = false)
    ∧ ∀ view ∈ [1, 2], ∀ x ∈ [(0, 2), (3, 1)], let s := ask 1 0x03 [x.1, view] (seven State.reset)
      takes s (.queryQueue 1) 1 = true ∧ argNat (s.args 1) 0x05 = view.toNat
        ∧ s.queue[argNat (s.args 1) 0x04]? = some (waiter x.2 1 9) := by
  refine ⟨?_, ?_, ?_, ?_, ?_, ?_, ?_, ?_, ?_, ?_, ?_, ?_⟩ <;> decide +kernel

/-! The lease table -/

/-- The two-step pattern with safe levels, and the lease of a PATTERN on nine lines. -/
def safeSteps : PatternSpec := { twoSteps with safe := some 0x0004#16 }

def wide : Lease := { pattern .active with lines := 0x01FF#16 }

/-- Refusals; a FREE slot in each view; view 0 of the states, with the origin ticket, and of the channels that have
and that have not taken the set-up; and both other views of every kind by P1 for its own and by P1 and P0 for P0's. -/
theorem witness_QueryLease :
    (let s := ask 1 0x08 [24, 0] State.reset
     takes s (.queryLease 1) 1 = true ∧ slotOf (argByte (s.args 1) 0x04) = none)
    ∧ (let s := ask 1 0x08 [0, 3] State.reset
      takes s (.queryLease 1) 1 = true ∧ 2 < argNat (s.args 1) 0x05)
    ∧ (let s := ask 1 0x08 [23, 0] State.reset
      takes s (.queryLease 1) 1 = true ∧ slotOf (argByte (s.args 1) 0x04) = some 23
        ∧ argNat (s.args 1) 0x05 = 0 ∧ s.lease 23 = none)
    ∧ (∀ l ∈ [drive (.grace 200), drive (.handover 2 200), drive (.retiring .fault), drive (.closed .expired),
        guard .active],
      let s := ask 1 0x08 [0, 0] (place 0 l State.reset)
      takes s (.queryLease 1) 1 = true ∧ slotOf (argByte (s.args 1) 0x04) = some 0 ∧ argNat (s.args 1) 0x05 = 0
        ∧ s.lease 0 = some l)
    ∧ (∀ view ∈ [1, 2], let s := ask 1 0x08 [23, view] State.reset
      takes s (.queryLease 1) 1 = true ∧ slotOf (argByte (s.args 1) 0x04) = some 23
        ∧ argNat (s.args 1) 0x05 = view.toNat ∧ s.lease 23 = none)
    ∧ (∀ l ∈ [drive .active, { drive .active with origin := some ⟨2, 255⟩ }, pattern .active, guard .active],
      let s := ask l.holder 0x08 [0, 0] (place 0 l State.reset)
      takes s (.queryLease l.holder) l.holder = true ∧ slotOf (argByte (s.args l.holder) 0x04) = some 0
        ∧ argNat (s.args l.holder) 0x05 = 0 ∧ s.lease 0 = some l ∧ vget s.patChans 0 = none
        ∧ vget s.guardChans 0 = none)
    ∧ (∀ ph ∈ [PatternPhase.running 2 none, .paused (some 1), .done],
      let s := ask 1 0x08 [0, 0] ((place 0 (pattern .active) State.reset).setPatChan 0 (some (patternChan 1 ph)))
      takes s (.queryLease 1) 1 = true ∧ s.lease 0 = some (pattern .active)
        ∧ vget s.patChans 0 = some (patternChan 1 ph) ∧ (patternChan 1 ph).handle = s.handle 0)
    ∧ (let s := ask 0 0x08 [0, 0] ((place 0 (guard .active) State.reset).setGuardChan 0 (some (panelChan .spent)))
      takes s (.queryLease 0) 0 = true ∧ s.lease 0 = some (guard .active)
        ∧ vget s.guardChans 0 = some (panelChan .spent) ∧ (panelChan .spent).handle = s.handle 0)
    ∧ ∀ view ∈ [1, 2], ∀ x ∈ [((1 : Port), drive .active), (1, pattern .active), (1, watch 0#16 .active),
        (0, guard .active), (1, guard .active), (0, { guard .active with params := .pattern twoSteps 0 }),
        (1, { guard .active with params := .pattern twoSteps 0 }),
        (1, { pattern .active with params := .pattern safeSteps 0 }), (1, wide)],
      let s := ask x.1 0x08 [0, view] (place 0 x.2 State.reset)
      takes s (.queryLease x.1) x.1 = true ∧ slotOf (argByte (s.args x.1) 0x04) = some 0
        ∧ argNat (s.args x.1) 0x05 = view.toNat ∧ s.lease 0 = some x.2 := by decide +kernel

theorem witness_LookupLine :
    (let s := ask 1 0x09 [16] State.reset
     takes s (.lookupLine 1) 1 = true ∧ lineOf (argByte (s.args 1) 0x04) = none)
    ∧ (let s := ask 1 0x09 [15] State.reset
      takes s (.lookupLine 1) 1 = true ∧ lineOf (argByte (s.args 1) 0x04) = some 15 ∧ vget s.heldBy 15 = none)
    ∧ let s := ask 1 0x09 [15] (place 0 (guard .active) State.reset)
      takes s (.lookupLine 1) 1 = true ∧ lineOf (argByte (s.args 1) 0x04) = some 15 ∧ vget s.heldBy 15 = some 0
        ∧ s.lease 0 = some (guard .active) := by decide +kernel

theorem witness_RenewSetsTerm :
    ∀ l ∈ [drive .active, drive (.grace 1), drive (.handover 2 1)], ∀ more ∈ [[0, 0], [0x17, 0x70]],
      let s := on 1 0x10 l more
      takes s (.renew 1) 1 = true ∧ Names s 1 0 l ∧ l.holder = 1 ∧ argWord (s.args 1) 0x06 ≤ 6000
        ∧ l.term = some { granted := 3000, remaining := some 50 } ∧ l.outOfCharter = false
        ∧ l.state.live = true := by
  simp only [names_iff]
  decide +kernel

/-- One lease of each kind in GRACE. -/
theorem witness_RenewFromGrace :
    ∀ l ∈ [drive (.grace 1), pattern (.grace 1), watch 0#16 (.grace 1),
        { guard (.grace 1) with holder := 1, term := some { granted := 3000, remaining := some 0 } }],
      let s := on 1 0x10 l [0, 0]
      takes s (.renew 1) 1 = true ∧ Names s 1 0 l ∧ l.holder = 1 ∧ argWord (s.args 1) 0x06 ≤ 6000
        ∧ l.term.map (·.granted) = some 3000 ∧ l.outOfCharter = false ∧ l.state = .grace 1 := by
  simp only [names_iff]
  decide +kernel

theorem witness_ReleaseAndRevoke :
    (let s := on 1 0x11 (drive (.grace 1))
     Safe s ∧ takes s (.release 1) 1 = true ∧ Names s 1 0 (drive (.grace 1)) ∧ (drive (.grace 1)).holder = 1
        ∧ (drive (.grace 1)).state.live = true)
    ∧ (let s := on 1 0x11 (drive (.closed .expired))
      Safe s ∧ takes s (.release 1) 1 = true ∧ Names s 1 0 (drive (.closed .expired))
        ∧ (drive (.closed .expired)).state.live = false)
    ∧ (let s := on 0 0x12 (drive (.handover 2 1))
      Safe s ∧ takes s (.revoke 0) 0 = true ∧ Names s 0 0 (drive (.handover 2 1)))
    ∧ let s := on 0 0x12 (drive (.retiring .fault))
      Safe s ∧ takes s (.revoke 0) 0 = true ∧ Names s 0 0 (drive (.retiring .fault)) := by
  simp only [names_iff]
  exact ⟨⟨on_safe .., by decide +kernel⟩, ⟨on_safe .., by decide +kernel⟩, ⟨on_safe .., by decide +kernel⟩,
    on_safe .., by decide +kernel⟩

/-- P1's closed record with RETIRED in its map. -/
def closed1 : State := postSlot 1 0 SlotKind.retired (.reason .released) (place 0 (drive (.closed .released)) State.reset)

theorem witness_ClosedRecordFreed :
    (let s := ask 0 0x12 [0, 1] closed1
     s.lease 0 = some (drive (.closed .released)) ∧ takes s (.revoke 0) 0 = true
        ∧ Names s 0 0 (drive (.closed .released)))
    ∧ ∀ kinds ∈ [0x08, 0x09, 0x0A], let s := ask 1 0x41 [2, 0, 1, 0, kinds] (postSlot 1 0 SlotKind.termLow .none closed1)
      s.lease 0 = some (drive (.closed .released)) ∧ takes s (.ackNotice 1) 1 = true
        ∧ argNat (s.args 1) 0x04 = 2 ∧ slotOf (argByte (s.args 1) 0x05) = some 0
        ∧ argByte (s.args 1) 0x06 = (s.handle 0).gen ∧ argSet (s.args 1) 0x07 &&& SlotKind.retired ≠ 0#16
        ∧ Holds s 1 0 (s.handle 0).gen SlotKind.retired := by
  simp only [names_iff, Holds]
  decide +kernel

/-! Handover -/

theorem witness_OfferOpensHandover :
    let s := on 1 0x18 (drive .active) [3]
    takes s (.offer 1) 1 = true ∧ Names s 1 0 (drive .active) ∧ (drive .active).holder = 1
      ∧ argByte (s.args 1) 0x06 = BitVec.ofNat 8 (3 : Port).val ∧ (3 : Port) ≠ 1
      ∧ (drive .active).params.code ≠ 3 := by
  simp only [names_iff]
  decide +kernel

/-- A WATCH with a changed line, a WATCH without, and a DRIVE, offered to P2, whose charter permits the lines. -/
def offered (l : Lease) : State :=
  ask 2 0x19 [0, 1] (withCharter 2 { charterP2 with lines := 0x000F#16, leaseLimit := 1 } (place 0 l State.reset))

theorem witness_AcceptHandsOver :
    ∀ l ∈ [watch 0x0008#16 (.handover 2 1), watch 0#16 (.handover 2 1), drive (.handover 2 200)],
      let s := offered l
      takes s (.accept 2) 2 = true ∧ Names s 2 0 l ∧ l.holder ≠ 2 ∧ s.isQuiet 2 = false
        ∧ l.lines &&& (s.charter 2).lines = l.lines ∧ l.term ≠ none
        ∧ (s.portRec 2).occupied < (s.charter 2).leaseLimit ∧ s.queue = [] := by
  simp only [names_iff]
  decide +kernel

theorem witness_RenewOfferAcceptRefused :
    (let s := on 1 0x10 (drive .active) [0x17, 0x71]
     Names s 1 0 (drive .active) ∧ takes s (.renew 1) 1 = true ∧ 6000 < argWord (s.args 1) 0x06)
    ∧ (let s := on 1 0x10 (drive (.retiring .fault)) [0x17, 0x70]
      Names s 1 0 (drive (.retiring .fault)) ∧ takes s (.renew 1) 1 = true
        ∧ argWord (s.args 1) 0x06 ≤ 6000 ∧ (drive (.retiring .fault)).state.live = false)
    ∧ (let s := on 0 0x10 (guard .active) [0, 0]
      Names s 0 0 (guard .active) ∧ takes s (.renew 0) 0 = true ∧ (guard .active).holder = 0
        ∧ (guard .active).term = none)
    ∧ (let l : Lease := { drive .active with outOfCharter := true }
      let s := on 1 0x10 l [0, 0]
      Names s 1 0 l ∧ takes s (.renew 1) 1 = true ∧ l.term ≠ none)
    ∧ (∀ target ∈ [1, 4],
      let s := on 1 0x18 (drive .active) [target]
      Names s 1 0 (drive .active) ∧ takes s (.offer 1) 1 = true
        ∧ (3 < argNat (s.args 1) 0x06 ∨ argNat (s.args 1) 0x06 = (1 : Port).val))
    ∧ (let s := on 1 0x18 (drive (.grace 1)) [3]
      Names s 1 0 (drive (.grace 1)) ∧ takes s (.offer 1) 1 = true ∧ argNat (s.args 1) 0x06 ≤ 3
        ∧ argNat (s.args 1) 0x06 ≠ (1 : Port).val ∧ (drive (.grace 1)).state ≠ .active)
    ∧ (let s := on 0 0x18 (guard .active) [3]
      Names s 0 0 (guard .active) ∧ takes s (.offer 0) 0 = true ∧ argNat (s.args 0) 0x06 ≤ 3
        ∧ argNat (s.args 0) 0x06 ≠ (0 : Port).val ∧ (guard .active).params.code = 3)
    ∧ (let s := on 2 0x19 (drive .active)
      Names s 2 0 (drive .active) ∧ takes s (.accept 2) 2 = true)
    ∧ (let s := on 2 0x19 (drive (.handover 2 1))
      let q := s.setPortRec 2 { s.portRec 2 with quiet := some 1 }
      Names q 2 0 (drive (.handover 2 1)) ∧ takes q (.accept 2) 2 = true ∧ q.isQuiet 2 = true
        ∧ Names s 2 0 (drive (.handover 2 1)) ∧ takes s (.accept 2) 2 = true ∧ s.isQuiet 2 = false
        ∧ (drive (.handover 2 1)).lines &&& (s.charter 2).lines ≠ (drive (.handover 2 1)).lines)
    ∧ (let l : Lease := { drive (.handover 2 1) with term := none }
      let s := offered l
      Names s 2 0 l ∧ takes s (.accept 2) 2 = true ∧ s.isQuiet 2 = false ∧ (s.charter 2).mayPin = false)
    ∧ (let s := offered (drive (.handover 2 1))
      let s := s.setPortRec 2 { s.portRec 2 with occupied := 1 }
      Names s 2 0 (drive (.handover 2 1)) ∧ takes s (.accept 2) 2 = true ∧ s.isQuiet 2 = false
        ∧ (drive (.handover 2 1)).lines &&& (s.charter 2).lines = (drive (.handover 2 1)).lines
        ∧ (s.charter 2).leaseLimit ≤ (s.portRec 2).occupied) := by
  simp only [names_iff]
  refine ⟨?_, ?_, ?_, ?_, ?_, ?_, ?_, ?_, ?_, ?_, ?_⟩ <;> decide +kernel

/-- The state of a lease that no port has an offer on. -/
theorem active_not_handover (p : Port) : ∀ left, (drive .active).state ≠ .handover p left := nofun

theorem witness_Decline :
    (let s := ask 2 0x1A [24, 0] State.reset
     takes s (.decline 2) 2 = true ∧ slotOf (argByte (s.args 2) 0x04) = none)
    ∧ (let s := ask 2 0x1A [23, 0] State.reset
      takes s (.decline 2) 2 = true ∧ slotOf (argByte (s.args 2) 0x04) = some 23 ∧ s.lease 23 = none)
    ∧ (let s := on 2 0x1A (drive .active)
      takes s (.decline 2) 2 = true ∧ Names s 2 0 (drive .active))
    ∧ let s := on 2 0x1A (drive (.handover 2 1))
      takes s (.decline 2) 2 = true ∧ Names s 2 0 (drive (.handover 2 1)) := by
  simp only [names_iff]
  decide +kernel

theorem witness_Withdraw :
    (let s := ask 1 0x1B [24, 0] State.reset
     takes s (.withdraw 1) 1 = true ∧ slotOf (argByte (s.args 1) 0x04) = none)
    ∧ (let s := on 1 0x1B (guard .active)
      takes s (.withdraw 1) 1 = true ∧ slotOf (argByte (s.args 1) 0x04) = some 0
        ∧ s.lease 0 = some (guard .active) ∧ (guard .active).holder ≠ 1)
    ∧ ∀ l ∈ [drive .active, drive (.grace 1), drive (.retiring .fault), drive (.closed .fault),
        drive (.handover 2 1)],
      let s := on 1 0x1B l
      takes s (.withdraw 1) 1 = true ∧ Names s 1 0 l ∧ l.holder = 1 := by
  simp only [names_iff]
  decide +kernel

/-! Kind commands -/

theorem witness_SetGuard :
    (let s := on 0 0x20 (guard .active) [2]
     takes s (.setGuard 0) 0 = true ∧ Names s 0 0 (guard .active) ∧ 1 < (argByte (s.args 0) 0x06).toNat)
    ∧ (let s := on 0 0x20 (guard (.retiring .fault)) [1]
      takes s (.setGuard 0) 0 = true ∧ Names s 0 0 (guard (.retiring .fault))
        ∧ (argByte (s.args 0) 0x06).toNat ≤ 1 ∧ (guard (.retiring .fault)).state.isGrace = false)
    ∧ (let s := on 1 0x20 (drive .active) [1]
      takes s (.setGuard 1) 1 = true ∧ Names s 1 0 (drive .active) ∧ (drive .active).params.code ≠ 3)
    ∧ ∀ l ∈ [guard .active, guard (.grace 1)], ∀ flag ∈ [0, 1],
      let s := on 0 0x20 l [flag]
      takes s (.setGuard 0) 0 = true ∧ Names s 0 0 l ∧ l.holder = 0
        ∧ (argByte (s.args 0) 0x06).toNat ≤ 1 ∧ l.params = .guard panel true 0
        ∧ (l.state = .active ∨ l.state.isGrace = true) := by
  simp only [names_iff]
  decide +kernel

theorem witness_SetLevelsAndRestartPattern :
    (∀ l ∈ [drive (.grace 1), drive (.closed .fault), pattern .active, drive .active, drive (.handover 2 1)],
      let s := on 1 0x28 l [0xFF, 0xFE]
      Names s 1 0 l ∧ l.holder = 1 ∧ takes s (.setLevels 1) 1 = true)
    ∧ ∀ l ∈ [pattern (.grace 1), drive .active, pattern .active, pattern (.handover 2 1)],
      let s := on 1 0x29 l
      Names s 1 0 l ∧ l.holder = 1 ∧ takes s (.restartPattern 1) 1 = true := by
  simp only [names_iff]
  decide +kernel

theorem witness_ReadLevelsAndClearFault :
    (∀ l ∈ [drive .active, drive (.closed .fault), watch 0x0008#16 (.grace 1), watch 0x0008#16 (.retiring .fault)],
      ∀ flag ∈ [0, 1, 2],
        let s := on 1 0x2A l [flag]
        Names s 1 0 l ∧ l.holder = 1 ∧ takes s (.readLevels 1) 1 = true ∧ argByte (s.args 1) 0x06 = flag)
    ∧ ∀ l ∈ [drive (.retiring .fault), { drive (.grace 1) with faults := 0x0003#16 }],
      let s := on 1 0x2B l [0, 1]
      Names s 1 0 l ∧ l.holder = 1 ∧ takes s (.clearFault 1) 1 = true ∧ argSet (s.args 1) 0x06 = 1#16 := by
  simp only [names_iff]
  decide +kernel

/-! Administration -/

theorem witness_SetLineProfile :
    (∀ bytes ∈ [[16, 0, 0, 0, 0], [0, 5, 0, 0, 0], [0, 0, 32, 0, 0], [0, 0, 0, 0, 2]],
      let s := ask 0 0x30 bytes State.reset
      takes s (.setLineProfile 0) 0 = true
        ∧ (15 < argNat (s.args 0) 0x04 ∨ 4 < argNat (s.args 0) 0x05 ∨ 31 < argNat (s.args 0) 0x06
          ∨ 1 < argNat (s.args 0) 0x08))
    ∧ let s := ask 0 0x30 [15, 4, 31, 255, 1] State.reset
      takes s (.setLineProfile 0) 0 = true ∧ argNat (s.args 0) 0x04 = (15 : Line).val
        ∧ restModeOf (argByte (s.args 0) 0x05) = some .driveHigh ∧ argNat (s.args 0) 0x06 ≤ 31
        ∧ argNat (s.args 0) 0x08 ≤ 1 := by decide +kernel

/-- A charter that P1's lease and waiting entry no longer fit, at the upper edges of its fields. -/
theorem witness_SetCharter :
    (∀ bytes ∈ [[4, 0, 0, 0, 0, 1, 0, 0, 0, 0, 0], [0, 0, 0, 25, 0, 1, 0, 0, 0, 0, 0], [0, 0, 0, 0, 0, 0, 0, 0, 0, 0, 0],
        [0, 0, 0, 0, 0x17, 0x71, 0, 0, 0, 0, 0], [0, 0, 0, 0, 0, 1, 201, 0, 0, 0, 0], [0, 0, 0, 0, 0, 1, 0, 0, 2, 0, 0],
        [0, 0, 0, 0, 0, 1, 0, 0, 0, 2, 0], [0, 0, 0, 0, 0, 1, 0, 0, 0, 0, 2]],
      let s := ask 0 0x38 bytes State.reset
      let a := s.args 0
      takes s (.setCharter 0) 0 = true
        ∧ (3 < argNat a 0x04 ∨ 24 < argNat a 0x07 ∨ argWord a 0x08 = 0 ∨ 6000 < argWord a 0x08 ∨ 200 < argNat a 0x0A
          ∨ 1 < argNat a 0x0C ∨ 1 < argNat a 0x0D ∨ 1 < argNat a 0x0E))
    ∧ let s := ask 0 0x38 [1, 0, 0, 24, 0x17, 0x70, 200, 255, 1, 1, 1] (seven (place 0 (drive .active) State.reset))
      let a := s.args 0
      takes s (.setCharter 0) 0 = true ∧ argNat a 0x04 = (1 : Port).val ∧ argNat a 0x07 ≤ 24 ∧ 0 < argWord a 0x08
        ∧ argWord a 0x08 ≤ 6000 ∧ argNat a 0x0A ≤ 200 ∧ argNat a 0x0C ≤ 1 ∧ argNat a 0x0D ≤ 1 ∧ argNat a 0x0E ≤ 1
        ∧ s.lease 0 = some (drive .active) ∧ fits ((run (.setCharter 0) s).charter 1) (drive .active) = false
        ∧ ∃ e ∈ s.queue, permits ((run (.setCharter 0) s).charter e.port) e.request = false := by
  decide +kernel

theorem witness_ReadCharter :
    (let s := ask 1 0x39 [4] State.reset
     takes s (.readCharter 1) 1 = true ∧ 3 < argNat (s.args 1) 0x04)
    ∧ (let s := ask 1 0x39 [3] State.reset
      takes s (.readCharter 1) 1 = true ∧ argNat (s.args 1) 0x04 ≤ 3 ∧ argNat (s.args 1) 0x04 ≠ (1 : Port).val)
    ∧ (let s := ask 0 0x39 [3] State.reset
      takes s (.readCharter 0) 0 = true ∧ argNat (s.args 0) 0x04 = (3 : Port).val)
    ∧ let s := ask 1 0x39 [1] State.reset
      takes s (.readCharter 1) 1 = true ∧ argNat (s.args 1) 0x04 = (1 : Port).val := by decide +kernel

/-- One lease for each clause: live with a term, pinned and offered, RETIRING, CLOSED, and another port's offer to
the port that is reset. -/
theorem witness_ResetPort :
    (let s := ask 1 0x3A [4] State.reset
     takes s (.resetPort 1) 1 = true ∧ 3 < argNat (s.args 1) 0x04)
    ∧ (let s := ask 1 0x3A [3] State.reset
      takes s (.resetPort 1) 1 = true ∧ argNat (s.args 1) 0x04 ≤ 3 ∧ argNat (s.args 1) 0x04 ≠ (1 : Port).val)
    ∧ (∀ l ∈ [drive (.grace 1), { watch 8#16 (.handover 2 1) with term := none }, drive (.retiring .fault),
        drive (.closed .fault), { drive (.handover 1 1) with holder := 2 }],
      let s := ask 0 0x3A [1] (place 0 l State.reset)
      Safe s ∧ takes s (.resetPort 0) 0 = true ∧ argNat (s.args 0) 0x04 = (1 : Port).val ∧ s.lease 0 = some l)
    ∧ let s := ask 1 0x3A [1] State.reset
      Safe s ∧ takes s (.resetPort 1) 1 = true ∧ argNat (s.args 1) 0x04 = (1 : Port).val := by
  refine ⟨by decide +kernel, by decide +kernel, ?_, ask_safe reset_safe _ _ _, by decide +kernel⟩
  have h : ∀ l ∈ [drive (.grace 1), { watch 8#16 (.handover 2 1) with term := none }, drive (.retiring .fault),
      drive (.closed .fault), { drive (.handover 1 1) with holder := 2 }],
      let s := ask 0 0x3A [1] (place 0 l State.reset)
      takes s (.resetPort 0) 0 = true ∧ argNat (s.args 0) 0x04 = (1 : Port).val ∧ s.lease 0 = some l := by
    decide +kernel
  exact fun l hl => ⟨ask_safe (placed_safe l) _ _ _, h l hl⟩

/-! Notices -/

/-- A map of P1 with one ticket, and then a slot, a line and the port subject in front of it. -/
def mapTicket : State :=
  State.reset.setMap 1 { NoticeMap.empty with tickets := [{ ticket := 255, kinds := TicketKind.waitExpired, arrival := 0 }] }

def mapSlot : State := postSlot 1 23 SlotKind.retired (.reason .fault) mapTicket

def mapLine : State := mapSlot.setMap 1 ((mapSlot.map 1).postLine 15)

def mapPort : State := postPort 1 PortKind.recalled mapLine

/-- P1 asks for its next notice. -/
def next (s : State) : State := ask 1 0x40 [] s

theorem witness_NextNotice :
    (let s := next State.reset
     takes s (.nextNotice 1) 1 = true ∧ (s.map 1).port = 0#16 ∧ (s.map 1).lines = 0#16
        ∧ (∀ k, vget (s.map 1).slots k = none) ∧ (s.map 1).tickets = [])
    ∧ (takes (next mapPort) (.nextNotice 1) 1 = true ∧ ((next mapPort).map 1).port ≠ 0#16)
    ∧ (Safe mapPort ∧ (mapPort.map 1).lines ≠ 0#16 ∧ (∃ k, (vget (mapPort.map 1).slots k).isSome)
      ∧ (mapPort.map 1).tickets ≠ [])
    ∧ (let m := (next mapLine).map 1
      takes (next mapLine) (.nextNotice 1) 1 = true ∧ m.port = 0#16 ∧ has m.lines 15 = true
        ∧ ∀ j : Line, j < 15 → has m.lines j = false)
    ∧ (let m := (next mapSlot).map 1
      takes (next mapSlot) (.nextNotice 1) 1 = true ∧ m.port = 0#16 ∧ m.lines = 0#16
        ∧ vget m.slots 23 = some ⟨0, SlotKind.retired, some .fault, none, none⟩
        ∧ ∀ j : Slot, j < 23 → vget m.slots j = none)
    ∧ (let m := (next mapTicket).map 1
      takes (next mapTicket) (.nextNotice 1) 1 = true ∧ m.port = 0#16 ∧ m.lines = 0#16
        ∧ (∀ k, vget m.slots k = none) ∧ m.tickets = [⟨255, TicketKind.waitExpired, 0⟩])
    ∧ let s := { next (State.reset.setMap 1 { NoticeMap.empty with
        tickets := [⟨255, TicketKind.waitExpired, 0⟩, ⟨2, TicketKind.waitRefused, 1⟩] }) with arrivals := 2 }
      takes s (.nextNotice 1) 1 = true ∧ TicketsRight s
        ∧ (s.map 1).tickets = ⟨255, TicketKind.waitExpired, 0⟩ :: [⟨2, TicketKind.waitRefused, 1⟩] := by
  simp only [tickets_iff, safe_iff]
  decide +kernel

/-- P1 acknowledges with these bytes. -/
def ack (bytes : List Byte) (s : State) : State := ask 1 0x41 bytes s

theorem witness_AckRefused :
    (∀ bytes ∈ [[4, 0, 0, 0, 1], [1, 16, 0, 0, 1], [2, 24, 0, 0, 1], [2, 0, 0, 0, 0], [0, 0, 0, 0, 8], [3, 1, 0, 0, 8],
        [1, 0, 0, 0, 2], [0, 0, 0, 0, 1], [1, 15, 0, 0, 1], [3, 255, 0, 0, 7], [2, 23, 0, 0, 8], [2, 0, 2, 0, 8],
        [2, 23, 0, 0, 1], [2, 0, 2, 0, 1]],
      takes (ack bytes closed1) (.ackNotice 1) 1 = true)
    ∧ (let s := ack [0, 0, 0, 0, 7] closed1
      (s.map 1).port = 0#16 ∧ argNat (s.args 1) 0x04 = 0 ∧ (argSet (s.args 1) 0x07).toNat = 7)
    ∧ (let s := ack [1, 15, 0, 0, 1] closed1
      lineOf (argByte (s.args 1) 0x05) = some 15 ∧ argSet (s.args 1) 0x07 = 1#16 ∧ has (s.map 1).lines 15 = false)
    ∧ (let s := ack [3, 255, 0, 0, 7] closed1
      ∀ x ∈ (s.map 1).tickets, x.ticket ≠ argByte (s.args 1) 0x05)
    ∧ (let s := ack [2, 23, 0, 0, 8] closed1
      slotOf (argByte (s.args 1) 0x05) = some 23 ∧ argSet (s.args 1) 0x07 &&& SlotKind.retired ≠ 0#16
        ∧ s.lease 23 = none)
    ∧ (let s := ack [2, 23, 0, 0, 1] closed1
      argSet (s.args 1) 0x07 &&& SlotKind.retired = 0#16 ∧ vget (s.map 1).slots 23 = none)
    ∧ let s := ack [2, 0, 2, 0, 1] closed1
      argSet (s.args 1) 0x07 &&& SlotKind.retired = 0#16 ∧ vget (s.map 1).slots 0 =
        some ⟨1, SlotKind.retired, some .released, none, none⟩ ∧ (1 : Byte) ≠ argByte (s.args 1) 0x06 := by
  decide +kernel

/-- A live WATCH with a changed line and EDGE in its holder's map. -/
def edgeMap : State := postSlot 1 0 SlotKind.edge .none (place 0 (watch 8#16 .active) State.reset)

theorem witness_AckRemovesKinds :
    (let s := ack [0, 0, 0, 0, 7] mapPort
     takes s (.ackNotice 1) 1 = true ∧ argNat (s.args 1) 0x04 = 0 ∧ argSet (s.args 1) 0x07 = 7#16
        ∧ (s.map 1).port ≠ 0#16)
    ∧ (let s := ack [1, 15, 0, 0, 1] mapPort
      takes s (.ackNotice 1) 1 = true ∧ argNat (s.args 1) 0x04 = 1 ∧ lineOf (argByte (s.args 1) 0x05) = some 15
        ∧ argSet (s.args 1) 0x07 = 1#16 ∧ has (s.map 1).lines 15 = true)
    ∧ (let s := ack [3, 255, 0, 0, 1] mapPort
      takes s (.ackNotice 1) 1 = true ∧ argNat (s.args 1) 0x04 = 3 ∧ (argSet (s.args 1) 0x07).toNat ≤ 7
        ∧ ∃ x ∈ (s.map 1).tickets, x.ticket = argByte (s.args 1) 0x05)
    ∧ (∀ x ∈ [(0x28, edgeMap), (0x0A, postSlot 1 0 SlotKind.termLow .none (place 0 (drive (.closed .released)) State.reset))],
      let s := ack [2, 0, 1, 0, x.1] x.2
      takes s (.ackNotice 1) 1 = true ∧ argNat (s.args 1) 0x04 = 2 ∧ slotOf (argByte (s.args 1) 0x05) = some 0
        ∧ argSet (s.args 1) 0x07 &&& SlotKind.retired ≠ 0#16 ∧ (s.lease 0).isSome ∧ (s.handle 0).gen = 1
        ∧ ∃ e, vget (s.map 1).slots 0 = some e ∧ e.gen = 1 ∧ e.gen = argByte (s.args 1) 0x06
          ∧ e.kinds &&& SlotKind.retired = 0#16)
    ∧ ∀ kinds ∈ [0x20, 0x01],
      let s := ack [2, 0, 1, 0, kinds] edgeMap
      takes s (.ackNotice 1) 1 = true ∧ argNat (s.args 1) 0x04 = 2 ∧ slotOf (argByte (s.args 1) 0x05) = some 0
        ∧ vget (s.map 1).slots 0 = some ⟨1, SlotKind.edge, none, none, none⟩
        ∧ (1 : Byte) = argByte (s.args 1) 0x06 ∧ argSet (s.args 1) 0x07 ≠ 0#16
        ∧ argSet (s.args 1) 0x07 &&& SlotKind.retired = 0#16 ∧ s.lease 0 = some (watch 8#16 .active)
        ∧ (s.handle 0).gen = 1 := by decide +kernel

/-! Term ticks -/

/-- A lease of P1 with this state, remaining term and grace. -/
def aging (st : LeaseState) (rem grace : Nat) : Lease :=
  { drive st with term := some { granted := 3000, remaining := some rem }, grace := grace }

/-- P2 is quiet for two more units, and has a wait at its last unit and one at the last but one. -/
def twoWait : State :=
  { State.reset.setPortRec 2 ⟨0, some 2, 2⟩ with queue := [waiter 2 1 1, waiter 2 2 2] }

/-- Every countdown at its last unit and at the one before it, for each kind where a term ends; a lease of each kind
that does not end; and nothing that counts. -/
theorem witness_TermTick :
    (∀ l : Lease, let s := place 0 l State.reset
      Safe s ∧ s.lease 0 = some l)
    ∧ (∀ l ∈ [aging .active 2 100, aging (.handover 2 2) 2 100, aging (.handover 2 1) 2 100, aging .active 1 1,
        { aging .active 1 1 with params := .pattern twoSteps 0 },
        { aging .active 1 1 with params := .watch .up 0#16 0#16 0#16 },
        { aging .active 1 1 with params := .guard panel true 0 },
        aging (.handover 2 1) 1 100, aging .active 1 0, aging (.grace 2) 0 1, aging (.grace 1) 0 1],
      l.state.live = true ∧ l.term.bind (·.remaining) ∈ [some 0, some 1, some 2])
    ∧ (∀ l ∈ [drive .active, pattern .active, guard .active], ¬EndsAtTick l ∧ l.state.live = true)
    ∧ (let s := place 0 (pattern .active) State.reset
      Safe s ∧ vget s.heldBy 2 = some 0 ∧ vget s.heldBy 3 = none ∧ vget (run .termTick s).heldBy 3 = none
        ∧ vget s.patTaken 1 = false ∧ vget (run .termTick s).patTaken 1 = false
        ∧ vget s.guardTaken 0 = false ∧ vget (run .termTick s).guardTaken 0 = false)
    ∧ Safe twoWait ∧ (twoWait.portRec 2).quiet = some 2 ∧ Safe State.reset
    ∧ (∀ k, State.reset.lease k = none) ∧ State.reset.queue = [] ∧ ∀ p, (State.reset.portRec p).quiet = none :=
  ⟨fun l => ⟨placed_safe l, by rw [(placed l).1]; rfl⟩, by decide +kernel,
    by simp [EndsAtTick, drive, pattern, guard, LeaseState.live],
    ⟨placed_safe _, by decide +kernel⟩, by simp only [safe_iff]; decide +kernel,
    by decide +kernel, reset_safe, by decide +kernel, rfl, by decide +kernel⟩

/-- One lease of each kind at the end of its term; grace 0; and a term that has not ended. -/
theorem witness_TermEnd :
    (∀ l ∈ [aging .active 0 1, aging (.handover 2 1) 0 200, { aging .active 0 1 with params := .pattern twoSteps 0 },
        { aging .active 0 1 with params := .watch .up 0#16 0#16 0#16 },
        { aging .active 0 1 with params := .guard panel true 0 }, aging .active 0 0, aging .active 1 1],
      let s := place 0 l State.reset
      Safe s ∧ s.lease 0 = some l ∧ l.term.bind (·.remaining) = some (if l = aging .active 1 1 then 1 else 0)
        ∧ l.grace = if l = aging .active 0 0 then 0 else if l.state = .active then 1 else 200) := by
  have h : ∀ l ∈ [aging .active 0 1, aging (.handover 2 1) 0 200,
      { aging .active 0 1 with params := .pattern twoSteps 0 },
      { aging .active 0 1 with params := .watch .up 0#16 0#16 0#16 },
      { aging .active 0 1 with params := .guard panel true 0 }, aging .active 0 0, aging .active 1 1],
      l.term.bind (·.remaining) = some (if l = aging .active 1 1 then 1 else 0)
        ∧ l.grace = if l = aging .active 0 0 then 0 else if l.state = .active then 1 else 200 := by decide +kernel
  exact fun l hl => ⟨placed_safe l, by rw [(placed l).1]; rfl, h l hl⟩

theorem witness_CountdownEnds :
    ((let s := place 0 (aging (.grace 0) 0 1) State.reset
      Safe s ∧ s.lease 0 = some (aging (.grace 0) 0 1))
     ∧ let s := place 0 (aging (.handover 2 0) 1 1) State.reset
       Safe s ∧ s.lease 0 = some (aging (.handover 2 0) 1 1)
         ∧ (aging (.handover 2 0) 1 1).term.bind (·.remaining) ≠ some 0)
    ∧ (let s := { State.reset with queue := [waiter 2 255 0] }
      Safe s ∧ waiter 2 255 0 ∈ s.queue ∧ (waiter 2 255 0).waitRemaining = 0)
    ∧ let s := State.reset.setPortRec 2 { State.reset.portRec 2 with quiet := some 0 }
      Safe s ∧ (s.portRec 2).quiet = some 0 := by
  refine ⟨⟨⟨placed_safe _, by decide +kernel⟩, placed_safe _, by decide +kernel⟩, ?_⟩
  simp only [safe_iff]
  decide +kernel

/-! Reports -/

/-- An edge that joins an empty set, one that joins a set with a line, and one that does not qualify. -/
theorem witness_EdgeReport :
    (∀ changed ∈ [0#16, 8#16],
      let s := { place 0 (watch changed .active) State.reset with reports := [.edge ⟨0, 1⟩ 3 true] }
      NextReport s (fun r => r.line? = some 3) (.edge ⟨0, 1⟩ 3 true) [] ∧ s.lease 0 = some (watch changed .active)
        ∧ s.handle 0 = ⟨0, 1⟩ ∧ (watch changed .active).params = .watch .up 8#16 8#16 changed
        ∧ has 8#16 3 = true)
    ∧ let s := { State.reset with reports := [.edge ⟨0, 1⟩ 3 true] }
      NextReport s (fun r => r.line? = some 3) (.edge ⟨0, 1⟩ 3 true) [] ∧ s.lease 0 = none := by
  refine ⟨?_, next_front rfl, by decide +kernel⟩
  intro changed h
  simp only [List.mem_cons, List.not_mem_nil, or_false] at h
  rcases h with rfl | rfl <;> exact ⟨next_front rfl, by decide +kernel⟩

/-- P1's drive on L0 and L1 under its charter, with a fault report of L0 on its way. -/
def faulty (policy : FaultPolicy) (l : Lease) : State :=
  { withCharter 1 { Charter.resetP0 with policy := policy } (place 0 l State.reset) with reports := [.fault ⟨0, 1⟩ 0] }

theorem faulty_safe (policy : FaultPolicy) (l : Lease) : Safe (faulty policy l) :=
  have h := placed_safe l
  ⟨h.held, h.counts, h.channels, h.waits⟩

theorem witness_FaultReport :
    (∀ s, s = faulty .hold (drive .active) ∨ s = faulty .retire (drive .active) →
      Safe s ∧ NextReport s (fun r => r.line? = some 0) (.fault ⟨0, 1⟩ 0) [] ∧ s.lease 0 = some (drive .active)
        ∧ s.handle 0 = ⟨0, 1⟩ ∧ has (drive .active).lines 0 = true ∧ has (drive .active).faults 0 = false
        ∧ (drive .active).term ≠ none)
    ∧ ((faulty .hold (drive .active)).charter 1).policy = .hold
    ∧ ((faulty .retire (drive .active)).charter 1).policy = .retire
    ∧ let s := faulty .hold (drive (.retiring .released))
      Safe s ∧ NextReport s (fun r => r.line? = some 0) (.fault ⟨0, 1⟩ 0) []
        ∧ s.lease 0 = some (drive (.retiring .released)) ∧ (drive (.retiring .released)).state.live = false := by
  refine ⟨?_, by decide +kernel, by decide +kernel, faulty_safe _ _, next_front rfl, by decide +kernel⟩
  rintro s (rfl | rfl) <;> exact ⟨faulty_safe _ _, next_front rfl, by decide +kernel⟩

/-- A retirement with reason RELEASED, one with PORT_RESET, and a report whose record has gone. -/
theorem witness_SettleComplete :
    (∀ reason, reason = .released ∨ reason = .portReset →
      let s := { place 0 (drive (.retiring reason)) State.reset with reports := [.settleComplete ⟨0, 1⟩] }
      NextReport s (fun r => ∃ g, r = .settleComplete g ∧ g.slot = 0) (.settleComplete ⟨0, 1⟩) []
        ∧ s.lease 0 = some (drive (.retiring reason)) ∧ s.handle 0 = ⟨0, 1⟩ ∧ s.queue = [])
    ∧ let s := { State.reset with reports := [.settleComplete ⟨0, 1⟩] }
      NextReport s (fun r => ∃ g, r = .settleComplete g ∧ g.slot = 0) (.settleComplete ⟨0, 1⟩) []
        ∧ s.lease 0 = none := by
  refine ⟨?_, next_front rfl, by decide +kernel⟩
  rintro reason (rfl | rfl) <;> exact ⟨next_front rfl, by decide +kernel⟩

theorem witness_PatternDoneAndRestFaultReports :
    (∀ st, st = .active ∨ st = .retiring .fault →
      let s := { place 0 (pattern st) State.reset with reports := [.patternDone ⟨0, 1⟩] }
      NextReport s (fun r => ∃ g, r = .patternDone g ∧ g.slot = 0) (.patternDone ⟨0, 1⟩) []
        ∧ s.lease 0 = some (pattern st) ∧ s.handle 0 = ⟨0, 1⟩)
    ∧ NextReport { State.reset with reports := [.restFault 15] } (fun r => r.line? = some 15) (.restFault 15) [] := by
  refine ⟨?_, next_front rfl⟩
  rintro st (rfl | rfl) <;> exact ⟨next_front rfl, by decide +kernel⟩

/-- The panel guard with a recall of P2, which holds a lease, has an offer of P1's and a waiting entry. -/
def recallScene (st : LeaseState) (carried : Bool) : State :=
  let s := place 2 { drive .active with holder := 2 } (place 1 { pattern (.handover 2 9) with holder := 1 } (place 0 (guard st) State.reset))
  { s with queue := [waiter 2 1 9], reports := [.fire ⟨0, 1⟩ carried] }

theorem witness_FireReport :
    (let s := recallScene .active true
     Safe s ∧ NextReport s (fun r => ∃ g c, r = .fire g c ∧ g.slot = 0) (.fire ⟨0, 1⟩ true) []
        ∧ s.lease 0 = some (guard .active) ∧ s.handle 0 = ⟨0, 1⟩ ∧ panel.recallSpec = some ⟨2, 1000⟩)
    ∧ (let s := recallScene .active false
      NextReport s (fun r => ∃ g c, r = .fire g c ∧ g.slot = 0) (.fire ⟨0, 1⟩ false) []
        ∧ s.lease 0 = some (guard .active) ∧ s.handle 0 = ⟨0, 1⟩)
    ∧ (let s := recallScene (.grace 1) true
      NextReport s (fun r => ∃ g c, r = .fire g c ∧ g.slot = 0) (.fire ⟨0, 1⟩ true) []
        ∧ s.lease 0 = some (guard (.grace 1)) ∧ (guard (.grace 1)).params.code = 3)
    ∧ let s := { State.reset with reports := [.fire ⟨0, 1⟩ true] }
      NextReport s (fun r => ∃ g c, r = .fire g c ∧ g.slot = 0) (.fire ⟨0, 1⟩ true) [] ∧ s.handle 0 ≠ ⟨0, 1⟩ := by
  simp only [safe_iff]
  exact ⟨⟨by decide +kernel, next_front rfl, by decide +kernel⟩, ⟨next_front rfl, by decide +kernel⟩,
    ⟨next_front rfl, by decide +kernel⟩, next_front rfl, by decide +kernel⟩

/-! The 1 ms tick -/

/-- L0 driven high by P1 with three mismatches, L4 checked at rest with three, L5 one sample from its change, a
pattern and a pulse under way, a retirement at its last tick and one before it, and a bus stall at 25. -/
def busy : State :=
  let s := place 0 (drive .active) State.reset
  let s := (s.setCell 0 { s.cell 0 with assigned := some true, mismatch := 3 }).setCell 4 { Cell.reset with mismatch := 3 }
  let s := s.setProfile 4 { Profile.reset with rest := .driveHigh, faultCheck := true }
  let s := (s.setCell 5 { Cell.reset with stability := 4 }).setCell 8 { Cell.reset with settle := 1 }
  let s := s.setCell 9 { Cell.reset with settle := 2 }
  let s := { s with settling := vset (vset s.settling 7 (some ⟨1, 0x0100#16, false⟩)) 8 (some ⟨1, 0x0200#16, false⟩) }
  s.setBus 1 { Bus.reset with state := .writing, stall := 25 }

/-- A pattern channel with 2 ms to go and a guard channel with a pulse of 2 ms to go. -/
def channels : State :=
  (State.reset.setPatChan 0 (some (patternChan 0 (.running 2 (some 1))))).setGuardChan 0 (some (panelChan (.firing 2)))

/-- A state whose lines no channel at its end holds. -/
theorem leftAlone_of {s : State} (hp : ∀ c, vget s.patChans c = none) (hg : ∀ g, vget s.guardChans g = none) (n : Line) :
    LineLeftAlone s n :=
  ⟨fun c _ _ _ h => by simp [hp c] at h, fun g _ _ h => by simp [hg g] at h⟩

/-- A state without a channel; channels at 2 ms; and channels at the last ms of a step and of a pulse, on the lines of
their leases. -/
theorem witness_MsTick :
    (run .deviceReset busy).rstnAsserted = true ∧ busy.rstnAsserted = false
    ∧ (has 0x0020#16 5 ≠ (busy.cell 5).debounced ∧ (busy.profile 5).debounce ≤ (busy.cell 5).stability)
    ∧ ((∀ n, LineLeftAlone busy n)
      ∧ checkedLevel busy 0 = some true ∧ true ≠ has 0x0020#16 0 ∧ 3 ≤ (busy.cell 0).mismatch
      ∧ liveHolding busy 0 = some (0, drive .active)
      ∧ checkedLevel busy 4 = some true ∧ 3 ≤ (busy.cell 4).mismatch ∧ liveHolding busy 4 = none
      ∧ checkedLevel busy 6 = none)
    ∧ (channels.rstnAsserted = false
      ∧ vget channels.patChans 0 = some (patternChan 0 (.running 2 (some 1)))
      ∧ vget channels.guardChans 0 = some (panelChan (.firing 2)))
    ∧ (vget busy.settling 7 = some ⟨1, 0x0100#16, false⟩ ∧ ∀ n, has 0x0100#16 n = true → (busy.cell n).settle ≤ 1)
    ∧ (vget busy.settling 8 = some ⟨1, 0x0200#16, false⟩ ∧ has 0x0200#16 9 = true ∧ 2 ≤ (busy.cell 9).settle
      ∧ ∀ j, j ≠ 8 → ∀ x ∈ vget busy.settling j, x.lines &&& 0x0200#16 = 0#16)
    ∧ ((busy.bus 0).state = .waiting ∧ (busy.bus 1).state ≠ .waiting ∧ 25 ≤ (busy.bus 1).stall)
    ∧ ((busy.bus 1).state ≠ .waiting ∧ (2#4).getLsbD 1 = true)
    ∧ (∀ x ∈ [(0, some 1), (1, none), (1, some 2), (1, some 1)],
      let ch := patternChan x.1 (.running 1 x.2)
      let s := (place 0 (pattern .active) State.reset).setPatChan 0 (some ch)
      vget s.patChans 0 = some ch ∧ (∀ d, d ≠ 0 → vget s.patChans d = none) ∧ (∀ g, vget s.guardChans g = none)
        ∧ s.lease ch.handle.slot = some (pattern .active) ∧ s.handle ch.handle.slot = ch.handle
        ∧ has (pattern .active).lines 2 = true ∧ vget s.heldBy 2 = some ch.handle.slot
        ∧ (x ≠ (1, some 1) → appliedConfig (run (.msTick 0 ⟨0, 0⟩ []) s) 2 ≠ appliedConfig s 2))
    ∧ let ch := panelChan (.firing 1)
      let s := (place 0 (guard .active) State.reset).setGuardChan 0 (some ch)
      vget s.guardChans 0 = some ch ∧ (∀ d, d ≠ 0 → vget s.guardChans d = none) ∧ (∀ c, vget s.patChans c = none)
        ∧ (∀ x ∈ ch.conditions, (s.cell x.line).debounced = has 0#16 x.line) ∧ ch.action = some ⟨15, false, 20⟩
        ∧ s.lease ch.handle.slot = some (guard .active) ∧ s.handle ch.handle.slot = ch.handle
        ∧ has (guard .active).lines 15 = true ∧ vget s.heldBy 15 = some ch.handle.slot := by
  refine ⟨by decide +kernel, by decide +kernel, by decide +kernel, ⟨leftAlone_of (by decide +kernel) (by decide +kernel),
    by decide +kernel⟩, by decide +kernel⟩

/-- The panel guard with 1 ms and 2 ms of its hold left and its buttons pressed; and a guard of one condition, and
one of three, whose lines are each one sample from their change or true already. -/
theorem witness_GuardHoldCounts :
    (∀ n ∈ [1, 2],
      let s := (place 0 (guard .active) State.reset).setGuardChan 0 (some (panelChan (.holding n)))
      (∀ d, d ≠ 0 → vget s.guardChans d = none) ∧ (∀ c, vget s.patChans c = none) ∧ s.lease 0 = some (guard .active)
        ∧ s.handle 0 = (panelChan (.holding n)).handle ∧ vget s.heldBy 15 = some 0 ∧ s.rstnAsserted = false ∧ vget s.guardChans 0 = some (panelChan (.holding n))
        ∧ ∀ c ∈ (panelChan (.holding n)).conditions, (s.cell c.line).debounced = has 0#16 c.line)
    ∧ ∀ conditions ∈ [[⟨5, true⟩], [⟨5, true⟩, ⟨6, true⟩, ⟨7, false⟩]],
      let ch := { panelChan .armed with conditions := conditions }
      let s := ((State.reset.setGuardChan 0 (some ch)).setCell 5 { Cell.reset with stability := 4 }).setCell 6
        { Cell.reset with stability := 4 }
      s.rstnAsserted = false ∧ vget s.guardChans 0 = some ch ∧ ch.substate = .armed ∧ AllTrue s ch.conditions = false
        ∧ ∀ c ∈ ch.conditions, has 0x0060#16 c.line = c.level
          ∧ ((s.cell c.line).debounced = c.level ∨ (s.profile c.line).debounce ≤ (s.cell c.line).stability) := by
  decide +kernel

/-- A lease of each kind, drive type and pull holds its line, in each live state, in its fault set and out of it. -/
def shown : List (Lease × Line) :=
  [(drive .active, 0), ({ drive (.handover 2 9) with params := .drive .openDrain 1#16 none }, 0),
    (pattern (.grace 9), 2), ({ pattern .active with params := .pattern { twoSteps with drive := .openDrain } 0 }, 2),
    (watch 0#16 .active, 3), ({ watch 0#16 .active with params := .watch .down 8#16 8#16 0#16 }, 3),
    ({ watch 0#16 .active with params := .watch .none 8#16 8#16 0#16 }, 3), (guard .active, 15),
    ({ drive (.grace 9) with faults := 0x0001#16 }, 0)]

/-- Lines held live and lines at rest, each with the assigned levels, rest modes and flags of the table; a WATCH line and
an unheld line one sample from their change, with a guard that observes one of them; and the count 4 on a held line and on
a line at rest. -/
theorem witness_DebouncedChangeAndDriveFault :
    (∀ x ∈ shown, ∀ v : Bool,
      let s := place 0 x.1 State.reset
      let s := s.setCell x.2 { s.cell x.2 with assigned := some v }
      s.rstnAsserted = false ∧ vget s.heldBy x.2 = some 0 ∧ s.lease 0 = some x.1 ∧ x.1.state.live = true
        ∧ (s.cell x.2).assigned = some v)
    ∧ (∀ rest ∈ [RestMode.hiZ, .pullUp, .pullDown, .driveLow, .driveHigh], ∀ check flag : Bool,
      let f := { Profile.reset with rest := rest, faultCheck := check, restFault := flag }
      (let s := State.reset.setProfile 4 f
       s.rstnAsserted = false ∧ vget s.heldBy 4 = none ∧ s.profile 4 = f)
      ∧ let s := (place 0 (drive (.retiring .expired)) State.reset).setProfile 0 f
        s.rstnAsserted = false ∧ vget s.heldBy 0 = some 0 ∧ s.lease 0 = some (drive (.retiring .expired))
          ∧ s.profile 0 = f)
    ∧
    (let s := place 0 (watch 0#16 .active) State.reset
     let s := (s.setCell 3 { Cell.reset with stability := 4 }).setCell 0 { Cell.reset with stability := 4 }
     let s := s.setGuardChan 0 (some (panelChan .spent))
     s.rstnAsserted = false ∧ (s.profile 3).debounce ≤ (s.cell 3).stability
        ∧ liveHolding s 3 = some (0, watch 0#16 .active) ∧ (watch 0#16 .active).params.isWatch = true
        ∧ (∀ x ∈ (panelChan .spent).conditions, x.line ≠ 3)
        ∧ (s.profile 0).debounce ≤ (s.cell 0).stability ∧ liveHolding s 0 = none
        ∧ vget s.guardChans 0 = some (panelChan .spent) ∧ ∃ x ∈ (panelChan .spent).conditions, x.line = 0)
    ∧ { State.reset with rstnAsserted := true }.rstnAsserted = true
    ∧ let s := (busy.setCell 0 { busy.cell 0 with mismatch := 4 }).setCell 4 { busy.cell 4 with mismatch := 4 }
      4 ≤ (s.cell 0).mismatch ∧ liveHolding s 0 = some (0, drive .active) ∧ 4 ≤ (s.cell 4).mismatch
        ∧ liveHolding s 4 = none := by decide +kernel

theorem witness_SettleCountdownEndAndStepEnd :
    (let s := { State.reset with settling := vset State.reset.settling 7 (some ⟨3, 0x0030#16, true⟩) }
     vget s.settling 7 = some ⟨3, 0x0030#16, true⟩ ∧ ∀ n, has 0x0030#16 n = true → (s.cell n).settle = 0)
    ∧ (vget busy.settling 8 = some ⟨1, 0x0200#16, false⟩ ∧ (busy.cell 9).settle ≠ 0)
    ∧ (∀ x ∈ [(0, some 1), (1, none), (1, some 2), (1, some 1)],
      let ch := patternChan x.1 (.running 0 x.2)
      let s := (place 0 (pattern .active) State.reset).setPatChan 0 (some ch)
      vget s.patChans 0 = some ch ∧ ch.phase = .running 0 x.2
        ∧ s.lease ch.handle.slot = some (pattern .active) ∧ s.handle ch.handle.slot = ch.handle
        ∧ has (pattern .active).lines 2 = true ∧ vget s.heldBy 2 = some ch.handle.slot) := by decide +kernel

theorem witness_GuardFireAndPulseEnd :
    ∀ sub ∈ [Substate.holding 0, Substate.firing 0],
      let s := (place 0 (guard .active) State.reset).setGuardChan 0 (some (panelChan sub))
      let u := State.reset.setGuardChan 0 (some { panelChan sub with action := none })
      vget s.guardChans 0 = some (panelChan sub) ∧ (panelChan sub).action = some ⟨15, false, 20⟩
        ∧ s.lease 0 = some (guard .active) ∧ s.handle 0 = ⟨0, 1⟩ ∧ has (guard .active).lines 15 = true
        ∧ vget s.heldBy 15 = some 0 ∧ vget u.guardChans 0 = some { panelChan sub with action := none } := by
  decide +kernel

/-! Channel instructions -/

theorem witness_PatternInstructions :
    (∀ i ∈ [PatternInstr.setup ⟨0, 1⟩ twoSteps, .free],
      vget (State.reset.tellPattern 5 i).patInbox 5 = [i])
    ∧ (∀ x ∈ [(PatternInstr.pause, PatternPhase.running 1 none), (.resume, .paused none), (.restart, .done),
        (.restart, .running 1 none), (.pause, .done), (.resume, .done)],
      let s := (place 0 (pattern .active) State.reset).setPatChan 0 (some (patternChan 1 x.2))
      vget (s.tellPattern 0 x.1).patInbox 0 = [x.1]
        ∧ vget (s.tellPattern 0 x.1).patChans 0 = some (patternChan 1 x.2)
        ∧ (s.tellPattern 0 x.1).lease 0 = some (pattern .active) ∧ (s.tellPattern 0 x.1).handle 0 = ⟨0, 1⟩
        ∧ has (pattern .active).lines 2 = true ∧ vget (s.tellPattern 0 x.1).heldBy 2 = some 0)
    ∧ ∀ l ∈ [pattern (.grace 9), { pattern (.grace 9) with params := .pattern { twoSteps with safe := some 0#16 } 0 },
        pattern .active],
      let s := ((place 0 l State.reset).setPatChan 0 (some (patternChan 0 (.running 1 none)))).tellPattern 0 .pause
      vget s.patInbox 0 = [.pause] ∧ vget s.patChans 0 = some (patternChan 0 (.running 1 none)) ∧ s.lease 0 = some l
        ∧ s.handle 0 = (patternChan 0 (.running 1 none)).handle ∧ has l.lines 2 = true ∧ has l.lines 3 = false
        ∧ vget s.heldBy 2 = some 0 := by
  decide +kernel

theorem witness_GuardInstructions :
    (∀ armed ∈ [true, false],
      vget (State.reset.tellGuard 3 (.setup ⟨0, 1⟩ panel armed (AllTrue State.reset panel.conditions))).guardInbox 3
        = [.setup ⟨0, 1⟩ panel armed (AllTrue State.reset panel.conditions)])
    ∧ (∀ x ∈ [(GuardInstr.arm, Substate.disarmed), (.arm, .holding 1), (.disarm, .firing 1), (.suspend, .firing 1),
        (.unsuspend true (AllTrue State.reset panel.conditions), .suspended), (.free, .firing 1)],
      let s := (place 0 (guard .active) State.reset).setGuardChan 0 (some (panelChan x.2))
      vget (s.tellGuard 0 x.1).guardInbox 0 = [x.1] ∧ vget (s.tellGuard 0 x.1).guardChans 0 = some (panelChan x.2)
        ∧ AllTrue s (panelChan x.2).conditions = AllTrue State.reset panel.conditions
        ∧ (s.tellGuard 0 x.1).lease 0 = some (guard .active) ∧ (s.tellGuard 0 x.1).handle 0 = ⟨0, 1⟩
        ∧ has (guard .active).lines 15 = true ∧ vget (s.tellGuard 0 x.1).heldBy 15 = some 0) := by
  decide +kernel

/-! The I2C ports -/

theorem witness_I2cTransactions :
    State.reset.rstnAsserted = false ∧ (run .deviceReset State.reset).rstnAsserted = true
    ∧ ((run (.i2cAddress 1 0x7C) State.reset).bus 1).state = .awaitOffset
    ∧ (busy.setBus 1 { busy.bus 1 with stall := 26 }).bus 1 = { busy.bus 1 with stall := 26 }
    ∧ (busy.bus 1).state ≠ .waiting := by decide +kernel

/-- A write transaction at each offset that DataBytes names, idle and busy. -/
theorem witness_DataBytes :
    ∀ off ∈ [0, 1, 2, 3, 4, 0x23, 0x24, 0x3F],
      let s := State.reset.setBus 1 { Bus.reset with state := .writing, pointer := off }
      let u := (ask 1 0x10 [] State.reset).setBus 1 { Bus.reset with state := .writing, pointer := off }
      (s.bus 1).state = .writing ∧ (s.window 1).phase = .idle ∧ (s.bus 1).pointer = off
        ∧ (u.bus 1).state = .writing ∧ (u.window 1).phase ≠ .idle ∧ (u.bus 1).pointer = off := by decide +kernel

theorem witness_DeviceResetAndRelease : (run .deviceReset State.reset).rstnAsserted = true := by decide +kernel

end Sys2Proof.Tests
end

/-! PROOFS. DECLINE and WITHDRAW (R74, R75): the checks of a handle, the end of an offer, and the two commands. -/

namespace Sys2Proof.Machine

/-! ## The handle checks that fail (R3) -/

theorem checkHandle_noSlot {s : State} {slot gen : Byte} (h : slotOf slot = none) :
    checkHandle s slot gen = .error .badArgument := by simp [checkHandle, h]

/-- A FREE slot, or a record of another generation, is not what the handle names. -/
theorem checkHandle_stale {s : State} {slot gen : Byte} {k : Slot} (hk : slotOf slot = some k)
    (h : s.lease k = none ∨ (s.handle k).gen ≠ gen) : checkHandle s slot gen = .error .badHandle := by
  cases hl : s.lease k with
  | none => simp [checkHandle, hk, hl]
  | some l =>
    have hg : (s.handle k).gen ≠ gen := h.resolve_left (by simp [hl])
    simp [checkHandle, hk, hl, hg]

theorem checkHolder_error {s : State} {p : Port} {slot gen : Byte} {e : Status}
    (h : checkHandle s slot gen = .error e) : checkHolder s p slot gen = .error e := by simp [checkHolder, h]

/-- For a holder command the handle of another port's record fails as a stale one does. -/
theorem checkHolder_stale {s : State} {p : Port} {slot gen : Byte} {k : Slot} (hk : slotOf slot = some k)
    (h : s.lease k = none ∨ (s.handle k).gen ≠ gen ∨ ∃ l, s.lease k = some l ∧ l.holder ≠ p) :
    checkHolder s p slot gen = .error .badHandle := by
  by_cases stale : s.lease k = none ∨ (s.handle k).gen ≠ gen
  · exact checkHolder_error (checkHandle_stale hk stale)
  · obtain ⟨hl, hg⟩ := not_or.mp stale
    obtain ⟨l, hl, hp⟩ := (h.resolve_left hl).resolve_left hg
    simp [checkHolder, checkHandle, hk, hl, not_not.mp hg, hp]

/-! ## The end of an offer (R5) -/

theorem endOffer_handover {s : State} {k : Slot} {l : Lease} {target : Port} {left : Nat} (hk : s.lease k = some l)
    (hs : l.state = .handover target left) : endOffer k s = s.setLease k { l with state := .active } := by
  simp [endOffer, hk, hs]

theorem withdrawOffer_handover {s : State} {k : Slot} {l : Lease} {target : Port} {left : Nat}
    (hk : s.lease k = some l) (hs : l.state = .handover target left) :
    withdrawOffer k s = postSlot target k SlotKind.offerWithdrawn .none (endOffer k s) := by
  simp [withdrawOffer, hk, hs]

theorem offeredToPort_iff (l : Lease) (p : Port) :
    offeredToPort l p = true ↔ ∃ left, l.state = .handover p left := by
  cases h : l.state <;> simp [offeredToPort, h]

/-- A command whose work is to end the offer of slot `k` and post `kind` to port `q`: the lease is ACTIVE again,
and nothing changes but that record, `q`'s entry for the slot, and the window. -/
theorem endsOffer {i : Instr} {p q target : Port} {body : State → State × Reply} {s : State} {k : Slot} {l : Lease}
    {left : Nat} {kind : KindSet} (he : exec i s = command i p body s) (h : takes s i p = true)
    (hk : s.lease k = some l) (hs : l.state = .handover target left)
    (hb : body (s.take p) = (postSlot q k kind .none (endOffer k (s.take p)), Reply.ok [])) :
    ∃ t, exec i s = .next t ∧ Answers s t p .ok [] ∧ t.lease k = some { l with state := .active }
      ∧ PostedTo s t q k kind ∧ MapKept s t q k ∧ (∀ r, r ≠ q → t.map r = s.map r)
      ∧ (∀ j, j ≠ k → t.lease j = s.lease j) ∧ (∀ j, t.handle j = s.handle j)
      ∧ OnlyWindow s { t with slots := s.slots, maps := s.maps } := by
  rw [endOffer_handover (s := s.take p) hk hs] at hb
  have hrun := command_taken (body := body) h
  rw [hb] at hrun
  refine ⟨_, he.trans hrun, answers_complete (Reply.ok []) rfl rfl, ?record,
    postedTo_postSlot ?_ ?_ (State.complete_map _ _ _ q), mapKept_postSlot ?_ (State.complete_map _ _ _ q),
    fun r hr => ?otherMaps, fun j hj => ?otherRecords, ?handles, rfl⟩
  case otherMaps => simp [hr]
  case otherRecords => simp [hj]
  all_goals simp

/-! ## DECLINE -/

theorem exec_decline (p : Port) (s : State) : exec (.decline p) s = command (.decline p) p (declineBody p) s := rfl

theorem declineBody_error {p : Port} {s : State} {e : Status}
    (h : checkHandle s (argByte (s.args p) 0x04) (argByte (s.args p) 0x05) = .error e) :
    declineBody p s = refuse s e := by simp [declineBody, h]

theorem declineBody_named {p : Port} {s : State} {k : Slot} {l : Lease}
    (h : checkHandle s (argByte (s.args p) 0x04) (argByte (s.args p) 0x05) = .ok (k, l)) :
    declineBody p s = if offeredToPort l p then
        (postSlot l.holder k SlotKind.offerDeclined .none (endOffer k s), Reply.ok [])
      else refuse s .notOffered := by simp [declineBody, h]

/-! ## WITHDRAW -/

theorem exec_withdraw (p : Port) (s : State) :
    exec (.withdraw p) s = command (.withdraw p) p (withdrawBody p) s := rfl

theorem withdrawBody_error {p : Port} {s : State} {e : Status}
    (h : checkHolder s p (argByte (s.args p) 0x04) (argByte (s.args p) 0x05) = .error e) :
    withdrawBody p s = refuse s e := by simp [withdrawBody, h]

section
variable {p : Port} {s : State} {k : Slot} {l : Lease}
  (h : checkHolder s p (argByte (s.args p) 0x04) (argByte (s.args p) 0x05) = .ok (k, l))
include h

theorem withdrawBody_notOffered (hs : l.state = .active ∨ ∃ g, l.state = .grace g) :
    withdrawBody p s = refuse s .notOffered := by
  obtain hs | ⟨g, hs⟩ := hs <;> simp [withdrawBody, h, hs]

theorem withdrawBody_wrongState (hs : ∃ r, l.state = .retiring r ∨ l.state = .closed r) :
    withdrawBody p s = refuse s .wrongState := by
  obtain ⟨r, hs | hs⟩ := hs <;> simp [withdrawBody, h, hs]

theorem withdrawBody_handover {target : Port} {left : Nat} (hs : l.state = .handover target left) :
    withdrawBody p s = (withdrawOffer k s, Reply.ok []) := by simp [withdrawBody, h, hs]

end

/-! ## The two statements -/

/-- Settles O31: `refuses` gives each refusal, `endsOffer` the DECLINE that passes. -/
theorem decline : Obligations.Decline := by
  unfold Obligations.Decline
  intro p s ht
  have he := exec_decline p s
  refine ⟨fun hn => ?noSlot, fun k hk hbad => ?stale, fun k l hname => ?named⟩
  case noSlot =>
    exact refuses he ht (declineBody_error (by simpa using checkHandle_noSlot hn))
  case stale =>
    exact refuses he ht (declineBody_error (by simpa using checkHandle_stale (s := s.take p) hk hbad))
  case named =>
    have hbody := declineBody_named (s := s.take p) (by simpa using checkHandle_names hname)
    refine ⟨fun hno => ?_, fun left hs => ?_⟩
    · have : ¬ offeredToPort l p = true := by simpa [offeredToPort_iff] using hno
      exact refuses he ht (by rw [hbody, if_neg this])
    · have : offeredToPort l p = true := (offeredToPort_iff l p).mpr ⟨left, hs⟩
      exact endsOffer he ht hname.lease hs (by rw [hbody, if_pos this])

/-- Settles O32: the holder's checks of R3, then a split on the state of the record; the HANDOVER case is
`endsOffer` with the target of the offer. -/
theorem withdraw : Obligations.Withdraw := by
  unfold Obligations.Withdraw
  intro p s ht
  have he := exec_withdraw p s
  refine ⟨fun hn => ?noSlot, fun k hk hbad => ?stale, fun k l hname hp => ?named⟩
  case noSlot =>
    exact refuses he ht (withdrawBody_error (by simpa using checkHolder_error (checkHandle_noSlot hn)))
  case stale =>
    exact refuses he ht (withdrawBody_error (by simpa using checkHolder_stale (s := s.take p) hk hbad))
  case named =>
    have hcheck : checkHolder (s.take p) p (argByte ((s.take p).args p) 0x04) (argByte ((s.take p).args p) 0x05)
        = .ok (k, l) := by simpa using checkHolder_names hname hp
    refine ⟨fun hs => ?_, fun hs => ?_, fun target left hs => ?_⟩
    · exact refuses he ht (withdrawBody_notOffered hcheck hs)
    · exact refuses he ht (withdrawBody_wrongState hcheck hs)
    · have hbody := withdrawBody_handover hcheck hs
      rw [withdrawOffer_handover (s := s.take p) hname.lease hs] at hbody
      exact endsOffer he ht hname.lease hs hbody

end Sys2Proof.Machine

/-! PROOFS. READ_CHARTER (R144): the three ways through its body, and what its result bytes show. -/

namespace Sys2Proof.Machine

/-! ## Port bytes and replies -/

theorem portOf_above {b : Byte} (h : 3 < b.toNat) : portOf b = none := dif_neg (by omega)

theorem portOf_eq_some {b : Byte} {q : Port} (h : b.toNat = q.val) : portOf b = some q := by
  simp [portOf, h]

@[simp] theorem waitBudget_take (s : State) (p q : Port) : waitBudget (s.take p) q = waitBudget s q := rfl

/-- A command whose body only answers: its reply stands in the window, and nothing but the window changes. -/
theorem repliesOnly {i : Instr} {p : Port} {body : State → State × Reply} {s : State} {r : Reply}
    (he : exec i s = command i p body s) (h : takes s i p = true) (hb : body (s.take p) = (s.take p, r)) :
    ∃ t, exec i s = .next t ∧ OnlyWindow s t ∧ Answers s t p r.status r.result := by
  have hrun := command_taken (body := body) h
  rw [hb] at hrun
  exact ⟨_, he.trans hrun, onlyWindow_complete r rfl, answers_complete r rfl rfl⟩

/-! ## READ_CHARTER -/

theorem exec_readCharter (p : Port) (s : State) :
    exec (.readCharter p) s = command (.readCharter p) p (readCharterBody p) s := rfl

/-- What the charter of port `q` reads as, with the counts of the port (R144, R179). -/
def charterReport (s : State) (q : Port) : List Byte :=
  charterBytes (s.charter q) ++ b1 (s.portRec q).occupied ++ b1 (waitBudget s q)
    ++ b2 (s.portRec q).quietRemaining

theorem charterReport_take (s : State) (p q : Port) : charterReport (s.take p) q = charterReport s q := by
  simp [charterReport]

theorem readCharterBody_noPort {p : Port} {s : State} (h : portOf (argByte (s.args p) 0x04) = none) :
    readCharterBody p s = refuse s .badArgument := by simp [readCharterBody, h]

section
variable {p q : Port} {s : State} (h : portOf (argByte (s.args p) 0x04) = some q)
include h

theorem readCharterBody_other (hp : p ≠ 0) (hq : q ≠ p) : readCharterBody p s = refuse s .notAdmin := by
  simp [readCharterBody, h, hp, hq]

theorem readCharterBody_allowed (ha : p = 0 ∨ q = p) :
    readCharterBody p s = (s, Reply.ok (charterReport s q)) := by
  have : ¬ (p ≠ 0 ∧ q ≠ p) := by tauto
  simp only [readCharterBody, h, if_neg this, charterReport]

end

theorem FaultPolicy.code_byte (f : FaultPolicy) :
    BitVec.ofNat 8 f.code = if f = .retire then 1#8 else 0#8 := by
  cases f <;> rfl

theorem charterBytes_eq (c : Charter) :
    charterBytes c = b2 c.lines.toNat ++ [BitVec.ofNat 8 c.leaseLimit] ++ b2 c.maxTerm
      ++ [BitVec.ofNat 8 c.grace, BitVec.ofNat 8 c.warn, BitVec.ofNat 8 c.mayPin.toNat,
        BitVec.ofNat 8 c.mayGuard.toNat, if c.policy = .retire then 1#8 else 0#8] := by
  simp [charterBytes, bSet, bFlag, b1, FaultPolicy.code_byte]

/-! ## The statement -/

/-- Settles O38: a byte that is no port, the port of another for a port other than P0, and the port that may be
read. -/
theorem readCharter : Obligations.ReadCharter := by
  unfold Obligations.ReadCharter
  intro p s target ht
  have he := exec_readCharter p s
  refine ⟨fun habove => ?noPort, fun hport hp hother => ?other, fun q hq hallowed => ?allowed⟩
  case noPort =>
    exact refuses he ht (readCharterBody_noPort (by simpa using portOf_above habove))
  case other =>
    have hnamed : portOf (argByte ((s.take p).args p) 0x04) = some ⟨target, by omega⟩ := by
      simpa using portOf_eq_some rfl
    exact refuses he ht (readCharterBody_other hnamed hp fun h => hother (congrArg Fin.val h))
  case allowed =>
    have hnamed : portOf (argByte ((s.take p).args p) 0x04) = some q := by simpa using portOf_eq_some hq
    obtain ⟨t, hrun, honly, hanswer⟩ := repliesOnly he ht (readCharterBody_allowed hnamed hallowed)
    refine ⟨t, hrun, honly, ?_⟩
    rw [charterReport_take] at hanswer
    simpa [Reply.ok, charterReport, charterBytes_eq, b1, PortRec.quietRemaining] using hanswer

end Sys2Proof.Machine

/-! PROOFS. What the work of a step can do to the tables: the records, the held-by entries, the counts, the channels,
the wait queue and the ticket notices. -/

namespace Sys2Proof.Machine

/-! ## Work that leaves the tables alone -/

/-- Two records that the tables cannot tell apart: the same holder, lines and channel, and both closed or live or
neither. -/
structure Alike (l m : Lease) : Prop where
  holder : m.holder = l.holder
  lines : m.lines = l.lines
  closed : m.state.isClosed = l.state.isClosed
  live : m.state.live = l.state.live
  pat : m.params.patChan = l.params.patChan
  guard : m.params.guardChan = l.params.guardChan

theorem Alike.refl (l : Lease) : Alike l l := ⟨rfl, rfl, rfl, rfl, rfl, rfl⟩

theorem Alike.trans {l m n : Lease} (a : Alike l m) (b : Alike m n) : Alike l n :=
  ⟨b.holder.trans a.holder, b.lines.trans a.lines, b.closed.trans a.closed, b.live.trans a.live, b.pat.trans a.pat,
    b.guard.trans a.guard⟩

/-- Two slots hold records that the tables cannot tell apart, or both are FREE. -/
def AlikeSlot : Option Lease → Option Lease → Prop
  | some l, some m => Alike l m
  | none, none => True
  | some _, none | none, some _ => False

theorem AlikeSlot.refl (a : Option Lease) : AlikeSlot a a := by
  cases a with
  | none => trivial
  | some l => exact Alike.refl l

theorem AlikeSlot.of_eq {a b : Option Lease} (h : b = a) : AlikeSlot a b := h ▸ AlikeSlot.refl a

theorem AlikeSlot.trans {a b c : Option Lease} (h : AlikeSlot a b) (g : AlikeSlot b c) : AlikeSlot a c := by
  cases a <;> cases b <;> cases c <;> simp only [AlikeSlot] at *
  exact Alike.trans h g

/-- An entry of the queue with another wait remaining. -/
def SameEntry (e x : QueueEntry) : Prop := { x with waitRemaining := e.waitRemaining } = e

theorem SameEntry.refl (e : QueueEntry) : SameEntry e e := rfl

theorem SameEntry.trans {e x y : QueueEntry} (h : SameEntry e x) (g : SameEntry x y) : SameEntry e y := by
  unfold SameEntry at *
  rw [← h, ← g]

theorem sameEntry_iff (e x : QueueEntry) :
    SameEntry e x ↔ x.ticket = e.ticket ∧ x.port = e.port ∧ x.args = e.args ∧ x.request = e.request
      ∧ x.arrival = e.arrival := by
  cases e
  cases x
  simp [SameEntry]

theorem sameEntries_refl (q : List QueueEntry) : List.Forall₂ SameEntry q q :=
  List.forall₂_same.mpr fun e _ => SameEntry.refl e

theorem sameEntries_trans {p q r : List QueueEntry} (h : List.Forall₂ SameEntry p q)
    (g : List.Forall₂ SameEntry q r) : List.Forall₂ SameEntry p r := by
  induction h generalizing r with
  | nil => exact g
  | cons h _ ih =>
    cases g with
    | cons g gs => exact .cons (h.trans g) (ih gs)

/-- A step's work has left the tables as they were, up to what they cannot tell apart and the wait countdowns. -/
structure Still (s t : State) : Prop where
  handle : ∀ k, t.handle k = s.handle k
  lease : ∀ k, AlikeSlot (s.lease k) (t.lease k)
  heldBy : t.heldBy = s.heldBy
  patTaken : t.patTaken = s.patTaken
  guardTaken : t.guardTaken = s.guardTaken
  occupied : ∀ p, (t.portRec p).occupied = (s.portRec p).occupied
  queue : List.Forall₂ SameEntry s.queue t.queue
  arrivals : t.arrivals = s.arrivals
  tickets : ∀ p, (t.map p).tickets = (s.map p).tickets

theorem Still.refl (s : State) : Still s s :=
  ⟨fun _ => rfl, fun _ => AlikeSlot.refl _, rfl, rfl, rfl, fun _ => rfl, sameEntries_refl _, rfl, fun _ => rfl⟩

theorem Still.trans {s t u : State} (a : Still s t) (b : Still t u) : Still s u where
  handle k := (b.handle k).trans (a.handle k)
  lease k := (a.lease k).trans (b.lease k)
  heldBy := b.heldBy.trans a.heldBy
  patTaken := b.patTaken.trans a.patTaken
  guardTaken := b.guardTaken.trans a.guardTaken
  occupied p := (b.occupied p).trans (a.occupied p)
  queue := sameEntries_trans a.queue b.queue
  arrivals := b.arrivals.trans a.arrivals
  tickets p := (b.tickets p).trans (a.tickets p)

/-- The tables themselves are equal. -/
structure Same (s t : State) : Prop where
  slots : t.slots = s.slots
  heldBy : t.heldBy = s.heldBy
  patTaken : t.patTaken = s.patTaken
  guardTaken : t.guardTaken = s.guardTaken
  portRecs : t.portRecs = s.portRecs
  queue : t.queue = s.queue
  arrivals : t.arrivals = s.arrivals
  maps : t.maps = s.maps

theorem Same.lease {s t : State} (h : Same s t) (k : Slot) : t.lease k = s.lease k := by simp [State.lease, h.slots]
theorem Same.handle {s t : State} (h : Same s t) (k : Slot) : t.handle k = s.handle k := by simp [State.handle, h.slots]
theorem Same.portRec {s t : State} (h : Same s t) (p : Port) : t.portRec p = s.portRec p := by
  simp [State.portRec, h.portRecs]
theorem Same.map {s t : State} (h : Same s t) (p : Port) : t.map p = s.map p := by simp [State.map, h.maps]

theorem Same.still {s t : State} (h : Same s t) : Still s t :=
  ⟨h.handle, fun k => .of_eq (h.lease k), h.heldBy, h.patTaken, h.guardTaken, fun p => by rw [h.portRec],
    h.queue ▸ sameEntries_refl _, h.arrivals, fun p => by rw [h.map]⟩

theorem Same.symm {s t : State} (h : Same s t) : Same t s :=
  ⟨h.slots.symm, h.heldBy.symm, h.patTaken.symm, h.guardTaken.symm, h.portRecs.symm, h.queue.symm, h.arrivals.symm,
    h.maps.symm⟩

theorem same_take (s : State) (p : Port) : Same s (s.take p) := ⟨rfl, rfl, rfl, rfl, rfl, rfl, rfl, rfl⟩

theorem same_complete (s : State) (p : Port) (r : Reply) : Same s (s.complete p r) :=
  ⟨rfl, rfl, rfl, rfl, rfl, rfl, rfl, rfl⟩

theorem same_restartChecks (b s : State) : Same s (restartChecks b s) := by constructor <;> simp

theorem same_mapCells (s : State) (ls : LineSet) (f : Line → Cell → Cell) : Same s (s.mapCells ls f) := by
  constructor <;> simp

/-! ## The stored values (R60, R127, R130, R133, R138, R168) -/

/-- The work of a step has changed no charter, profile or interface, and counts of cells only to 0 or to the settle
time of the line. -/
structure Tame (s t : State) : Prop where
  charters : t.charters = s.charters
  profiles : t.profiles = s.profiles
  buses : t.buses = s.buses
  cells : ∀ n, (t.cell n).stability = (s.cell n).stability
    ∧ ((t.cell n).mismatch = (s.cell n).mismatch ∨ (t.cell n).mismatch = 0)
    ∧ ((t.cell n).settle = (s.cell n).settle ∨ (t.cell n).settle = (s.profile n).settle)

theorem Tame.of_eq {s t : State} (h₁ : t.charters = s.charters) (h₂ : t.profiles = s.profiles)
    (h₃ : t.buses = s.buses) (h₄ : t.cells = s.cells) : Tame s t :=
  ⟨h₁, h₂, h₃, fun n => by simp [State.cell, h₄]⟩

theorem Tame.refl (s : State) : Tame s s := .of_eq rfl rfl rfl rfl

theorem Tame.trans {s t u : State} (a : Tame s t) (b : Tame t u) : Tame s u where
  charters := b.charters.trans a.charters
  profiles := b.profiles.trans a.profiles
  buses := b.buses.trans a.buses
  cells n := by
    obtain ⟨a₁, a₂, a₃⟩ := a.cells n
    obtain ⟨b₁, b₂, b₃⟩ := b.cells n
    have hp : t.profile n = s.profile n := by simp [State.profile, a.profiles]
    rw [hp] at b₃
    refine ⟨b₁.trans a₁, ?_, ?_⟩
    · rcases b₂ with b₂ | b₂ <;> rw [b₂] <;> tauto
    · rcases b₃ with b₃ | b₃ <;> rw [b₃] <;> tauto

theorem Tame.ranges {s t : State} (h : Tame s t) (hs : RangesRight s) : RangesRight t where
  charters p := by simpa [State.charter, h.charters] using hs.charters p
  profiles n := by simpa [State.profile, h.profiles] using hs.profiles n
  stalls p := by simpa [State.bus, h.buses] using hs.stalls p
  cells n := by
    obtain ⟨h₁, h₂, h₃⟩ := h.cells n
    obtain ⟨c₁, c₂, c₃⟩ := hs.cells n
    have hp := (hs.profiles n).2
    refine ⟨h₁ ▸ c₁, ?_, ?_⟩
    · rcases h₂ with h₂ | h₂ <;> omega
    · rcases h₃ with h₃ | h₃ <;> omega

theorem tame_restartChecks (b s : State) : Tame s (restartChecks b s) := by
  refine ⟨by simp, by simp, by simp, fun n => ?_⟩
  rcases restartChecks_cell b s n with h | h <;> rw [h] <;> simp

theorem tame_mapCells (s : State) (ls : LineSet) (f : Line → Cell → Cell)
    (h : ∀ n c, (f n c).stability = c.stability ∧ ((f n c).mismatch = c.mismatch ∨ (f n c).mismatch = 0)
      ∧ ((f n c).settle = c.settle ∨ (f n c).settle = (s.profile n).settle)) : Tame s (s.mapCells ls f) := by
  refine ⟨by simp, by simp, by simp, fun n => ?_⟩
  rw [State.mapCells_cell]
  split
  · exact h n _
  · simp

/-- Work that leaves the tables alone and the stored values in their ranges. -/
structure Calm (s t : State) : Prop where
  still : Still s t
  tame : Tame s t

theorem Calm.refl (s : State) : Calm s s := ⟨.refl s, .refl s⟩

theorem Calm.trans {s t u : State} (a : Calm s t) (b : Calm t u) : Calm s u :=
  ⟨a.still.trans b.still, a.tame.trans b.tame⟩

theorem Same.calm {s t : State} (h : Same s t) (g : Tame s t) : Calm s t := ⟨h.still, g⟩

/-- A record rewritten in what the tables cannot see. -/
theorem calm_setLease {s : State} {k : Slot} {l m : Lease} (hk : s.lease k = some l) (h : Alike l m) :
    Calm s (s.setLease k m) where
  still :=
    { handle := fun j => by simp
      lease := fun j => by
        rw [State.setLease_lease]
        split
        · rename_i e
          rw [e, hk]
          exact h
        · exact .refl _
      heldBy := rfl
      patTaken := rfl
      guardTaken := rfl
      occupied := fun p => rfl
      queue := sameEntries_refl _
      arrivals := rfl
      tickets := fun p => rfl }
  tame := .of_eq rfl rfl rfl rfl

theorem calm_tellPattern (s : State) (c : PatChan) (i : PatternInstr) : Calm s (s.tellPattern c i) :=
  Same.calm ⟨rfl, rfl, rfl, rfl, rfl, rfl, rfl, rfl⟩ (.of_eq rfl rfl rfl rfl)

theorem calm_tellGuard (s : State) (c : GuardChan) (i : GuardInstr) : Calm s (s.tellGuard c i) :=
  Same.calm ⟨rfl, rfl, rfl, rfl, rfl, rfl, rfl, rfl⟩ (.of_eq rfl rfl rfl rfl)

theorem calm_restartChecks (b s : State) : Calm s (restartChecks b s) :=
  (same_restartChecks b s).calm (tame_restartChecks b s)

/-- Posts and drops on a subject that is no ticket. -/
theorem calm_setMap {s : State} {p : Port} {m : NoticeMap} (h : m.tickets = (s.map p).tickets) :
    Calm s (s.setMap p m) where
  still :=
    { handle := fun j => rfl
      lease := fun j => .refl _
      heldBy := rfl
      patTaken := rfl
      guardTaken := rfl
      occupied := fun p => rfl
      queue := sameEntries_refl _
      arrivals := rfl
      tickets := fun q => by
        rw [State.setMap_map]
        split
        · rename_i e
          rw [h, e]
        · rfl }
  tame := .of_eq rfl rfl rfl rfl

theorem calm_postPort (p : Port) (kd : KindSet) (s : State) : Calm s (postPort p kd s) := calm_setMap rfl
theorem calm_postLine (n : Line) (s : State) : Calm s (postLine n s) := calm_setMap rfl
theorem calm_postSlot (p : Port) (k : Slot) (kd : KindSet) (d : Detail) (s : State) : Calm s (postSlot p k kd d s) :=
  calm_setMap rfl

theorem removeSlot_tickets (m : NoticeMap) (k : Slot) (gen : Byte) (kd : KindSet) :
    (m.removeSlot k gen kd).tickets = m.tickets := by
  unfold NoticeMap.removeSlot
  repeat' split
  all_goals rfl

theorem calm_dropSlotKinds (p : Port) (k : Slot) (kd : KindSet) (s : State) : Calm s (dropSlotKinds p k kd s) :=
  calm_setMap (removeSlot_tickets ..)

theorem calm_setPortRec {s : State} {p : Port} {r : PortRec} (h : r.occupied = (s.portRec p).occupied) :
    Calm s (s.setPortRec p r) where
  still :=
    { handle := fun j => rfl
      lease := fun j => .refl _
      heldBy := rfl
      patTaken := rfl
      guardTaken := rfl
      occupied := fun q => by
        rw [State.setPortRec_portRec]
        split
        · rename_i e
          rw [h, e]
        · rfl
      queue := sameEntries_refl _
      arrivals := rfl
      tickets := fun q => rfl }
  tame := .of_eq rfl rfl rfl rfl

theorem calm_mapCells (s : State) (ls : LineSet) (f : Line → Cell → Cell)
    (h : ∀ n c, (f n c).stability = c.stability ∧ ((f n c).mismatch = c.mismatch ∨ (f n c).mismatch = 0)
      ∧ ((f n c).settle = c.settle ∨ (f n c).settle = (s.profile n).settle)) : Calm s (s.mapCells ls f) :=
  (same_mapCells s ls f).calm (tame_mapCells s ls f h)

theorem calm_writeLevels (ls : LineSet) (lv : Line → Option Level) (s : State) : Calm s (writeLevels ls lv s) :=
  calm_mapCells _ _ _ fun _ _ => by simp

/-! ## Offers and GRACE -/

theorem live_handover {l : Lease} {q : Port} {x : Nat} (h : l.state = .handover q x) :
    Alike l { l with state := .active } := by
  constructor <;> simp [h, LeaseState.isClosed, LeaseState.live]

theorem calm_endOffer (k : Slot) (s : State) : Calm s (endOffer k s) := by
  unfold endOffer
  split
  · rename_i hk
    split
    · rename_i hs
      exact calm_setLease hk (live_handover hs)
    all_goals exact .refl s
  · exact .refl s

theorem calm_withdrawOffer (k : Slot) (s : State) : Calm s (withdrawOffer k s) := by
  unfold withdrawOffer
  split
  · split
    · exact (calm_endOffer k s).trans (calm_postSlot ..)
    all_goals exact .refl s
  · exact .refl s

theorem calm_cancelOffer (t : Port) (k : Slot) (s : State) : Calm s (cancelOffer t k s) := by
  unfold cancelOffer
  split
  · split
    · split
      · exact (calm_endOffer k s).trans (calm_postSlot ..)
      · exact .refl s
    all_goals exact .refl s
  · exact .refl s

theorem forSlots_calm {f : Slot → State → State} (h : ∀ k s, Calm s (f k s)) (s : State) : Calm s (forSlots f s) :=
  forSlots_inv (Calm s) f (fun k _ hu => hu.trans (h k _)) s (.refl s)

theorem forPorts_calm {f : Port → State → State} (h : ∀ k s, Calm s (f k s)) (s : State) : Calm s (forPorts f s) :=
  forPorts_inv (Calm s) f (fun k _ hu => hu.trans (h k _)) s (.refl s)

theorem calm_cancelOffersTo (t : Port) (s : State) : Calm s (cancelOffersTo t s) :=
  forSlots_calm (fun k s => calm_cancelOffer t k s) s

theorem calm_tellGrace (params : KindParams) (s : State) : Calm s (tellGrace params s) := by
  cases params
  case pattern => exact calm_tellPattern ..
  case guard => exact calm_tellGuard ..
  all_goals exact .refl s

theorem calm_tellActive (params : KindParams) (s : State) : Calm s (tellActive params s) := by
  cases params
  case pattern => exact calm_tellPattern ..
  case guard => exact calm_tellGuard ..
  all_goals exact .refl s

theorem calm_enterGrace {k : Slot} {l m : Lease} {s : State} (hk : s.lease k = some m) (h : Alike m l)
    (hl : l.state.live = true) : Calm s (enterGrace k l s) := by
  have hc : l.state.isClosed = false := by cases e : l.state <;> simp_all [LeaseState.live, LeaseState.isClosed]
  have ha : Alike m { l with state := .grace l.grace } :=
    ⟨h.holder, h.lines, by rw [← h.closed, hc]; rfl, by rw [← h.live, hl]; rfl, h.pat, h.guard⟩
  exact ((calm_setLease hk ha).trans (calm_writeLevels ..)).trans (calm_tellGrace ..)

theorem calm_leaveGrace {k : Slot} {l m : Lease} {s : State} (hk : s.lease k = some m) (h : Alike m l)
    (hl : l.state.live = true) : Calm s (leaveGrace k l s) := by
  have hc : l.state.isClosed = false := by cases e : l.state <;> simp_all [LeaseState.live, LeaseState.isClosed]
  have ha : Alike m { l with state := .active } :=
    ⟨h.holder, h.lines, by rw [← h.closed, hc]; rfl, by rw [← h.live, hl]; rfl, h.pat, h.guard⟩
  exact ((calm_setLease hk ha).trans (calm_writeLevels ..)).trans (calm_tellActive ..)

end Sys2Proof.Machine

/-! PROOFS. The four agreements between the tables (R11, R12, R13, R32, R33): what keeps each of them. -/

namespace Sys2Proof.Machine

/-! ## Work that leaves the tables alone keeps the agreements -/

theorem AlikeSlot.cases {a b : Option Lease} (h : AlikeSlot a b) :
    (a = none ∧ b = none) ∨ ∃ l m, a = some l ∧ b = some m ∧ Alike l m := by
  cases a <;> cases b <;> simp_all [AlikeSlot]

theorem AlikeSlot.isSome {a b : Option Lease} (h : AlikeSlot a b) : b.isSome = a.isSome := by
  rcases h.cases with ⟨rfl, rfl⟩ | ⟨l, m, rfl, rfl, -⟩ <;> rfl

theorem AlikeSlot.holder {a b : Option Lease} (h : AlikeSlot a b) (p : Port) :
    b.any (fun l => l.holder == p) = a.any fun l => l.holder == p := by
  rcases h.cases with ⟨rfl, rfl⟩ | ⟨l, m, rfl, rfl, hlm⟩
  · rfl
  · have : m.holder = l.holder := Alike.holder hlm
    simp [this]

section
variable {s t : State} {k : Slot} (h : AlikeSlot (s.lease k) (t.lease k))
include h

theorem AlikeSlot.holdsLine (n : Line) : holdsLine t k n = holdsLine s k n := by
  unfold Machine.holdsLine
  rcases h.cases with ⟨h₁, h₂⟩ | ⟨l, m, h₁, h₂, hlm⟩
  · rw [h₁, h₂]
  · simp only [h₁, h₂, Alike.closed hlm, Alike.lines hlm]

theorem AlikeSlot.patOf : patOf t k = patOf s k := by
  unfold Machine.patOf
  rcases h.cases with ⟨h₁, h₂⟩ | ⟨l, m, h₁, h₂, hlm⟩
  · rw [h₁, h₂]
  · simp only [h₁, h₂, Option.bind_some, Alike.live hlm, Alike.pat hlm]

theorem AlikeSlot.guardOf : guardOf t k = guardOf s k := by
  unfold Machine.guardOf
  rcases h.cases with ⟨h₁, h₂⟩ | ⟨l, m, h₁, h₂, hlm⟩
  · rw [h₁, h₂]
  · simp only [h₁, h₂, Option.bind_some, Alike.live hlm, Alike.guard hlm]

end

theorem recordsOf_congr {s t : State} {p : Port} (h : ∀ k, AlikeSlot (s.lease k) (t.lease k)) :
    recordsOf t p = recordsOf s p := by
  unfold recordsOf
  exact List.countP_congr fun k _ => by rw [(h k).holder]

theorem sameEntries_keys {q r : List QueueEntry} (h : List.Forall₂ SameEntry q r) :
    r.map (fun e => (e.port, e.ticket)) = q.map fun e => (e.port, e.ticket) := by
  induction h with
  | nil => rfl
  | cons h _ ih =>
    obtain ⟨ht, hp, -⟩ := (sameEntry_iff ..).mp h
    simp [ih, ht, hp]

/-- The entries of a port as far as its tickets go. -/
theorem waitingOf_length (s : State) (p : Port) :
    (waitingOf s p).length = (s.queue.map fun e => (e.port, e.ticket)).countP fun x => x.1 = p := by
  rw [List.countP_map, waitingOf, ← List.countP_eq_length_filter]
  rfl

theorem QueueRight.of_keys {s t : State} (h : QueueRight s)
    (hq : List.Sublist (t.queue.map fun e => (e.port, e.ticket)) (s.queue.map fun e => (e.port, e.ticket)))
    (hm : ∀ p, waitBudget t p ≤ waitBudget s p) : QueueRight t :=
  ⟨by simpa using hq.length_le.trans (by simpa using h.1), h.2.1.sublist hq, fun p => (hm p).trans (h.2.2 p)⟩

theorem Still.safe {s t : State} (a : Still s t) (h : Safe s) : Safe t where
  held n k := by rw [a.heldBy, (a.lease k).holdsLine]; exact h.held n k
  counts p := by rw [a.occupied, recordsOf_congr a.lease]; exact h.counts p
  channels := by
    have hp : patOf t = patOf s := funext fun k => (a.lease k).patOf
    have hg : guardOf t = guardOf s := funext fun k => (a.lease k).guardOf
    unfold ChannelsRight
    rw [a.patTaken, a.guardTaken, hp, hg]
    exact h.channels
  waits := h.waits.of_keys (by rw [sameEntries_keys a.queue]) fun p => by
    simp only [waitBudget, waitingOf_length, sameEntries_keys a.queue, a.tickets, le_refl]

/-! ## Channels (R12) -/

/-- A channel is taken exactly while a slot has it, and two slots never share one. -/
def OwnedRight {n : Nat} (taken : Vector Bool n) (own : Slot → Option (Fin n)) : Prop :=
  (∀ c, vget taken c = true ↔ ∃ k, own k = some c) ∧ ∀ c k j, own k = some c → own j = some c → k = j

theorem channelsRight_iff (s : State) :
    ChannelsRight s ↔ OwnedRight s.patTaken (patOf s) ∧ OwnedRight s.guardTaken (guardOf s) := by
  unfold ChannelsRight OwnedRight
  tauto

section
variable {n : Nat} {taken taken' : Vector Bool n} {own own' : Slot → Option (Fin n)} {k : Slot}

/-- A slot that lets go of its channel, if it has one. -/
theorem OwnedRight.release (h : OwnedRight taken own) (hk : own' k = none) (ho : ∀ j, j ≠ k → own' j = own j)
    (ht : ∀ c, vget taken' c = if own k = some c then false else vget taken c) : OwnedRight taken' own' := by
  refine ⟨fun c => ?_, fun c i j hi hj => ?_⟩
  · rw [ht]
    split
    · rename_i hc
      simp only [Bool.false_eq_true, false_iff, not_exists]
      intro j hj
      by_cases e : j = k
      · simp [e, hk] at hj
      · exact e (h.2 c j k (ho j e ▸ hj) hc)
    · rename_i hc
      rw [h.1]
      refine ⟨fun ⟨j, hj⟩ => ⟨j, ?_⟩, fun ⟨j, hj⟩ => ⟨j, ?_⟩⟩
      · by_cases e : j = k
        · exact absurd (e ▸ hj) hc
        · rwa [ho j e]
      · by_cases e : j = k
        · simp [e, hk] at hj
        · rwa [← ho j e]
  · have not_k : ∀ j, own' j = some c → j ≠ k := by
      rintro j hj rfl
      simp [hk] at hj
    exact h.2 c i j (ho i (not_k i hi) ▸ hi) (ho j (not_k j hj) ▸ hj)

/-- A slot without a channel that takes a free one, or none. -/
theorem OwnedRight.acquire (h : OwnedRight taken own) (hk : own k = none) (ho : ∀ j, j ≠ k → own' j = own j)
    (hf : ∀ c, own' k = some c → vget taken c = false)
    (ht : ∀ c, vget taken' c = if own' k = some c then true else vget taken c) : OwnedRight taken' own' := by
  have free : ∀ c, own' k = some c → ∀ j, own j ≠ some c := fun c hc j hj => by
    simpa [hf c hc] using (h.1 c).mpr ⟨j, hj⟩
  refine ⟨fun c => ?_, fun c i j hi hj => ?_⟩
  · rw [ht]
    split
    · rename_i hc
      simp only [true_iff]
      exact ⟨k, hc⟩
    · rename_i hc
      rw [h.1]
      refine ⟨fun ⟨j, hj⟩ => ⟨j, ?_⟩, fun ⟨j, hj⟩ => ⟨j, ?_⟩⟩
      · by_cases e : j = k
        · simp [e, hk] at hj
        · rwa [ho j e]
      · by_cases e : j = k
        · exact absurd (e ▸ hj) hc
        · rwa [← ho j e]
  · by_cases ei : i = k <;> by_cases ej : j = k
    · rw [ei, ej]
    · exact absurd (ho j ej ▸ hj) (free c (ei ▸ hi) j)
    · exact absurd (ho i ei ▸ hi) (free c (ej ▸ hj) i)
    · exact h.2 c i j (ho i ei ▸ hi) (ho j ej ▸ hj)

end

/-! ## Occupied counts (R13) -/

/-- Two counts over a table that differ at one place. -/
theorem countP_change {n : Nat} (f g : Fin n → Bool) (k : Fin n) (h : ∀ j, j ≠ k → g j = f j) :
    (List.finRange n).countP g + (f k).toNat = (List.finRange n).countP f + (g k).toNat := by
  have hp : (List.finRange n).Perm (k :: (List.finRange n).erase k) := List.perm_cons_erase (List.mem_finRange k)
  have he : ((List.finRange n).erase k).countP g = ((List.finRange n).erase k).countP f :=
    List.countP_congr fun j hj => by
      have hj : j ≠ k := ((List.nodup_finRange n).mem_erase_iff.mp hj).1
      rw [h j hj]
  rw [hp.countP_eq g, hp.countP_eq f, List.countP_cons, List.countP_cons, he]
  cases f k <;> cases g k <;> simp

/-- What a slot adds to the count of a port. -/
def countOf (a : Option Lease) (p : Port) : Nat := (a.any fun l => l.holder == p).toNat

@[simp] theorem countOf_none (p : Port) : countOf none p = 0 := rfl
@[simp] theorem countOf_some (l : Lease) (p : Port) : countOf (some l) p = if l.holder = p then 1 else 0 := by
  by_cases h : l.holder = p <;> simp [countOf, h]

theorem recordsOf_change {s t : State} {k : Slot} (h : ∀ j, j ≠ k → AlikeSlot (s.lease j) (t.lease j)) (p : Port) :
    recordsOf t p + countOf (s.lease k) p = recordsOf s p + countOf (t.lease k) p :=
  countP_change _ _ k fun j hj => (h j hj).holder p

/-! ## One record changes -/

/-- Everything but the record of slot `k` is as the tables see it. -/
structure OneSlot (s t : State) (k : Slot) : Prop where
  others : ∀ j, j ≠ k → AlikeSlot (s.lease j) (t.lease j)
  queue : List.Forall₂ SameEntry s.queue t.queue
  tickets : ∀ p, (t.map p).tickets = (s.map p).tickets

section
variable {s t : State} {k : Slot} (o : OneSlot s t k)
include o

theorem OneSlot.waits (h : QueueRight s) : QueueRight t :=
  h.of_keys (by rw [sameEntries_keys o.queue]) fun p => by
    simp only [waitBudget, waitingOf_length, sameEntries_keys o.queue, o.tickets, le_refl]

theorem OneSlot.counts (h : CountsRight s)
    (hc : ∀ p, (t.portRec p).occupied = (s.portRec p).occupied - countOf (s.lease k) p + countOf (t.lease k) p) :
    CountsRight t := by
  intro p
  have := recordsOf_change o.others p
  rw [hc, h p]
  have hle : countOf (s.lease k) p ≤ recordsOf s p := by
    unfold countOf
    cases e : (s.lease k).any fun l => l.holder == p
    · simp
    · exact List.countP_pos_iff.mpr ⟨k, List.mem_finRange k, e⟩
  omega

/-- A record that stops holding its lines and its channel. -/
theorem OneSlot.channels_release (h : ChannelsRight s) (hp : patOf t k = none) (hg : guardOf t k = none)
    (tp : ∀ c, vget t.patTaken c = if patOf s k = some c then false else vget s.patTaken c)
    (tg : ∀ g, vget t.guardTaken g = if guardOf s k = some g then false else vget s.guardTaken g) :
    ChannelsRight t := by
  rw [channelsRight_iff] at h ⊢
  exact ⟨h.1.release hp (fun j hj => (o.others j hj).patOf) tp, h.2.release hg (fun j hj => (o.others j hj).guardOf) tg⟩

theorem OneSlot.channels_acquire (h : ChannelsRight s) (hp : patOf s k = none) (hg : guardOf s k = none)
    (fp : ∀ c, patOf t k = some c → vget s.patTaken c = false)
    (fg : ∀ g, guardOf t k = some g → vget s.guardTaken g = false)
    (tp : ∀ c, vget t.patTaken c = if patOf t k = some c then true else vget s.patTaken c)
    (tg : ∀ g, vget t.guardTaken g = if guardOf t k = some g then true else vget s.guardTaken g) :
    ChannelsRight t := by
  rw [channelsRight_iff] at h ⊢
  exact ⟨h.1.acquire hp (fun j hj => (o.others j hj).patOf) fp tp,
    h.2.acquire hg (fun j hj => (o.others j hj).guardOf) fg tg⟩

/-- A record that holds what it held. -/
theorem OneSlot.held_same (h : HeldRight s) (hb : t.heldBy = s.heldBy) (hk : ∀ n, holdsLine t k n = holdsLine s k n) :
    HeldRight t := by
  intro n j
  rw [hb, h n j]
  by_cases e : j = k
  · rw [e, hk]
  · rw [(o.others j e).holdsLine]

/-- A record that stops holding lines: its lines are unheld. -/
theorem OneSlot.held_release (h : HeldRight s) (hk : ∀ n, holdsLine t k n = false)
    (hb : ∀ n, vget t.heldBy n = if vget s.heldBy n = some k then none else vget s.heldBy n) : HeldRight t := by
  intro n j
  rw [hb]
  by_cases e : j = k
  · subst e
    rw [hk]
    by_cases hc : vget s.heldBy n = some j <;> simp [hc]
  · rw [(o.others j e).holdsLine, ← h n j]
    by_cases hc : vget s.heldBy n = some k
    · simp [hc, Ne.symm e]
    · simp [hc]

/-- A record that begins to hold unheld lines. -/
theorem OneSlot.held_claim {ls : LineSet} (h : HeldRight s) (hs : ∀ n, holdsLine s k n = false)
    (hk : ∀ n, holdsLine t k n = has ls n) (hu : ∀ n, has ls n = true → vget s.heldBy n = none)
    (hb : ∀ n, vget t.heldBy n = if has ls n then some k else vget s.heldBy n) : HeldRight t := by
  intro n j
  rw [hb]
  by_cases e : j = k
  · subst e
    rw [hk]
    by_cases hc : has ls n = true
    · simp [hc]
    · have := (h n j).not.mpr (by simp [hs])
      simp [hc, this]
  · rw [(o.others j e).holdsLine, ← h n j]
    by_cases hc : has ls n = true
    · simp [hc, hu n hc, Ne.symm e]
    · simp [hc]

end

/-! ## Records by their state -/

theorem holdsLine_some {s : State} {k : Slot} {l : Lease} (hk : s.lease k = some l) (n : Line) :
    holdsLine s k n = (!l.state.isClosed && has l.lines n) := by simp [holdsLine, hk]

theorem holdsLine_none {s : State} {k : Slot} (hk : s.lease k = none) (n : Line) : holdsLine s k n = false := by
  simp [holdsLine, hk]

theorem patOf_some {s : State} {k : Slot} {l : Lease} (hk : s.lease k = some l) :
    patOf s k = if l.state.live then l.params.patChan else none := by simp [patOf, hk]

theorem guardOf_some {s : State} {k : Slot} {l : Lease} (hk : s.lease k = some l) :
    guardOf s k = if l.state.live then l.params.guardChan else none := by simp [guardOf, hk]

theorem patOf_none {s : State} {k : Slot} (hk : s.lease k = none) : patOf s k = none := by simp [patOf, hk]

theorem guardOf_none {s : State} {k : Slot} (hk : s.lease k = none) : guardOf s k = none := by simp [guardOf, hk]

/-- A live lease has not closed. -/
theorem not_closed_of_live {st : LeaseState} (h : st.live = true) : st.isClosed = false := by
  cases st <;> simp_all [LeaseState.live, LeaseState.isClosed]

end Sys2Proof.Machine

/-! PROOFS. The work of a step: what it does to the wait queue and the ticket notices (R31, R33, R156), and that it
keeps the agreements of the tables and the ranges of the stored values. -/

namespace Sys2Proof.Machine

/-! ## Entries of the queue -/

/-- The entries `r` are some of the entries `q`, in their order, wait countdowns apart. -/
def Shrinks (q r : List QueueEntry) : Prop := ∃ m, m.Sublist q ∧ List.Forall₂ SameEntry m r

theorem Shrinks.of_sublist {q r : List QueueEntry} (h : r.Sublist q) : Shrinks q r := ⟨r, h, sameEntries_refl r⟩

theorem Shrinks.of_same {q r : List QueueEntry} (h : List.Forall₂ SameEntry q r) : Shrinks q r :=
  ⟨q, List.Sublist.refl q, h⟩

/-- Some of the later entries are those of some of the earlier ones. -/
theorem forall₂_sublist {α β : Type} {R : α → β → Prop} {q : List α} {r r' : List β} (h : List.Forall₂ R q r)
    (hs : r'.Sublist r) : ∃ q', q'.Sublist q ∧ List.Forall₂ R q' r' := by
  induction h generalizing r' with
  | nil => exact ⟨[], List.Sublist.refl _, by rw [List.sublist_nil.mp hs]; exact .nil⟩
  | @cons a b q r hab _ ih =>
    cases hs with
    | cons _ hs =>
      obtain ⟨q', h₁, h₂⟩ := ih hs
      exact ⟨q', h₁.cons a, h₂⟩
    | cons_cons _ hs =>
      obtain ⟨q', h₁, h₂⟩ := ih hs
      exact ⟨a :: q', h₁.cons_cons a, .cons hab h₂⟩

theorem Shrinks.trans {q r u : List QueueEntry} (h : Shrinks q r) (g : Shrinks r u) : Shrinks q u := by
  obtain ⟨m, hm, hr⟩ := h
  obtain ⟨n, hn, hu⟩ := g
  obtain ⟨m', hm', h'⟩ := forall₂_sublist hr hn
  exact ⟨m', hm'.trans hm, sameEntries_trans h' hu⟩

theorem Shrinks.keys {q r : List QueueEntry} (h : Shrinks q r) :
    List.Sublist (r.map fun e => (e.port, e.ticket)) (q.map fun e => (e.port, e.ticket)) := by
  obtain ⟨m, hm, hr⟩ := h
  rw [sameEntries_keys hr]
  exact hm.map _

theorem sameEntries_arrivals {q r : List QueueEntry} (h : List.Forall₂ SameEntry q r) :
    r.map (·.arrival) = q.map (·.arrival) := by
  induction h with
  | nil => rfl
  | cons h _ ih =>
    obtain ⟨-, -, -, -, ha⟩ := (sameEntry_iff ..).mp h
    simp [ih, ha]

theorem Shrinks.arrivals {q r : List QueueEntry} (h : Shrinks q r) :
    List.Sublist (r.map (·.arrival)) (q.map (·.arrival)) := by
  obtain ⟨m, hm, hr⟩ := h
  rw [sameEntries_arrivals hr]
  exact hm.map _

theorem forall₂_mem_right {α β : Type} {R : α → β → Prop} {q : List α} {r : List β} (h : List.Forall₂ R q r) {y : β}
    (hy : y ∈ r) : ∃ x ∈ q, R x y := by
  induction h with
  | nil => cases hy
  | cons hab _ ih =>
    rcases List.mem_cons.mp hy with rfl | hy
    · exact ⟨_, List.mem_cons_self .., hab⟩
    · obtain ⟨x, hx, h⟩ := ih hy
      exact ⟨x, List.mem_cons_of_mem _ hx, h⟩

theorem forall₂_mem_left {α β : Type} {R : α → β → Prop} {q : List α} {r : List β} (h : List.Forall₂ R q r) {x : α}
    (hx : x ∈ q) : ∃ y ∈ r, R x y := by
  induction h with
  | nil => cases hx
  | cons hab _ ih =>
    rcases List.mem_cons.mp hx with rfl | hx
    · exact ⟨_, List.mem_cons_self .., hab⟩
    · obtain ⟨y, hy, h⟩ := ih hx
      exact ⟨y, List.mem_cons_of_mem _ hy, h⟩

theorem Shrinks.mem {q r : List QueueEntry} (h : Shrinks q r) {x : QueueEntry} (hx : x ∈ r) :
    ∃ e ∈ q, SameEntry e x := by
  obtain ⟨m, hm, hr⟩ := h
  obtain ⟨e, he, h⟩ := forall₂_mem_right hr hx
  exact ⟨e, hm.subset he, h⟩

/-- Entries whose keys differ pairwise are told apart by port and ticket. -/
theorem entry_of_key {q : List QueueEntry} (h : (q.map fun e => (e.port, e.ticket)).Nodup) {e x : QueueEntry}
    (he : e ∈ q) (hx : x ∈ q) (hp : x.port = e.port) (ht : x.ticket = e.ticket) : x = e :=
  List.inj_on_of_nodup_map h hx he (by simp [hp, ht])

/-- Entries in the order of issue are told apart by their stamps. -/
theorem entry_of_arrival {q : List QueueEntry} (h : (q.map (·.arrival)).Pairwise (· < ·)) {e x : QueueEntry}
    (he : e ∈ q) (hx : x ∈ q) (ha : x.arrival = e.arrival) : x = e :=
  List.inj_on_of_nodup_map (h.imp fun hlt => Nat.ne_of_lt hlt) hx he ha

/-! ## Ticket notices -/

/-- A step that posts no ticket notice and lets entries leave keeps the order of issue. -/
theorem TicketsRight.shrink {s t : State} (h : TicketsRight s) (hq : Shrinks s.queue t.queue)
    (ha : t.arrivals = s.arrivals) (hm : ∀ p, (t.map p).tickets = (s.map p).tickets) : TicketsRight t where
  queue := h.queue.sublist hq.arrivals
  queueBefore x hx := by
    obtain ⟨e, he, hs⟩ := hq.mem hx
    obtain ⟨-, -, -, -, harr⟩ := (sameEntry_iff ..).mp hs
    rw [harr, ha]
    exact h.queueBefore e he
  notices p := by rw [hm]; exact h.notices p
  noticesBefore p x hx := by rw [ha]; exact h.noticesBefore p x (hm p ▸ hx)
  distinct p := by rw [hm]; exact h.distinct p
  apart p x hx y hy hp := by
    obtain ⟨e, he, hs⟩ := hq.mem hy
    obtain ⟨ht, hport, -, -, harr⟩ := (sameEntry_iff ..).mp hs
    rw [ht, harr]
    exact h.apart p x (hm p ▸ hx) e he (hport ▸ hp)

/-- An entry leaves the queue and a notice of its ticket is posted. -/
structure Expired (s t : State) (e : QueueEntry) (kd : KindSet) : Prop where
  there : e ∈ s.queue
  queue : List.Sublist t.queue s.queue
  gone : ∀ x ∈ t.queue, x.port = e.port → x.ticket ≠ e.ticket
  arrivals : t.arrivals = s.arrivals
  map : ∀ p, (t.map p).tickets = if p = e.port then
      insertTicket { ticket := e.ticket, kinds := kd, arrival := e.arrival } (s.map p).tickets
    else (s.map p).tickets

/-- The posted notice is a new one, for the entry was waiting. -/
theorem Expired.fresh {s t : State} {e : QueueEntry} {kd : KindSet} (x : Expired s t e kd) (h : TicketsRight s) :
    ∀ y ∈ (s.map e.port).tickets, y.ticket ≠ e.ticket ∧ y.arrival ≠ e.arrival := fun y hy => by
  obtain ⟨h₁, h₂⟩ := h.apart e.port y hy e x.there rfl
  exact ⟨h₁.symm, h₂.symm⟩

theorem Expired.notice {s t : State} {e : QueueEntry} {kd : KindSet} (x : Expired s t e kd) (h : TicketsRight s)
    (p : Port) (y : TicketNotice) : y ∈ (t.map p).tickets ↔
      (p = e.port ∧ y = { ticket := e.ticket, kinds := kd, arrival := e.arrival }) ∨ y ∈ (s.map p).tickets := by
  rw [x.map]
  split
  · rename_i hp
    subst hp
    rw [insertTicket_arrivals _ _ fun z hz => (x.fresh h z hz).1]
    simp
  · rename_i hp
    simp [hp]

theorem Expired.ticketsRight {s t : State} {e : QueueEntry} {kd : KindSet} (x : Expired s t e kd)
    (h : TicketsRight s) : TicketsRight t where
  queue := h.queue.sublist (x.queue.map _)
  queueBefore y hy := by rw [x.arrivals]; exact h.queueBefore y (x.queue.subset hy)
  notices p := by
    rw [x.map]
    split
    · rename_i hp
      subst hp
      exact insertTicket_sorted _ _ (h.notices _) (x.fresh h)
    · exact h.notices p
  noticesBefore p y hy := by
    rw [x.arrivals]
    rcases (x.notice h p y).mp hy with ⟨-, rfl⟩ | hy
    · exact h.queueBefore e x.there
    · exact h.noticesBefore p y hy
  distinct p := by
    rw [x.map]
    split
    · rename_i hp
      subst hp
      have fresh := x.fresh h
      have hd := h.distinct e.port
      generalize (s.map e.port).tickets = L at fresh hd
      induction L with
      | nil => simp [insertTicket]
      | cons a L ih =>
        have ha := (fresh a (by simp)).1
        simp only [List.map_cons, List.nodup_cons] at hd
        have hL : ∀ y ∈ L, y.ticket ≠ e.ticket ∧ y.arrival ≠ e.arrival := fun y hy => fresh y (by simp [hy])
        simp only [insertTicket, if_neg ha]
        split
        · simp only [List.map_cons, List.nodup_cons, List.mem_cons, not_or]
          refine ⟨⟨Ne.symm ha, fun hm => ?_⟩, hd⟩
          obtain ⟨y, hy, hyt⟩ := List.mem_map.mp hm
          exact (hL y hy).1 hyt
        · simp only [List.map_cons, List.nodup_cons]
          refine ⟨fun hm => ?_, ih hL hd.2⟩
          obtain ⟨y, hy, hyt⟩ := List.mem_map.mp hm
          rcases (insertTicket_arrivals _ _ (fun z hz => (hL z hz).1) y).mp hy with rfl | hy
          · exact ha hyt.symm
          · exact hd.1 (List.mem_map.mpr ⟨y, hy, hyt⟩)
    · exact h.distinct p
  apart p y hy z hz hp := by
    rcases (x.notice h p y).mp hy with ⟨rfl, rfl⟩ | hy
    · have ht := x.gone z hz hp
      exact ⟨ht, fun ha => ht (by rw [entry_of_arrival h.queue x.there (x.queue.subset hz) ha])⟩
    · exact h.apart p y hy z (x.queue.subset hz) hp

theorem Expired.queueRight {s t : State} {e : QueueEntry} {kd : KindSet} (x : Expired s t e kd) (h : QueueRight s) :
    QueueRight t := by
  refine h.of_keys (x.queue.map _) fun p => ?_
  unfold waitBudget
  have sub : List.Sublist (waitingOf t p) (waitingOf s p) := x.queue.filter _
  rw [x.map]
  split
  · rename_i hp
    subst hp
    have hlen := insertTicket_length { ticket := e.ticket, kinds := kd, arrival := e.arrival } (s.map e.port).tickets
    have less : (waitingOf t e.port).length < (waitingOf s e.port).length := by
      refine lt_of_le_of_ne sub.length_le fun heq => ?_
      have hmem : e ∈ waitingOf t e.port := by
        rw [sub.eq_of_length heq]
        simp [waitingOf, x.there]
      simp only [waitingOf, List.mem_filter, decide_true, and_true] at hmem
      exact x.gone e hmem rfl rfl
    omega
  · exact Nat.add_le_add_right sub.length_le _

/-! ## Where entries and notices go -/

/-- What becomes of the waiting entries and the ticket notices in the work of a step, before its queue scan. Entries
whose port and ticket are `lost` may go without a trace. -/
structure Flow (lost : Port → Byte → Prop) (s t : State) : Prop where
  notice : ∀ p, ∀ x ∈ (t.map p).tickets,
    (∃ y ∈ (s.map p).tickets, y.ticket = x.ticket ∧ y.arrival = x.arrival)
      ∨ ∃ e ∈ s.queue, e.port = p ∧ e.ticket = x.ticket ∧ e.arrival = x.arrival
  kept : ∀ p, ∀ x ∈ (s.map p).tickets,
    (∃ y ∈ (t.map p).tickets, y.ticket = x.ticket ∧ y.arrival = x.arrival) ∨ ∀ n, lost p n
  entry : ∀ e ∈ s.queue, (∃ x ∈ t.queue, SameEntry e x)
    ∨ (∃ x ∈ (t.map e.port).tickets, x.ticket = e.ticket ∧ x.arrival = e.arrival) ∨ lost e.port e.ticket

theorem Flow.of_same {lost : Port → Byte → Prop} {s t : State} (hq : List.Forall₂ SameEntry s.queue t.queue)
    (hm : ∀ p, (t.map p).tickets = (s.map p).tickets) : Flow lost s t where
  notice p x hx := .inl ⟨x, hm p ▸ hx, rfl, rfl⟩
  kept p x hx := .inl ⟨x, hm p ▸ hx, rfl, rfl⟩
  entry e he := .inl (forall₂_mem_left hq he)

theorem Flow.trans {lost : Port → Byte → Prop} {s t u : State} (hq : Shrinks s.queue t.queue) (a : Flow lost s t)
    (b : Flow lost t u) : Flow lost s u where
  notice p x hx := by
    rcases b.notice p x hx with ⟨y, hy, h₁, h₂⟩ | ⟨e, he, h₀, h₁, h₂⟩
    · rcases a.notice p y hy with ⟨z, hz, g₁, g₂⟩ | ⟨e, he, g₀, g₁, g₂⟩
      · exact .inl ⟨z, hz, g₁.trans h₁, g₂.trans h₂⟩
      · exact .inr ⟨e, he, g₀, g₁.trans h₁, g₂.trans h₂⟩
    · obtain ⟨f, hf, hs⟩ := hq.mem he
      obtain ⟨ht, hp, -, -, ha⟩ := (sameEntry_iff ..).mp hs
      exact .inr ⟨f, hf, hp.symm.trans h₀, ht.symm.trans h₁, ha.symm.trans h₂⟩
  kept p x hx := by
    rcases a.kept p x hx with ⟨y, hy, h₁, h₂⟩ | hl
    · rcases b.kept p y hy with ⟨z, hz, g₁, g₂⟩ | hl
      · exact .inl ⟨z, hz, g₁.trans h₁, g₂.trans h₂⟩
      · exact .inr hl
    · exact .inr hl
  entry e he := by
    rcases a.entry e he with ⟨x, hx, hs⟩ | ⟨x, hx, h₁, h₂⟩ | hl
    · obtain ⟨ht, hp, -, -, ha⟩ := (sameEntry_iff ..).mp hs
      rcases b.entry x hx with ⟨y, hy, g⟩ | ⟨y, hy, g₁, g₂⟩ | hl
      · exact .inl ⟨y, hy, hs.trans g⟩
      · exact .inr (.inl ⟨y, hp ▸ hy, g₁.trans ht, g₂.trans ha⟩)
      · exact .inr (.inr (hp ▸ ht ▸ hl))
    · rcases b.kept e.port x hx with ⟨y, hy, g₁, g₂⟩ | hl
      · exact .inr (.inl ⟨y, hy, g₁.trans h₁, g₂.trans h₂⟩)
      · exact .inr (.inr (hl _))
    · exact .inr (.inr hl)

theorem Expired.flow {lost : Port → Byte → Prop} {s t : State} {e : QueueEntry} {kd : KindSet}
    (x : Expired s t e kd) (h : TicketsRight s) (hall : ∀ y ∈ s.queue, y ∈ t.queue ∨ y = e) : Flow lost s t where
  notice p y hy := by
    rcases (x.notice h p y).mp hy with ⟨rfl, rfl⟩ | hy
    · exact .inr ⟨e, x.there, rfl, rfl, rfl⟩
    · exact .inl ⟨y, hy, rfl, rfl⟩
  kept p y hy := .inl ⟨y, (x.notice h p y).mpr (.inr hy), rfl, rfl⟩
  entry y hy := by
    rcases hall y hy with hy | rfl
    · exact .inl ⟨y, hy, .refl y⟩
    · exact .inr (.inl ⟨_, (x.notice h y.port _).mpr (.inl ⟨rfl, rfl⟩), rfl, rfl⟩)

/-! ## Work -/

/-- What the work of a step keeps before its queue scan. -/
structure Work (lost : Port → Byte → Prop) (s t : State) : Prop where
  handle : ∀ k, t.handle k = s.handle k
  arrivals : t.arrivals = s.arrivals
  shrinks : Shrinks s.queue t.queue
  ranges : RangesRight s → RangesRight t
  safe : Safe s → Safe t
  tickets : Safe s → TicketsRight s → TicketsRight t
  flow : Safe s → TicketsRight s → Flow lost s t

theorem Work.trans {lost : Port → Byte → Prop} {s t u : State} (a : Work lost s t) (b : Work lost t u) :
    Work lost s u where
  handle k := (b.handle k).trans (a.handle k)
  arrivals := b.arrivals.trans a.arrivals
  shrinks := a.shrinks.trans b.shrinks
  ranges h := b.ranges (a.ranges h)
  safe h := b.safe (a.safe h)
  tickets h g := b.tickets (a.safe h) (a.tickets h g)
  flow h g := (a.flow h g).trans a.shrinks (b.flow (a.safe h) (a.tickets h g))

theorem Still.ticketsRight {s t : State} (a : Still s t) (h : TicketsRight s) : TicketsRight t :=
  h.shrink (.of_same a.queue) a.arrivals a.tickets

theorem Still.work {lost : Port → Byte → Prop} {s t : State} (a : Still s t) (r : RangesRight s → RangesRight t) :
    Work lost s t where
  handle := a.handle
  arrivals := a.arrivals
  shrinks := .of_same a.queue
  ranges := r
  safe := a.safe
  tickets _ := a.ticketsRight
  flow _ _ := .of_same a.queue a.tickets

theorem Calm.work {lost : Port → Byte → Prop} {s t : State} (a : Calm s t) : Work lost s t := a.still.work a.tame.ranges

theorem Work.refl {lost : Port → Byte → Prop} (s : State) : Work lost s s := (Calm.refl s).work

theorem forSlots_work {lost : Port → Byte → Prop} {f : Slot → State → State} (h : ∀ k s, Work lost s (f k s))
    (s : State) : Work lost s (forSlots f s) :=
  forSlots_inv (Work lost s) f (fun k _ hu => hu.trans (h k _)) s (.refl s)

theorem forPorts_work {lost : Port → Byte → Prop} {f : Port → State → State} (h : ∀ p s, Work lost s (f p s))
    (s : State) : Work lost s (forPorts f s) :=
  forPorts_inv (Work lost s) f (fun p _ hu => hu.trans (h p _)) s (.refl s)

/-- Work on one record is told by what it does to the agreements of that record. -/
theorem OneSlot.work {lost : Port → Byte → Prop} {s t : State} {k : Slot} (o : OneSlot s t k)
    (hh : ∀ k, t.handle k = s.handle k) (ha : t.arrivals = s.arrivals) (ht : Tame s t) (hheld : Safe s → HeldRight t)
    (hcounts : Safe s → CountsRight t) (hch : Safe s → ChannelsRight t) : Work lost s t where
  handle := hh
  arrivals := ha
  shrinks := .of_same o.queue
  ranges := ht.ranges
  safe h := ⟨hheld h, hcounts h, hch h, o.waits h.waits⟩
  tickets _ h := h.shrink (.of_same o.queue) ha o.tickets
  flow _ _ := .of_same o.queue o.tickets

end Sys2Proof.Machine

/-! PROOFS. The work of each of the engine's operations. -/

namespace Sys2Proof.Machine

/-! ## Retirement (R59) -/

theorem freeChannel_patTaken (params : KindParams) (s : State) (c : PatChan) :
    vget (freeChannel params s).patTaken c = if params.patChan = some c then false else vget s.patTaken c := by
  cases params <;> simp [freeChannel, KindParams.patChan, vget_vset, eq_comm]

theorem freeChannel_guardTaken (params : KindParams) (s : State) (g : GuardChan) :
    vget (freeChannel params s).guardTaken g = if params.guardChan = some g then false else vget s.guardTaken g := by
  cases params <;> simp [freeChannel, KindParams.guardChan, vget_vset, eq_comm]

theorem freeChannel_tame (params : KindParams) (s : State) : Tame s (freeChannel params s) :=
  .of_eq (by simp) (by simp) (by simp) (by simp)

theorem tame_restLines (k : Slot) (ls : LineSet) (s : State) : Tame s (restLines k ls s) :=
  ⟨by simp, by simp, by simp, fun n => by rw [restLines_cell]; split <;> simp⟩

/-- The record that a retirement leaves. -/
def Lease.retired (l : Lease) (r : CloseReason) : Lease := { l with state := .retiring r, faults := 0#16 }

/-- The retirement of a live lease, part by part. -/
theorem retire_live {s : State} {k : Slot} {l : Lease} (hk : s.lease k = some l) (hl : l.state.live = true)
    (r : CloseReason) : retire k r s = freeChannel l.params (restLines k l.lines
      ((withdrawOffer k s).setLease k (l.retired r))) := by
  simp [retire, hk, hl, Lease.retired]

theorem retire_still {s : State} {k : Slot} {l : Lease} (hk : s.lease k = some l) (hl : l.state.live = false)
    (r : CloseReason) : retire k r s = s := by simp [retire, hk, hl]

theorem retire_free {s : State} {k : Slot} (hk : s.lease k = none) (r : CloseReason) : retire k r s = s := by
  simp [retire, hk]

theorem retire_lease {s : State} {k : Slot} {l : Lease} (hk : s.lease k = some l) (hl : l.state.live = true)
    (r : CloseReason) : (retire k r s).lease k = some (l.retired r) := by simp [retire_live hk hl]

theorem retire_tickets (k : Slot) (r : CloseReason) (s : State) (p : Port) :
    ((retire k r s).map p).tickets = (s.map p).tickets := by
  unfold retire
  split
  · split
    · simpa using (calm_withdrawOffer k s).still.tickets p
    · rfl
  · rfl

theorem tame_setLease (s : State) (k : Slot) (l : Lease) : Tame s (s.setLease k l) := .of_eq rfl rfl rfl rfl

theorem retire_tame (k : Slot) (r : CloseReason) (s : State) : Tame s (retire k r s) := by
  cases hk : s.lease k with
  | none => rw [retire_free hk]; exact .refl s
  | some l =>
    cases hl : l.state.live with
    | false => rw [retire_still hk hl]; exact .refl s
    | true =>
      rw [retire_live hk hl]
      exact (((calm_withdrawOffer k s).tame.trans (tame_setLease ..)).trans (tame_restLines ..)).trans
        (freeChannel_tame ..)

theorem retire_oneSlot (k : Slot) (r : CloseReason) (s : State) : OneSlot s (retire k r s) k where
  others j hj := .of_eq (retire_lease_ne r s hj)
  queue := by rw [(retire_frame k r s).2.2.2.1]; exact sameEntries_refl _
  tickets := retire_tickets k r s

/-- Entry to RETIRING: the record holds its lines, and lets go of its channel. -/
theorem retire_work {lost : Port → Byte → Prop} (k : Slot) (r : CloseReason) (s : State) :
    Work lost s (retire k r s) := by
  cases hk : s.lease k with
  | none => rw [retire_free hk]; exact .refl s
  | some l =>
    by_cases hl : l.state.live = true
    swap
    · rw [retire_still hk (by simpa using hl)]; exact .refl s
    have ht := retire_lease hk hl r
    have o := retire_oneSlot k r s
    refine o.work (fun j => by simp) (by simp) (retire_tame k r s) (fun h => o.held_same h.held (by simp) fun n => ?_)
      (fun h => o.counts h.counts fun p => ?_) (fun h => o.channels_release h.channels ?_ ?_ (fun c => ?_) fun g => ?_)
    · rw [holdsLine_some ht, holdsLine_some hk, not_closed_of_live hl]
      rfl
    · have hc : countOf (s.lease k) p ≤ (s.portRec p).occupied := by
        rw [h.counts p]
        unfold countOf
        cases e : (s.lease k).any fun l => l.holder == p
        · simp
        · exact List.countP_pos_iff.mpr ⟨k, List.mem_finRange k, e⟩
      rw [hk] at hc
      simp only [ht, hk, countOf_some, Lease.retired] at hc ⊢
      simp only [State.portRec, retire_frame] at hc ⊢
      omega
    · rw [patOf_some ht]; rfl
    · rw [guardOf_some ht]; rfl
    · rw [patOf_some hk, if_pos hl, retire_live hk hl, freeChannel_patTaken]
      simp
    · rw [guardOf_some hk, if_pos hl, retire_live hk hl, freeChannel_guardTaken]
      simp

/-! ## Records that end (R1, R13, R62) -/

theorem freeRecord_some {s : State} {k : Slot} {l : Lease} (hk : s.lease k = some l) :
    freeRecord k s
      = lowerCount l.holder { s with slots := vset s.slots k { vget s.slots k with lease := none } } := by
  simp [freeRecord, hk]

theorem freeRecord_none {s : State} {k : Slot} (hk : s.lease k = none) : freeRecord k s = s := by
  simp [freeRecord, hk]

theorem freeRecord_slots {s : State} {k : Slot} {l : Lease} (hk : s.lease k = some l) :
    (freeRecord k s).slots = vset s.slots k { vget s.slots k with lease := none } := by
  rw [freeRecord_some hk]
  simp

theorem freeRecord_lease {s : State} {k : Slot} {l : Lease} (hk : s.lease k = some l) (j : Slot) :
    (freeRecord k s).lease j = if j = k then none else s.lease j := by
  rw [State.lease, freeRecord_slots hk, vget_vset]
  split <;> rfl

@[simp] theorem freeRecord_handle (k j : Slot) (s : State) : (freeRecord k s).handle j = s.handle j := by
  cases hk : s.lease k with
  | none => rw [freeRecord_none hk]
  | some l =>
    rw [State.handle, freeRecord_slots hk, vget_vset]
    split
    · rename_i e
      rw [e]
      rfl
    · rfl

theorem freeRecord_portRec {s : State} {k : Slot} {l : Lease} (hk : s.lease k = some l) (q : Port) :
    (freeRecord k s).portRec q
      = if q = l.holder then { s.portRec q with occupied := (s.portRec q).occupied - 1 } else s.portRec q := by
  rw [freeRecord_some hk, lowerCount, State.setPortRec_portRec]
  split
  · rename_i h
    rw [h]
    rfl
  · rfl

theorem freeRecord_tame (k : Slot) (s : State) : Tame s (freeRecord k s) :=
  .of_eq (by simp) (by simp) (by simp) (by simp)

/-- A record that neither holds lines nor has a channel becomes FREE, its lines unheld in the same work. -/
theorem freed_work {lost : Port → Byte → Prop} {s u : State} {k : Slot} {l : Lease} (hk : s.lease k = some l)
    (hl : l.state.live = false) (hu : u.lease k = some l) (same : { u with heldBy := s.heldBy } = s)
    (hb : Safe s → ∀ n, vget u.heldBy n = if vget s.heldBy n = some k then none else vget s.heldBy n) :
    Work lost s (freeRecord k u) := by
  have hlease : ∀ j, u.lease j = s.lease j := fun j => by rw [← same]; rfl
  have hhandle : ∀ j, u.handle j = s.handle j := fun j => by rw [← same]; rfl
  have hport : ∀ p, u.portRec p = s.portRec p := fun j => by rw [← same]; rfl
  have ht : (freeRecord k u).lease k = none := by rw [freeRecord_lease hu, if_pos rfl]
  have o : OneSlot s (freeRecord k u) k :=
    { others := fun j hj => .of_eq (by rw [freeRecord_lease hu, if_neg hj, hlease])
      queue := by
        have : (freeRecord k u).queue = s.queue := by
          rw [(freeRecord_frame k u).2.2.2.2.1, ← same]
        rw [this]
        exact sameEntries_refl _
      tickets := fun p => by
        have : (freeRecord k u).map p = u.map p := by simp [State.map]
        rw [this, ← same]
        rfl }
  have tame : Tame s (freeRecord k u) := by
    have : Tame s u := by rw [← same]; exact .of_eq rfl rfl rfl rfl
    exact this.trans (freeRecord_tame k u)
  refine o.work (fun j => by simp [hhandle]) (by rw [← same]; simp) tame
    (fun h => o.held_release h.held (fun n => holdsLine_none ht n) fun n => ?_) (fun h => o.counts h.counts fun p => ?_)
    (fun h => o.channels_release h.channels (patOf_none ht) (guardOf_none ht) (fun c => ?_) fun g => ?_)
  · simpa using hb h n
  · rw [freeRecord_portRec hu, ht, hk, hport]
    simp only [countOf_none, countOf_some, eq_comm (a := p)]
    split <;> simp
  · rw [patOf_some hk, hl, ← same]
    simp
  · rw [guardOf_some hk, hl, ← same]
    simp

/-- The record of a CLOSED lease goes (R15, R58). -/
theorem freeRecord_work {lost : Port → Byte → Prop} {s : State} {k : Slot} {l : Lease} (hk : s.lease k = some l)
    (hl : l.state.isClosed = true) : Work lost s (freeRecord k s) := by
  have live : l.state.live = false := by cases e : l.state <;> simp_all [LeaseState.isClosed, LeaseState.live]
  refine freed_work hk live hk rfl fun h n => ?_
  have := (h.held n k).not.mpr (by simp [holdsLine_some hk, hl])
  rw [if_neg this]

theorem unholdLines_heldBy (k : Slot) (s : State) (n : Line) :
    vget (unholdLines k s).heldBy n = if vget s.heldBy n = some k then none else vget s.heldBy n := by
  simp [unholdLines]

/-- The record that a settle-complete closes (R62). -/
def Lease.closed (l : Lease) (r : CloseReason) : Lease :=
  { l with state := .closed r, term := l.term.map fun t => { t with remaining := none } }

theorem closeRecord_eq (k : Slot) (l : Lease) (r : CloseReason) (s : State) :
    closeRecord k l r s = if r = .portReset then freeRecord k (unholdLines k s)
      else postSlot l.holder k SlotKind.retired (.reason r) ((unholdLines k s).setLease k (l.closed r)) := rfl

/-- The end of a RETIRING lease (R62). -/
theorem closeRecord_work {lost : Port → Byte → Prop} {s : State} {k : Slot} {l : Lease} {st : CloseReason}
    (hk : s.lease k = some l) (hs : l.state = .retiring st) (r : CloseReason) :
    Work lost s (closeRecord k l r s) := by
  have live : l.state.live = false := by rw [hs]; rfl
  rw [closeRecord_eq]
  split
  · have same : { unholdLines k s with heldBy := s.heldBy } = s := by simp [unholdLines]
    exact freed_work hk live (by simpa using hk) same fun _ => unholdLines_heldBy k s
  · refine Work.trans ?_ (calm_postSlot ..).work
    have hlease : ∀ j, ((unholdLines k s).setLease k (l.closed r)).lease j
        = if j = k then some (l.closed r) else s.lease j := fun j => by
      rw [State.setLease_lease, unholdLines_lease]
    have ht := (hlease k).trans (if_pos rfl)
    have o : OneSlot s ((unholdLines k s).setLease k (l.closed r)) k :=
      { others := fun j hj => .of_eq (by rw [hlease, if_neg hj])
        queue := by simpa using sameEntries_refl _
        tickets := fun p => by simp }
    refine o.work (fun j => by simp) (by simp) (.of_eq (by simp) (by simp) (by simp) (by simp))
      (fun h => o.held_release h.held (fun n => ?_) fun n => by simpa using unholdLines_heldBy k s n)
      (fun h => o.counts h.counts fun p => ?_)
      (fun h => o.channels_release h.channels ?_ ?_ (fun c => ?_) fun g => ?_)
    · rw [holdsLine_some ht]; rfl
    · have hc : countOf (s.lease k) p ≤ (s.portRec p).occupied := by
        rw [h.counts p]
        unfold countOf
        cases e : (s.lease k).any fun l => l.holder == p
        · simp
        · exact List.countP_pos_iff.mpr ⟨k, List.mem_finRange k, e⟩
      rw [hk] at hc
      rw [ht, hk]
      simp only [countOf_some, Lease.closed] at hc ⊢
      rw [State.setLease_portRec, unholdLines_portRec]
      omega
    · rw [patOf_some ht]; rfl
    · rw [guardOf_some ht]; rfl
    · rw [patOf_some hk, live]; simp
    · rw [guardOf_some hk, live]; simp

/-! ## A handover (R71, R72) -/

theorem edgeToNewHolder_calm (p : Port) (k : Slot) (l : Lease) (s : State) : Calm s (edgeToNewHolder p k l s) := by
  unfold edgeToNewHolder
  split
  · split
    · exact calm_dropSlotKinds ..
    · exact calm_postSlot ..
  · exact .refl s

theorem raise_lower_portRec (p h q : Port) (s : State) :
    ((raiseCount p (lowerCount h s)).portRec q).occupied
      = (s.portRec q).occupied - (if h = q then 1 else 0) + if p = q then 1 else 0 := by
  simp only [raiseCount, lowerCount, State.setPortRec_portRec, eq_comm (a := q)]
  split
  · rename_i e
    subst e
    by_cases hh : h = p
    · simp [hh]
    · simp [hh, Ne.symm hh]
  · by_cases hh : h = q
    · subst hh
      simp
    · simp [hh]

/-- The lease changes its holder, and the counts follow. -/
theorem transfer_work {lost : Port → Byte → Prop} {s : State} {p : Port} {k : Slot} {l : Lease}
    (hk : s.lease k = some l) (hl : l.state.live = true) : Work lost s (transfer p k l s) := by
  refine Work.trans ?_ ((calm_postSlot ..).trans (edgeToNewHolder_calm ..)).work
  have ht : ((raiseCount p (lowerCount l.holder (s.setLease k (handedOver (s.charter p) p l))))).lease k
      = some (handedOver (s.charter p) p l) := by simp
  have o : OneSlot s (raiseCount p (lowerCount l.holder (s.setLease k (handedOver (s.charter p) p l)))) k :=
    { others := fun j hj => .of_eq (by simp [hj])
      queue := by simpa using sameEntries_refl _
      tickets := fun p => by simp }
  refine o.work (fun j => by simp) (by simp) (.of_eq (by simp) (by simp) (by simp) (by simp))
    (fun h => o.held_same h.held (by simp) fun n => ?_) (fun h => o.counts h.counts fun q => ?_) (fun h => ?_)
  · rw [holdsLine_some ht, holdsLine_some hk, not_closed_of_live hl]
    rfl
  · rw [raise_lower_portRec, ht, hk, countOf_some, countOf_some]
    rfl
  · have hp : ∀ j, patOf (raiseCount p (lowerCount l.holder (s.setLease k (handedOver (s.charter p) p l)))) j
        = patOf s j := fun j => by
      by_cases e : j = k
      · rw [e, patOf_some ht, patOf_some hk, hl]; rfl
      · exact (o.others j e).patOf
    have hg : ∀ j, guardOf (raiseCount p (lowerCount l.holder (s.setLease k (handedOver (s.charter p) p l)))) j
        = guardOf s j := fun j => by
      by_cases e : j = k
      · rw [e, guardOf_some ht, guardOf_some hk, hl]; rfl
      · exact (o.others j e).guardOf
    rw [channelsRight_iff, funext hp, funext hg]
    simpa using (channelsRight_iff s).mp h.channels

/-! ## Waits that end -/

theorem removeEntry_mem (p : Port) (t : Byte) (s : State) (x : QueueEntry) :
    x ∈ (removeEntry p t s).queue ↔ x ∈ s.queue ∧ ¬ (x.port = p ∧ x.ticket = t) := by
  simp only [removeEntry, List.mem_filter, Bool.not_eq_true', Bool.and_eq_false_iff, decide_eq_false_iff_not]
  tauto

theorem removeEntry_expired {s : State} {e : QueueEntry} (he : e ∈ s.queue) (kd : KindSet) :
    Expired s (postTicket e kd (removeEntry e.port e.ticket s)) e kd where
  there := he
  queue := by simp [removeEntry]
  gone x hx hp := by
    have : x ∈ (removeEntry e.port e.ticket s).queue := by simpa using hx
    rw [removeEntry_mem] at this
    tauto
  arrivals := by simp
  map p := by
    rw [postTicket_map]
    split
    · rename_i h
      rw [h]
      rfl
    · rfl

/-- Work by which one entry leaves with a notice. -/
theorem Expired.work {lost : Port → Byte → Prop} {s t : State} {e : QueueEntry} {kd : KindSet} (x : Expired s t e kd)
    (hall : ∀ y ∈ s.queue, y ∈ t.queue ∨ (y.port = e.port ∧ y.ticket = e.ticket)) (hs : t.slots = s.slots)
    (hh : t.heldBy = s.heldBy) (hp : t.patTaken = s.patTaken) (hg : t.guardTaken = s.guardTaken)
    (hr : t.portRecs = s.portRecs) (ht : Tame s t) : Work lost s t := by
  have hlease : ∀ k, t.lease k = s.lease k := fun k => by simp [State.lease, hs]
  have hrec : ∀ p, t.portRec p = s.portRec p := fun p => by simp [State.portRec, hr]
  refine ⟨fun k => by simp [State.handle, hs], x.arrivals, .of_sublist x.queue, ht.ranges,
    fun h => ⟨fun n k => ?_, fun p => ?_, ?_, x.queueRight h.waits⟩, fun _ h => x.ticketsRight h,
    fun h g => x.flow g fun y hy => (hall y hy).imp_right fun hk => ?_⟩
  · rw [hh, (AlikeSlot.of_eq (hlease k)).holdsLine]; exact h.held n k
  · rw [hrec, recordsOf_congr fun k => .of_eq (hlease k)]; exact h.counts p
  · rw [channelsRight_iff, hp, hg, funext fun k => (AlikeSlot.of_eq (hlease k)).patOf (k := k),
      funext fun k => (AlikeSlot.of_eq (hlease k)).guardOf (k := k)]
    exact (channelsRight_iff s).mp h.channels
  · exact entry_of_key h.waits.2.1 x.there hy hk.1 hk.2

theorem postTicket_tame (e : QueueEntry) (kd : KindSet) (s : State) : Tame s (postTicket e kd s) :=
  .of_eq (by simp) (by simp) (by simp) (by simp)

theorem removeEntry_tame (p : Port) (t : Byte) (s : State) : Tame s (removeEntry p t s) := .of_eq rfl rfl rfl rfl

/-- An entry leaves with a notice of its ticket. -/
theorem expire_work {lost : Port → Byte → Prop} {s : State} {e : QueueEntry} (he : e ∈ s.queue) (kd : KindSet) :
    Work lost s (postTicket e kd (removeEntry e.port e.ticket s)) := by
  refine (removeEntry_expired he kd).work (fun y hy => ?_) (by simp) (by simp) (by simp) (by simp) (by simp)
    (Tame.trans (removeEntry_tame ..) (postTicket_tame ..))
  have : y ∈ (removeEntry e.port e.ticket s).queue ∨ (y.port = e.port ∧ y.ticket = e.ticket) := by
    rw [removeEntry_mem]
    tauto
  simpa using this

theorem waitExpiryStep_work {lost : Port → Byte → Prop} (p : Port) (t : Byte) (s : State) :
    Work lost s (waitExpiryStep p t s) := by
  unfold waitExpiryStep
  split
  · rename_i e he
    have hm := List.mem_of_find?_eq_some he
    have hk := List.find?_some he
    simp only [Bool.and_eq_true, decide_eq_true_eq] at hk
    split
    · rw [← hk.1, ← hk.2]
      exact expire_work hm _
    · exact .refl s
  · exact .refl s

/-- Entries leave, and nothing is posted for them: those of the `lost` ports and tickets. -/
theorem filter_work {lost : Port → Byte → Prop} {s : State} (f : QueueEntry → Bool)
    (h : ∀ e ∈ s.queue, f e = false → lost e.port e.ticket) :
    Work lost s { s with queue := s.queue.filter f } where
  handle _ := rfl
  arrivals := rfl
  shrinks := .of_sublist List.filter_sublist
  ranges h := Tame.ranges (s := s) (.of_eq rfl rfl rfl rfl) h
  safe h :=
    { held := h.held
      counts := h.counts
      channels := h.channels
      waits := h.waits.of_keys (List.filter_sublist.map _) fun p =>
        Nat.add_le_add_right ((List.filter_sublist (p := f)).filter _).length_le _ }
  tickets _ h := h.shrink (.of_sublist List.filter_sublist) rfl fun _ => rfl
  flow _ _ :=
    { notice := fun p x hx => .inl ⟨x, hx, rfl, rfl⟩
      kept := fun p x hx => .inl ⟨x, hx, rfl, rfl⟩
      entry := fun e he => by
        cases hf : f e with
        | false => exact .inr (.inr (h e he hf))
        | true => exact .inl ⟨e, List.mem_filter.mpr ⟨he, hf⟩, .refl e⟩ }

theorem removeEntry_work (p : Port) (t : Byte) (s : State) :
    Work (fun q n => q = p ∧ n = t) s (removeEntry p t s) :=
  filter_work _ fun e _ h => by simpa using h

theorem dropWaits_work (p : Port) (s : State) : Work (fun q _ => q = p) s (dropWaits p s) :=
  filter_work _ fun e _ h => by simpa using h

theorem countWaits_calm (s : State) : Calm s (countWaits s) where
  still :=
    { Still.refl s with
      queue := by
        simp only [countWaits, List.forall₂_map_right_iff]
        exact List.forall₂_same.mpr fun _ _ => rfl }
  tame := .of_eq rfl rfl rfl rfl

/-! ## The recall of a port (R94) -/

/-- The entries `es` leave one by one, each with a notice. -/
def expireAll (kd : KindSet) (es : List QueueEntry) (s : State) : State :=
  es.foldl (fun s e => postTicket e kd (removeEntry e.port e.ticket s)) s

theorem expireAll_work {lost : Port → Byte → Prop} (kd : KindSet) (es : List QueueEntry) (s : State)
    (hes : ∀ e ∈ es, e ∈ s.queue) (hd : (es.map fun e => (e.port, e.ticket)).Nodup) :
    Work lost s (expireAll kd es s) := by
  induction es generalizing s with
  | nil => exact .refl s
  | cons e es ih =>
    simp only [List.map_cons, List.nodup_cons] at hd
    refine (expire_work (hes e (by simp)) kd).trans (ih _ (fun x hx => ?_) hd.2)
    have : x ∈ (removeEntry e.port e.ticket s).queue := by
      rw [removeEntry_mem]
      refine ⟨hes x (by simp [hx]), fun hk => hd.1 (List.mem_map.mpr ⟨x, hx, by simp [hk.1, hk.2]⟩)⟩
    simpa using this

theorem removeEntry_postTicket (p : Port) (t : Byte) (e : QueueEntry) (kd : KindSet) (s : State) :
    removeEntry p t (postTicket e kd s) = postTicket e kd (removeEntry p t s) := rfl

/-- Entries that go first and are posted after, or one by one: the same. -/
theorem expireAll_eq (kd : KindSet) (es : List QueueEntry) (s : State) :
    expireAll kd es s = es.foldl (fun s e => postTicket e kd s)
      { s with queue := s.queue.filter fun x => es.all fun e => !(x.port = e.port && x.ticket = e.ticket) } := by
  induction es generalizing s with
  | nil => simp [expireAll]
  | cons e es ih =>
    change expireAll kd es (postTicket e kd (removeEntry e.port e.ticket s)) = _
    rw [ih]
    have hq : (postTicket e kd (removeEntry e.port e.ticket s)).queue
        = s.queue.filter fun x => !(x.port = e.port && x.ticket = e.ticket) := by
      simp [removeEntry]
    rw [hq, List.filter_filter, List.foldl_cons]
    have : ∀ q, { postTicket e kd (removeEntry e.port e.ticket s) with queue := q }
        = postTicket e kd { s with queue := q } := fun q => rfl
    rw [this]
    simp only [List.all_cons, Bool.and_comm]

theorem cancelWaits_eq (t : Port) (s : State) :
    cancelWaits t s = expireAll TicketKind.waitCancelled (waitingOf s t) s := by
  rw [expireAll_eq]
  unfold cancelWaits dropWaits
  congr 2
  refine List.filter_congr fun x hx => ?_
  by_cases h : x.port = t
  · have : ((waitingOf s t).all fun e => !(x.port = e.port && x.ticket = e.ticket)) = false := by
      rw [List.all_eq_false]
      exact ⟨x, by simp [waitingOf, hx, h], by simp⟩
    rw [this]
    simp [h]
  · have : ((waitingOf s t).all fun e => !(x.port = e.port && x.ticket = e.ticket)) = true := by
      rw [List.all_eq_true]
      intro e he
      have : e.port = t := by simpa using (List.mem_filter.mp he).2
      simp [this, h]
    rw [this]
    simp [h]

end Sys2Proof.Machine

/-! PROOFS. The work of the composite operations: recall, ticks, port reset, acknowledgments and reports. -/

namespace Sys2Proof.Machine

/-! ## Records rewritten in place -/

theorem alike_setChanged (l : Lease) (x : LineSet) : Alike l { l with params := l.params.setChanged x } := by
  constructor <;> cases l.params <;> rfl

theorem alike_faults (l : Lease) (x : LineSet) : Alike l { l with faults := x } := by constructor <;> rfl

theorem calm_setArmed {s : State} {k : Slot} {l : Lease} {spec : GuardSpec} {armed : Bool} {g : GuardChan}
    (hk : s.lease k = some l) (hp : l.params = .guard spec armed g) (arm : Bool) :
    Calm s (setArmed k l spec g arm s) := by
  have h : Calm s (s.setLease k { l with params := .guard spec arm g }) :=
    calm_setLease hk ⟨rfl, rfl, rfl, rfl, by simp [hp, KindParams.patChan], by simp [hp, KindParams.guardChan]⟩
  unfold setArmed
  dsimp only
  split
  · exact h.trans (calm_tellGuard ..)
  · exact h

theorem calm_replaceLevels {s : State} {k : Slot} {l : Lease} {t : DriveType} {lv₀ lv : Levels} {safe : Option Levels}
    (hk : s.lease k = some l) (hp : l.params = .drive t lv₀ safe) : Calm s (replaceLevels k l t safe lv s) := by
  have h : Calm s (s.setLease k { l with params := .drive t lv safe }) :=
    calm_setLease hk ⟨rfl, rfl, rfl, rfl, by simp [hp, KindParams.patChan], by simp [hp, KindParams.guardChan]⟩
  exact h.trans ((calm_mapCells _ l.lines (fun n c => { c with assigned := some (has lv n) })
    fun _ _ => by simp).trans (calm_restartChecks s _))

theorem calm_takeChanged {s : State} {k : Slot} {l : Lease} (p : Port) (hk : s.lease k = some l) :
    Calm s (takeChanged p k l s) := (calm_setLease hk (alike_setChanged l _)).trans (calm_dropSlotKinds ..)

theorem calm_clearFaults {s : State} {k : Slot} {l : Lease} (named : LineSet) (hk : s.lease k = some l) :
    Calm s (clearFaults k l named s) :=
  (calm_setLease hk (alike_faults l (l.faults &&& ~~~named))).trans
    ((calm_mapCells _ (l.faults &&& named) (fun _ c => { c with mismatch := 0 }) fun _ _ => by simp).trans
      (calm_restartChecks s _))

theorem calm_renewLease {s : State} {k : Slot} {l : Lease} (granted applied : Nat) (hk : s.lease k = some l) :
    Calm s (renewLease k l granted applied s) := by
  have ha : Alike l { l with term := some { granted := granted, remaining := some applied }, termLow := false } := by
    constructor <;> rfl
  unfold renewLease
  dsimp only
  split
  · rename_i h
    exact (calm_leaveGrace hk ha (by simp [h, LeaseState.live])).trans (calm_restartChecks ..)
  all_goals exact calm_setLease hk ha

/-! ## Term ticks -/

theorem calm_termLowStep (k : Slot) (s : State) : Calm s (termLowStep k s) := by
  unfold termLowStep
  split
  · rename_i hk
    split
    · exact (calm_setLease hk (by constructor <;> rfl)).trans (calm_postSlot ..)
    · exact .refl s
  · exact .refl s

theorem alike_count (l : Lease) : Alike l l.count := by
  cases h : l.state <;> constructor <;> simp [Lease.count, h, LeaseState.isClosed, LeaseState.live]

theorem live_of_working {st : LeaseState} (h : st.working = true) : st.live = true := by
  cases st <;> simp_all [LeaseState.working, LeaseState.live]

/-- What a withdrawal of its offer makes of a live record. -/
theorem withdrawOffer_alike {s : State} {k : Slot} {l : Lease} (hk : s.lease k = some l) :
    ∃ m, (withdrawOffer k s).lease k = some m ∧ Alike m l := by
  cases hs : l.state
  case handover q x =>
    refine ⟨{ l with state := .active }, by simp [withdrawOffer, endOffer, hk, hs], ?_⟩
    have := live_handover hs
    exact ⟨this.holder.symm, this.lines.symm, this.closed.symm, this.live.symm, this.pat.symm, this.guard.symm⟩
  all_goals exact ⟨l, by simp [withdrawOffer, hk, hs], .refl l⟩

section
variable {lost : Port → Byte → Prop}

theorem termEndStep_work (k : Slot) (s : State) : Work lost s (termEndStep k s) := by
  unfold termEndStep
  split
  · rename_i l hk
    split
    · rename_i h
      split
      · exact retire_work ..
      · obtain ⟨m, hm, ha⟩ := withdrawOffer_alike hk
        exact ((calm_withdrawOffer k s).trans
          ((calm_enterGrace hm ha (live_of_working h.1)).trans (calm_postSlot ..))).work
    · exact .refl s
  · exact .refl s

theorem graceEndStep_work (k : Slot) (s : State) : Work lost s (graceEndStep k s) := by
  unfold graceEndStep
  split
  · split
    · exact retire_work ..
    all_goals exact .refl s
  · exact .refl s

theorem calm_offerLapseStep (k : Slot) (s : State) : Calm s (offerLapseStep k s) := by
  unfold offerLapseStep
  split
  · split
    · split
      · exact .refl s
      · exact (calm_endOffer k s).trans (calm_postSlot ..)
    all_goals exact .refl s
  · exact .refl s

theorem tickSlot_work (k : Slot) (s : State) : Work lost s (tickSlot k s) := by
  unfold tickSlot
  split
  · rename_i hk
    exact ((((calm_setLease hk (alike_count _)).trans (calm_termLowStep ..)).work.trans
      (termEndStep_work ..)).trans (graceEndStep_work ..)).trans (calm_offerLapseStep ..).work
  · exact .refl s

theorem tickQueue_work (s : State) : Work lost s (tickQueue s) := by
  unfold tickQueue
  refine (countWaits_calm s).work.trans ?_
  generalize countWaits s = u
  suffices ∀ (es : List QueueEntry) (u : State),
      Work lost u (es.foldl (fun s (e : QueueEntry) => waitExpiryStep e.port e.ticket s) u) from this u.queue u
  intro es
  induction es with
  | nil => exact fun u => .refl u
  | cons e es ih => exact fun u => (waitExpiryStep_work e.port e.ticket u).trans (ih _)

theorem calm_quietEndStep (p : Port) (s : State) : Calm s (quietEndStep p s) := by
  unfold quietEndStep
  split
  · exact (calm_setPortRec (r := { s.portRec p with quiet := none }) rfl).trans (calm_postPort ..)
  all_goals exact .refl s

theorem calm_tickQuiet (p : Port) (s : State) : Calm s (tickQuiet p s) :=
  (calm_setPortRec (r := { s.portRec p with quiet := (s.portRec p).quiet.map (· - 1) }) rfl).trans
    (calm_quietEndStep ..)

/-- The work of a term tick before its scan (R44). -/
theorem tick_work (s : State) : Work lost s (forPorts tickQuiet (tickQueue (forSlots tickSlot s))) :=
  ((forSlots_work tickSlot_work s).trans (tickQueue_work _)).trans (forPorts_calm calm_tickQuiet _).work

/-! ## The recall of a port (R94) -/

/-- What needs no agreement of the tables, and what may rest on it. -/
theorem Work.of_safe {s t : State} (hh : ∀ k, t.handle k = s.handle k) (ha : t.arrivals = s.arrivals)
    (hq : Shrinks s.queue t.queue) (hr : Tame s t) (h : Safe s → Work lost s t) : Work lost s t :=
  ⟨hh, ha, hq, hr.ranges, fun g => (h g).safe g, fun g => (h g).tickets g, fun g => (h g).flow g⟩

theorem expireAll_plain (kd : KindSet) (es : List QueueEntry) (s : State) :
    (∀ k, (expireAll kd es s).handle k = s.handle k) ∧ (expireAll kd es s).arrivals = s.arrivals
      ∧ (expireAll kd es s).queue.Sublist s.queue ∧ Tame s (expireAll kd es s) := by
  induction es generalizing s with
  | nil => exact ⟨fun _ => rfl, rfl, .refl _, .refl s⟩
  | cons e es ih =>
    obtain ⟨h₁, h₂, h₃, h₄⟩ := ih (postTicket e kd (removeEntry e.port e.ticket s))
    refine ⟨fun k => (h₁ k).trans (by simp), h₂.trans (by simp), h₃.trans ?_,
      Tame.trans ((removeEntry_tame ..).trans (postTicket_tame ..)) h₄⟩
    simp [removeEntry]

theorem cancelWaits_work (t : Port) (s : State) : Work lost s (cancelWaits t s) := by
  rw [cancelWaits_eq]
  obtain ⟨h₁, h₂, h₃, h₄⟩ := expireAll_plain TicketKind.waitCancelled (waitingOf s t) s
  exact .of_safe h₁ h₂ (.of_sublist h₃) h₄ fun h =>
    expireAll_work _ _ _ (fun e he => (List.mem_filter.mp he).1) (h.waits.2.1.sublist (List.filter_sublist.map _))

theorem calm_makeQuiet (t : Port) (time : Nat) (s : State) : Calm s (makeQuiet t time s) := by
  unfold makeQuiet
  split
  · exact calm_setPortRec rfl
  · exact .refl s

theorem recallSlot_work (t : Port) (k : Slot) (s : State) : Work lost s (recallSlot t k s) := by
  unfold recallSlot
  split
  · split
    · exact retire_work ..
    · exact .refl s
  · exact .refl s

theorem recallPort_work (t : Port) (time : Nat) (s : State) : Work lost s (recallPort t time s) :=
  (((forSlots_work (recallSlot_work t) s).trans (calm_cancelOffersTo t _).work).trans (cancelWaits_work t _)).trans
    ((calm_makeQuiet t time _).trans (calm_postPort ..)).work

theorem fireEffect_work (h : Handle) (carried : Bool) (s : State) : Work lost s (fireEffect h carried s) := by
  unfold fireEffect
  split
  · split
    · split
      · exact (recallPort_work ..).trans (calm_postSlot ..).work
      all_goals exact (calm_postSlot ..).work
    all_goals exact (calm_postSlot ..).work
  · exact .refl s

/-! ## Reports -/

theorem named_some {s : State} {h : Handle} {l : Lease} (hn : named s h = some l) :
    s.handle h.slot = h ∧ s.lease h.slot = some l := by
  unfold named at hn
  split at hn
  · rename_i e
    exact ⟨e, hn⟩
  · cases hn

theorem calm_edgeEffect (h : Handle) (n : Line) (v : Level) (s : State) : Calm s (edgeEffect h n v s) := by
  unfold edgeEffect
  split
  · rename_i l hn
    obtain ⟨-, hk⟩ := named_some hn
    split
    · dsimp only
      have hc := calm_setLease hk (alike_setChanged l (l.params.changed ||| single n))
      split
      · exact hc.trans (calm_postSlot ..)
      · exact hc
    · exact .refl s
  · exact .refl s

theorem faultEffect_work (h : Handle) (n : Line) (s : State) : Work lost s (faultEffect h n s) := by
  unfold faultEffect
  split
  · rename_i l hn
    obtain ⟨-, hk⟩ := named_some hn
    split
    · dsimp only
      have hc := (calm_setLease hk (alike_faults l (l.faults ||| single n))).trans
        (calm_postSlot l.holder h.slot SlotKind.lineFault .none _)
      split
      · exact hc.work.trans (retire_work ..)
      · exact hc.work
    · exact .refl s
  · exact .refl s

theorem calm_patternDoneEffect (h : Handle) (s : State) : Calm s (patternDoneEffect h s) := by
  unfold patternDoneEffect
  split
  · split
    · exact calm_postSlot ..
    · exact .refl s
  · exact .refl s

/-! ## Acknowledgments -/

theorem calm_ackEdge (p : Port) (k : Slot) (gen : Byte) (s : State) : Calm s (ackEdge p k gen s) := by
  unfold ackEdge
  split
  · rename_i hk
    split
    · exact calm_setLease hk (alike_setChanged _ _)
    · exact .refl s
  · exact .refl s

theorem ackRetired_work (p : Port) (k : Slot) (gen : Byte) (s : State) : Work lost s (ackRetired p k gen s) := by
  unfold ackRetired
  split
  · rename_i hk
    split
    · rename_i h
      exact freeRecord_work hk h.2.2
    · exact .refl s
  · exact .refl s

theorem ackSlot_work (p : Port) (k : Slot) (e : SlotNotice) (named : KindSet) (s : State) :
    Work lost s (ackSlot p k e named s) := by
  have hm : Calm s (s.setMap p ((s.map p).removeSlot k e.gen named)) := calm_setMap (removeSlot_tickets ..)
  unfold ackSlot
  dsimp only
  have hedge : Calm s (if e.kinds &&& named &&& SlotKind.edge = 0#16
      then s.setMap p ((s.map p).removeSlot k e.gen named)
      else ackEdge p k e.gen (s.setMap p ((s.map p).removeSlot k e.gen named))) := by
    split
    · exact hm
    · exact hm.trans (calm_ackEdge ..)
  split
  · exact hedge.work
  · exact hedge.work.trans (ackRetired_work ..)

/-! ## RESET_PORT and SET_CHARTER -/

theorem resetSlot_work (t : Port) (k : Slot) (s : State) : Work lost s (resetSlot t k s) := by
  unfold resetSlot
  split
  · rename_i l hk
    split
    · split
      · rename_i h
        exact freeRecord_work hk (by rw [h]; rfl)
      · exact .refl s
      all_goals
        split
        · exact ((calm_setLease hk (alike_setChanged _ _)).trans (calm_withdrawOffer ..)).work
        · exact retire_work ..
    · exact .refl s
  · exact .refl s

theorem calm_flagRecord (t : Port) (c : Charter) (k : Slot) (s : State) : Calm s (flagRecord t c k s) := by
  unfold flagRecord
  split
  · rename_i hk
    split
    · exact (calm_setLease hk (by constructor <;> rfl)).trans (calm_postSlot ..)
    · exact .refl s
  · exact .refl s

/-- A port's map is emptied: its ticket notices go. -/
theorem emptyMap_work (p : Port) (s : State) : Work (fun q _ => q = p) s (s.setMap p NoticeMap.empty) := by
  have hm : ∀ q, ((s.setMap p NoticeMap.empty).map q).tickets = if q = p then [] else (s.map q).tickets := fun q => by
    rw [State.setMap_map]
    split <;> rfl
  refine ⟨fun _ => rfl, rfl, .of_sublist (.refl _), Tame.ranges (s := s) (.of_eq rfl rfl rfl rfl),
    fun h => ⟨h.held, h.counts, h.channels, h.waits.of_keys (.refl _) fun q => ?_⟩, fun _ h => ?_, fun _ _ => ?_⟩
  · unfold waitBudget
    rw [hm]
    split <;> simp [waitingOf]
  · exact
      { queue := h.queue
        queueBefore := h.queueBefore
        notices := fun q => by
          rw [hm]
          split
          · simp
          · exact h.notices q
        noticesBefore := fun q x hx => by
          rw [hm] at hx
          split at hx
          · cases hx
          · exact h.noticesBefore q x hx
        distinct := fun q => by
          rw [hm]
          split
          · simp
          · exact h.distinct q
        apart := fun q x hx => by
          rw [hm] at hx
          split at hx
          · cases hx
          · exact h.apart q x hx }
  · exact
      { notice := fun q x hx => by
          rw [hm] at hx
          split at hx
          · cases hx
          · exact .inl ⟨x, hx, rfl, rfl⟩
        kept := fun q x hx => by
          rw [hm]
          split
          · rename_i e
            exact .inr fun _ => e
          · exact .inl ⟨x, hx, rfl, rfl⟩
        entry := fun e he => .inl ⟨e, he, .refl e⟩ }

theorem calm_setWindow (s : State) (p : Port) (w : Window) : Calm s (s.setWindow p w) :=
  Same.calm ⟨rfl, rfl, rfl, rfl, rfl, rfl, rfl, rfl⟩ (.of_eq rfl rfl rfl rfl)

theorem resetPortEffect_work (t : Port) (s : State) : Work (fun q _ => q = t) s (resetPortEffect t s) :=
  ((((forSlots_work (resetSlot_work t) s).trans (calm_cancelOffersTo t _).work).trans (dropWaits_work t _)).trans
    (emptyMap_work t _)).trans (calm_setWindow ..).work

end

end Sys2Proof.Machine

/-! PROOFS. Waiting entries and grants: what keeps an entry waiting (R34, R36), and what a grant does (R4, R12, R28). -/

namespace Sys2Proof.Machine

/-! ## Waiting -/

theorem freePat_isSome (s : State) : (freePat? s).isSome = true ↔ ∃ c, vget s.patTaken c = false := by
  simp [freePat?, List.find?_isSome]

theorem freeGuard_isSome (s : State) : (freeGuard? s).isSome = true ↔ ∃ g, vget s.guardTaken g = false := by
  simp [freeGuard?, List.find?_isSome]

/-- What only grants change: more lines are held, more slots and channels are taken, the counts are higher. -/
structure Fuller (s t : State) : Prop where
  held : ∀ n, (vget s.heldBy n).isSome = true → (vget t.heldBy n).isSome = true
  slots : ∀ k, (s.lease k).isSome = true → (t.lease k).isSome = true
  charters : t.charters = s.charters
  occupied : ∀ p, (s.portRec p).occupied ≤ (t.portRec p).occupied
  pat : ∀ c, vget s.patTaken c = true → vget t.patTaken c = true
  guard : ∀ g, vget s.guardTaken g = true → vget t.guardTaken g = true

theorem Fuller.of_eq {s t : State} (h₁ : t.heldBy = s.heldBy) (h₂ : t.slots = s.slots) (h₃ : t.charters = s.charters)
    (h₄ : t.portRecs = s.portRecs) (h₅ : t.patTaken = s.patTaken) (h₆ : t.guardTaken = s.guardTaken) :
    Fuller s t := by
  refine ⟨fun n h => by rwa [h₁], fun k h => ?_, h₃, fun p => ?_, fun c h => by rwa [h₅], fun g h => by rwa [h₆]⟩
  · simpa [State.lease, h₂] using h
  · simp [State.portRec, h₄]

theorem Fuller.refl (s : State) : Fuller s s := .of_eq rfl rfl rfl rfl rfl rfl

theorem Fuller.charter {s t : State} (h : Fuller s t) (p : Port) : t.charter p = s.charter p := by
  simp [State.charter, h.charters]

theorem Fuller.trans {s t u : State} (a : Fuller s t) (b : Fuller t u) : Fuller s u :=
  ⟨fun n h => b.held n (a.held n h), fun k h => b.slots k (a.slots k h), b.charters.trans a.charters,
    fun p => (a.occupied p).trans (b.occupied p), fun c h => b.pat c (a.pat c h), fun g h => b.guard g (a.guard g h)⟩

theorem Fuller.channelFree {s t : State} (h : Fuller s t) {r : Request} (hf : channelFree s r = false) :
    channelFree t r = false := by
  unfold Machine.channelFree at *
  cases hk : r.kind with
  | drive _ _ _ => simp [hk] at hf
  | watch _ _ _ => simp [hk] at hf
  | pattern _ =>
    simp only [hk] at hf ⊢
    rw [← Bool.not_eq_true, freePat_isSome, not_exists] at hf ⊢
    exact fun c => by simpa using h.pat c (by simpa using hf c)
  | guard _ _ =>
    simp only [hk] at hf ⊢
    rw [← Bool.not_eq_true, freeGuard_isSome, not_exists] at hf ⊢
    exact fun c => by simpa using h.guard c (by simpa using hf c)

/-- An entry goes on waiting where more is taken, whatever its own wait remaining and those in front of it. -/
theorem Waits.mono {s t : State} (h : Fuller s t) {older older' : List QueueEntry} {e e' : QueueEntry}
    (ho : List.Forall₂ SameEntry older older') (he : SameEntry e e') (w : Waits s older e) : Waits t older' e' := by
  obtain ⟨-, hp, -, hr, -⟩ := (sameEntry_iff ..).mp he
  unfold Waits at *
  rw [hp, hr, h.charter]
  rcases w with ⟨n, hn, w⟩ | w | w | w
  · refine .inl ⟨n, hn, w.imp (h.held n) fun ⟨x, hx, hxn⟩ => ?_⟩
    obtain ⟨y, hy, hxy⟩ := forall₂_mem_left ho hx
    obtain ⟨-, -, -, hr, -⟩ := (sameEntry_iff ..).mp hxy
    exact ⟨y, hy, hr ▸ hxn⟩
  · exact .inr (.inl fun k => h.slots k (w k))
  · exact .inr (.inr (.inl (w.trans (h.occupied _))))
  · exact .inr (.inr (.inr (h.channelFree w)))

theorem WaitsInOrder.mono {s t : State} (h : Fuller s t) {q q' : List QueueEntry} (hq : List.Forall₂ SameEntry q q')
    (w : WaitsInOrder s q) : WaitsInOrder t q' := by
  rintro older' e' younger' rfl
  obtain ⟨older, rest, ho, hr, rfl⟩ : ∃ a b, List.Forall₂ SameEntry a older'
      ∧ List.Forall₂ SameEntry b (e' :: younger') ∧ q = a ++ b :=
    ⟨_, _, List.forall₂_take_append q older' _ hq, List.forall₂_drop_append q older' _ hq,
      (List.take_append_drop ..).symm⟩
  cases hr with
  | @cons e _ younger _ he hy =>
    obtain ⟨hperm, hwait⟩ := w older e younger rfl
    obtain ⟨-, hp, -, hreq, -⟩ := (sameEntry_iff ..).mp he
    exact ⟨by rw [hp, hreq, h.charter]; exact hperm, hwait.mono h ho he⟩

theorem WaitsInOrder.nil (s : State) : WaitsInOrder s [] := by
  intro older e younger h
  simp at h

/-- A younger entry joins the entries that wait. -/
theorem WaitsInOrder.snoc {s : State} {q : List QueueEntry} {e : QueueEntry} (w : WaitsInOrder s q)
    (hp : permits (s.charter e.port) e.request = true) (he : Waits s q e) : WaitsInOrder s (q ++ [e]) := by
  intro older x younger h
  rcases List.eq_nil_or_concat younger with rfl | ⟨y, z, rfl⟩
  · obtain ⟨rfl, hx⟩ := List.append_inj' h rfl
    obtain rfl : e = x := by simpa using hx
    exact ⟨hp, he⟩
  · have h : q ++ [e] = (older ++ x :: y) ++ [z] := by simpa using h
    obtain ⟨rfl, -⟩ := List.append_inj' h rfl
    exact w older x y rfl

/-! ## A grant -/

theorem freePat_spec {s : State} {c : PatChan} (h : freePat? s = some c) :
    vget s.patTaken c = false ∧ ∀ d, d < c → vget s.patTaken d = true := by
  unfold freePat? at h
  rw [List.find?_eq_some_iff_getElem] at h
  obtain ⟨hc, i, hi, hic, hlt⟩ := h
  refine ⟨by simpa using hc, fun d hd => ?_⟩
  rw [List.getElem_finRange] at hic
  have hd' : d.val < i := Fin.lt_def.mp (hic ▸ hd)
  simpa using hlt d.val hd'

theorem freeGuard_spec {s : State} {c : GuardChan} (h : freeGuard? s = some c) :
    vget s.guardTaken c = false ∧ ∀ d, d < c → vget s.guardTaken d = true := by
  unfold freeGuard? at h
  rw [List.find?_eq_some_iff_getElem] at h
  obtain ⟨hc, i, hi, hic, hlt⟩ := h
  refine ⟨by simpa using hc, fun d hd => ?_⟩
  rw [List.getElem_finRange] at hic
  have hd' : d.val < i := Fin.lt_def.mp (hic ▸ hd)
  simpa using hlt d.val hd'

theorem freeSlot_lowest {s : State} {k : Slot} : freeSlot? s = some k ↔ LowestFree s k := by
  unfold freeSlot? LowestFree
  rw [List.find?_eq_some_iff_getElem]
  constructor
  · rintro ⟨hk, i, hi, hik, hlt⟩
    refine ⟨by simpa using hk, fun j hj => ?_⟩
    rw [List.getElem_finRange] at hik
    have hj' : j.val < i := Fin.lt_def.mp (hik ▸ hj)
    simpa [Option.isSome_iff_ne_none] using hlt j.val hj'
  · rintro ⟨hk, hlt⟩
    refine ⟨by simpa using hk, k.val, by simp, by simp, fun j hj => ?_⟩
    have := hlt ⟨j, by omega⟩ hj
    simpa [Option.isSome_iff_ne_none] using this

/-- The channel that the kind of a grant takes is a free one. -/
theorem grantParams_pat {s : State} {r : Request} (hc : channelFree s r = true) {c : PatChan}
    (h : (grantParams s r).patChan = some c) : freePat? s = some c := by
  unfold grantParams channelFree at *
  cases hk : r.kind with
  | pattern spec =>
    simp only [hk, KindParams.patChan, Option.some.injEq] at h hc
    obtain ⟨d, hd⟩ := Option.isSome_iff_exists.mp hc
    rw [hd] at h ⊢
    exact congrArg some h
  | drive _ _ _ | watch _ _ _ | guard _ _ => simp [hk, KindParams.patChan] at h

theorem grantParams_guard {s : State} {r : Request} (hc : channelFree s r = true) {c : GuardChan}
    (h : (grantParams s r).guardChan = some c) : freeGuard? s = some c := by
  unfold grantParams channelFree at *
  cases hk : r.kind with
  | guard spec armed =>
    simp only [hk, KindParams.guardChan, Option.some.injEq] at h hc
    obtain ⟨d, hd⟩ := Option.isSome_iff_exists.mp hc
    rw [hd] at h ⊢
    exact congrArg some h
  | drive _ _ _ | watch _ _ _ | pattern _ => simp [hk, KindParams.guardChan] at h

theorem takeChannel_patTaken (h : Handle) (params : KindParams) (s : State) (c : PatChan) :
    vget (takeChannel h params s).patTaken c = if params.patChan = some c then true else vget s.patTaken c := by
  cases params <;> simp [takeChannel, KindParams.patChan, vget_vset, eq_comm]

theorem takeChannel_guardTaken (h : Handle) (params : KindParams) (s : State) (g : GuardChan) :
    vget (takeChannel h params s).guardTaken g
      = if params.guardChan = some g then true else vget s.guardTaken g := by
  cases params <;> simp [takeChannel, KindParams.guardChan, vget_vset, eq_comm]

section
variable (k : Slot) (p : Port) (r : Request) (o : Option Ticket) (s : State)

/-- The state of a grant before its channel is taken. -/
def grantRest : State :=
  let l := grantRecord s p r o
  (raiseCount p (claimLines k l.lines (fillSlot k l s))).mapCells l.lines fun n c =>
    { c with assigned := startLevel l.params n, mismatch := 0 }

theorem grantInto_eq : grantInto k p r o s
    = takeChannel ((grantRest k p r o s).handle k) (grantParams s r) (grantRest k p r o s) := rfl

theorem grantInto_patTaken (c : PatChan) : vget (grantInto k p r o s).patTaken c
    = if (grantParams s r).patChan = some c then true else vget s.patTaken c := by
  rw [grantInto_eq, takeChannel_patTaken]
  simp [grantRest]

theorem grantInto_guardTaken (g : GuardChan) : vget (grantInto k p r o s).guardTaken g
    = if (grantParams s r).guardChan = some g then true else vget s.guardTaken g := by
  rw [grantInto_eq, takeChannel_guardTaken]
  simp [grantRest]

theorem grantInto_tame : Tame s (grantInto k p r o s) := by
  refine ⟨by simp, by simp, by simp, fun n => ?_⟩
  rw [grantInto_cell]
  split <;> simp

end

section
variable {k : Slot} {p : Port} {r : Request} {s : State} (o : Option Ticket)

/-- A grant takes more and gives nothing back. -/
theorem grantInto_fuller : Fuller s (grantInto k p r o s) := by
  refine ⟨fun n h => ?_, fun j h => ?_, by simp, fun q => ?_, fun c h => ?_, fun g h => ?_⟩
  · rw [grantInto_heldBy]
    split
    · rfl
    · exact h
  · rw [grantInto_lease]
    split
    · rfl
    · exact h
  · rw [grantInto_portRec]
    split
    · rename_i e
      rw [e]
      simp
    · rfl
  · rw [grantInto_patTaken, h]; simp
  · rw [grantInto_guardTaken, h]; simp

theorem grantInto_oneSlot : OneSlot s (grantInto k p r o s) k where
  others j hj := .of_eq (by rw [grantInto_lease, if_neg hj])
  queue := by simpa using sameEntries_refl _
  tickets p := by simp

/-- A grant into a FREE slot, with unheld lines and a free channel, keeps the agreements. -/
theorem grantInto_safe (hk : s.lease k = none) (hl : ∀ n, has r.lines n = true → vget s.heldBy n = none)
    (hc : channelFree s r = true) (h : Safe s) : Safe (grantInto k p r o s) := by
  have one : OneSlot s (grantInto k p r o s) k := grantInto_oneSlot o
  have ht : (grantInto k p r o s).lease k = some (grantRecord s p r o) := by rw [grantInto_lease, if_pos rfl]
  have hpat : patOf (grantInto k p r o s) k = (grantParams s r).patChan := by rw [patOf_some ht]; rfl
  have hguard : guardOf (grantInto k p r o s) k = (grantParams s r).guardChan := by rw [guardOf_some ht]; rfl
  refine ⟨one.held_claim (ls := r.lines) h.held (holdsLine_none hk) (fun n => ?_) hl (grantInto_heldBy k p r o s),
    one.counts h.counts fun q => ?_,
    one.channels_acquire h.channels (patOf_none hk) (guardOf_none hk) (fun c hcc => ?_) (fun g hg => ?_) (fun c => ?_)
      (fun g => ?_), one.waits h.waits⟩
  · rw [holdsLine_some ht]; rfl
  · rw [grantInto_portRec, ht, hk, countOf_none, countOf_some]
    simp only [grantRecord]
    by_cases e : q = p
    · simp [e]
    · simp [e, Ne.symm e]
  · exact (freePat_spec (grantParams_pat hc (hpat ▸ hcc))).1
  · exact (freeGuard_spec (grantParams_guard hc (hguard ▸ hg))).1
  · rw [grantInto_patTaken, hpat]
  · rw [grantInto_guardTaken, hguard]

theorem grantRest_cell (n : Line) : (grantRest k p r o s).cell n = (grantInto k p r o s).cell n := by
  rw [grantInto_eq, takeChannel_cell]

theorem grantRest_handle (j : Slot) : (grantRest k p r o s).handle j = (grantInto k p r o s).handle j := by
  rw [grantInto_eq, takeChannel_handle]

/-- The debounced levels are those before the grant. -/
theorem grantRest_combination (cs : List Condition) : combination (grantRest k p r o s) cs = combination s cs := by
  have h : ∀ n, ((grantRest k p r o s).cell n).debounced = (s.cell n).debounced := fun n => by
    rw [grantRest_cell, grantInto_cell]
    split <;> rfl
  have hc : Condition.holds (grantRest k p r o s) = Condition.holds s := funext fun c => by
    simp only [Condition.holds, h]
  rw [combination, combination, hc]

theorem levelsOfStep_zero (steps : List PatternStep) :
    levelsOfStep steps 0 = (steps.head?.map (·.levels)).getD 0#16 := by
  cases steps <;> rfl

/-- What a grant does for its kind (R12, R28). -/
theorem grantInto_setsUp (hc : channelFree s r = true) :
    SetsUpKind s (grantInto k p r o s) k r (grantParams s r) := by
  have hcell : ∀ n, has r.lines n = true → (grantInto k p r o s).cell n
      = { s.cell n with assigned := startLevel (grantParams s r) n, mismatch := 0 } := fun n hn => by
    rw [grantInto_cell, if_pos hn]
  refine ⟨fun n hn => by rw [hcell n hn], ?_⟩
  cases hk : r.kind with
  | drive dt lv safe =>
    exact ⟨by simp [grantParams, hk], fun n hn => by rw [hcell n hn]; simp [grantParams, hk, startLevel]⟩
  | watch pull rising falling =>
    exact ⟨by simp [grantParams, hk], fun n hn => by rw [hcell n hn]; simp [grantParams, hk, startLevel]⟩
  | pattern spec =>
    obtain ⟨c, hfree⟩ : ∃ c, freePat? s = some c := Option.isSome_iff_exists.mp (by simpa [channelFree, hk] using hc)
    have hp : grantParams s r = .pattern spec c := by simp [grantParams, hk, hfree]
    obtain ⟨hf, hlow⟩ := freePat_spec hfree
    refine ⟨c, hp, hf, by simp [grantInto_patTaken, hp, KindParams.patChan], hlow, ?_, fun n hn => ?_⟩
    · rw [← grantRest_handle, grantInto_eq, hp]
      simp [takeChannel, grantRest]
    · rw [hcell n hn, hp, startLevel, levelsOfStep_zero]
  | guard spec armed =>
    obtain ⟨c, hfree⟩ : ∃ c, freeGuard? s = some c :=
      Option.isSome_iff_exists.mp (by simpa [channelFree, hk] using hc)
    have hp : grantParams s r = .guard spec armed c := by simp [grantParams, hk, hfree]
    obtain ⟨hf, hlow⟩ := freeGuard_spec hfree
    refine ⟨c, hp, hf, by simp [grantInto_guardTaken, hp, KindParams.guardChan], hlow, ?_, fun n hn => ?_⟩
    · rw [← grantRest_handle, grantInto_eq, hp]
      have := grantRest_combination (k := k) (p := p) (r := r) (s := s) o spec.conditions
      simp only [takeChannel, this, State.tellGuard_get, if_pos]
      rfl
    · rw [hcell n hn, hp]
      rfl

theorem grantInto_otherChannels : OtherChannelsKept s (grantInto k p r o s) (grantParams s r) := by
  refine ⟨fun c hc => ⟨by rw [grantInto_patTaken, if_neg hc], ?_⟩,
    fun g hg => ⟨by rw [grantInto_guardTaken, if_neg hg], ?_⟩⟩
  all_goals
    rw [grantInto_eq]
    cases hp : grantParams s r <;> simp_all [takeChannel, KindParams.patChan, KindParams.guardChan, grantRest, eq_comm]

end

/-! ## The grant of a scan (R29) -/

/-- A post with a ticket as its detail. -/
theorem slots_postSlot_origin (m : NoticeMap) (k : Slot) (gen : Byte) (kind : KindSet) (t : Byte) :
    ∃ e, vget (m.postSlot k gen kind (.origin t)).slots k = some e ∧ e.gen = gen
      ∧ e.kinds = kindsFor m k gen ||| kind ∧ e.origin = some t := by
  obtain ⟨e, h₁, h₂, h₃⟩ := slots_postSlot m k gen kind (.origin t)
  refine ⟨e, h₁, h₂, h₃, ?_⟩
  unfold NoticeMap.postSlot at h₁
  simp only [vget_vset_self, Option.some.injEq] at h₁
  rw [← h₁]
  cases vget m.slots k with
  | none => rfl
  | some x => by_cases g : x.gen = gen <;> simp [g, SlotNotice.addDetail, SlotNotice.fresh]

theorem scanGrant_eq {s : State} {e : QueueEntry} {k : Slot} (h : freeSlot? s = some k) :
    scanGrant e s = postSlot e.port k SlotKind.granted (.origin e.ticket)
      (grantInto k e.port e.request (some { port := e.port, number := e.ticket }) s) := by
  simp [scanGrant, h]

/-- The lease that a scan grants to an entry in slot `k`. -/
theorem scanGrant_granted {s : State} {e : QueueEntry} {k : Slot} (h : freeSlot? s = some k) :
    GrantedTo (scanGrant e s) k (grantRecord s e.port e.request (some { port := e.port, number := e.ticket })) e := by
  rw [scanGrant_eq h]
  refine ⟨by simp [grantInto_lease], rfl, rfl, rfl, rfl, fun n hn => by simp [grantInto_heldBy, hn], ?_⟩
  rw [postSlot_map, if_pos rfl, postSlot_handle]
  obtain ⟨x, h₁, h₂, h₃, h₄⟩ := slots_postSlot_origin
    ((grantInto k e.port e.request (some { port := e.port, number := e.ticket }) s).map e.port) k
    ((grantInto k e.port e.request (some { port := e.port, number := e.ticket }) s).handle k).gen SlotKind.granted
    e.ticket
  exact ⟨x, h₁, h₂, by rw [h₃]; exact or_and_self _ _, h₄⟩

/-- A grant stands through later grants and refusals. -/
theorem GrantedTo.keeps {t u : State} {k : Slot} {l : Lease} {e : QueueEntry} (h : GrantedTo t k l e)
    (a : ScanKeeps t u) : GrantedTo u k l e := by
  have hk : (t.lease k).isSome := by simp [h.record]
  refine ⟨by rw [a.lease k hk, h.record], h.holder, h.lines, h.active, h.origin,
    fun n hn => (a.held n k (h.held n hn)).1, ?_⟩
  rw [a.entry e.port k hk, a.handle k hk]
  exact h.notice

theorem GrantedTo.of_same {t u : State} {k : Slot} {l : Lease} {e : QueueEntry} (h : GrantedTo t k l e)
    (a : Same t u) : GrantedTo u k l e := by
  refine ⟨by rw [a.lease, h.record], h.holder, h.lines, h.active, h.origin, fun n hn => by rw [a.heldBy, h.held n hn],
    ?_⟩
  rw [a.map, a.handle]
  exact h.notice

/-- A grant tells entries apart by port, ticket and request alone. -/
theorem GrantedTo.of_sameEntry {t : State} {k : Slot} {l : Lease} {e x : QueueEntry} (h : GrantedTo t k l x)
    (hs : SameEntry e x) : GrantedTo t k l e := by
  obtain ⟨ht, hp, -, hr, -⟩ := (sameEntry_iff ..).mp hs
  refine ⟨h.record, by rw [h.holder, hp], by rw [h.lines, hr], h.active, by rw [h.origin, hp, ht], ?_, ?_⟩
  · rw [← hr]; exact h.held
  · rw [← hp, ← ht]; exact h.notice

end Sys2Proof.Machine

/-! PROOFS. The queue scan (R35, R36), told as one examination after another, and what it keeps and does. -/

namespace Sys2Proof.Machine

/-! ## One examination after another -/

theorem scanGrant_queue (e : QueueEntry) (q : List QueueEntry) (s : State) :
    scanGrant e { s with queue := q } = { scanGrant e s with queue := q } := by
  have hf : freeSlot? { s with queue := q } = freeSlot? s := rfl
  unfold scanGrant
  rw [hf]
  cases freeSlot? s with
  | none => rfl
  | some k =>
    dsimp only
    have hg : ∀ o, grantInto k e.port e.request o { s with queue := q }
        = { grantInto k e.port e.request o s with queue := q } := fun o => by
      rw [grantInto_eq, grantInto_eq]
      have hp : grantParams { s with queue := q } e.request = grantParams s e.request := rfl
      have hr : grantRest k e.port e.request o { s with queue := q }
          = { grantRest k e.port e.request o s with queue := q } := rfl
      rw [hp, hr]
      cases grantParams s e.request <;> rfl
    rw [hg]
    rfl

/-- The scan as a run over states whose queue is that of the entries still waiting: what each examination keeps, the
scan keeps. `older` are the entries examined that stay. -/
theorem scan_induct (P : List QueueEntry → State → Prop)
    (refuse : ∀ older e rest u, u.queue = older ++ e :: rest → permits (u.charter e.port) e.request = false →
      P older u → P older (postTicket e TicketKind.waitRefused { u with queue := older ++ rest }))
    (grant : ∀ older e rest u, u.queue = older ++ e :: rest → permits (u.charter e.port) e.request = true →
      blockedBy u older e.port e.request = none → P older u →
      P older (scanGrant e { u with queue := older ++ rest }))
    (stay : ∀ older e rest u, u.queue = older ++ e :: rest → permits (u.charter e.port) e.request = true →
      (blockedBy u older e.port e.request).isSome = true → P older u → P (older ++ [e]) u)
    (s : State) (h : P [] s) : P (scan s).queue (scan s) := by
  suffices ∀ (rest older : List QueueEntry) (u : State), P older { u with queue := older ++ rest } →
      P (scanList older rest u).1 { (scanList older rest u).2.1 with queue := (scanList older rest u).1 } from
    this s.queue [] s h
  intro rest
  induction rest with
  | nil =>
    intro older u h
    simpa [scanList] using h
  | cons e rest ih =>
    intro older u h
    simp only [scanList]
    split
    · rename_i hp
      have hp : permits (u.charter e.port) e.request = false := by simpa using hp
      exact ih _ _ (refuse older e rest { u with queue := older ++ e :: rest } rfl hp h)
    · rename_i hp
      split
      · rename_i hb
        have hp : permits (u.charter e.port) e.request = true := by simpa using hp
        refine ih _ _ ?_
        rw [← scanGrant_queue]
        exact grant older e rest { u with queue := older ++ e :: rest } rfl hp (Option.isNone_iff_eq_none.mp hb) h
      · rename_i hb
        have hp : permits (u.charter e.port) e.request = true := by simpa using hp
        have hb : (blockedBy u older e.port e.request).isSome = true := by simpa [Option.isSome_iff_ne_none] using hb
        refine ih _ _ ?_
        have := stay older e rest { u with queue := older ++ e :: rest } rfl hp hb h
        simpa using this

/-! ## What an examination keeps -/

/-- The queue is no part of what a scan keeps. -/
theorem ScanKeeps.requeue {u t : State} {q : List QueueEntry} (h : ScanKeeps { u with queue := q } t) :
    ScanKeeps u t :=
  ⟨h.lease, h.handle, h.free, h.held, h.entry, h.subjects, h.tickets, h.patInbox, h.guardInbox, h.records, h.settling⟩

/-- What an examination of an entry does to the rest of the part: what a scan keeps, more taken, stored values tame. -/
structure Examined (s t : State) : Prop where
  keeps : ScanKeeps s t
  fuller : Fuller s t
  tame : Tame s t

theorem Examined.refl (s : State) : Examined s s := ⟨.refl s, .refl s, .refl s⟩

theorem Examined.trans {s t u : State} (a : Examined s t) (b : Examined t u) : Examined s u :=
  ⟨a.keeps.trans b.keeps, a.fuller.trans b.fuller, a.tame.trans b.tame⟩

theorem refuse_handle (e : QueueEntry) (kd : KindSet) (q : List QueueEntry) (u : State) (k : Slot) :
    (postTicket e kd { u with queue := q }).handle k = u.handle k := by
  rw [postTicket_handle]
  rfl

theorem refuse_examined (e : QueueEntry) (kd : KindSet) (q : List QueueEntry) (u : State) :
    Examined u (postTicket e kd { u with queue := q }) where
  keeps := (postTicket_keeps e kd { u with queue := q }).requeue
  fuller := .of_eq (by simp) (by simp) (by simp) (by simp) (by simp) (by simp)
  tame := .of_eq (by simp) (by simp) (by simp) (by simp)

theorem Examined.requeue {u t : State} {q : List QueueEntry} (h : Examined { u with queue := q } t) : Examined u t where
  keeps := h.keeps.requeue
  fuller := ⟨h.fuller.held, h.fuller.slots, h.fuller.charters, h.fuller.occupied, h.fuller.pat, h.fuller.guard⟩
  tame := Tame.trans (t := { u with queue := q }) (.of_eq rfl rfl rfl rfl) h.tame

theorem scanGrant_examined {e : QueueEntry} {older : List QueueEntry} {u : State}
    (h : blockedBy u older e.port e.request = none) : Examined u (scanGrant e u) where
  keeps := scanGrant_keeps h
  fuller := by
    obtain ⟨-, ⟨k, hk⟩, -⟩ := blockedBy_none h
    rw [scanGrant_eq hk]
    exact (grantInto_fuller (k := k) (p := e.port) (r := e.request) (some ⟨e.port, e.ticket⟩)).trans
      (.of_eq (by simp) (by simp) (by simp) (by simp) (by simp) (by simp))
  tame := by
    obtain ⟨-, ⟨k, hk⟩, -⟩ := blockedBy_none h
    rw [scanGrant_eq hk]
    exact (grantInto_tame k e.port e.request (some ⟨e.port, e.ticket⟩) u).trans (.of_eq (by simp) (by simp) (by simp) (by simp))

theorem grant_examined {e : QueueEntry} {older q : List QueueEntry} {u : State}
    (h : blockedBy u older e.port e.request = none) : Examined u (scanGrant e { u with queue := q }) :=
  (scanGrant_examined (u := { u with queue := q }) h).requeue

/-- An invariant of the scan may rest on what the examinations before have kept. -/
theorem scan_invariant {s : State} (P : List QueueEntry → State → Prop) (start : P [] s)
    (refuse : ∀ older e rest u, Examined s u → List.Sublist u.queue s.queue → u.queue = older ++ e :: rest →
      permits (s.charter e.port) e.request = false → P older u →
      P older (postTicket e TicketKind.waitRefused { u with queue := older ++ rest }))
    (grant : ∀ older e rest u, Examined s u → List.Sublist u.queue s.queue → u.queue = older ++ e :: rest →
      permits (s.charter e.port) e.request = true → blockedBy u older e.port e.request = none → P older u →
      P older (scanGrant e { u with queue := older ++ rest }))
    (stay : ∀ older e rest u, Examined s u → List.Sublist u.queue s.queue → u.queue = older ++ e :: rest →
      permits (s.charter e.port) e.request = true → (blockedBy u older e.port e.request).isSome = true →
      P older u → P (older ++ [e]) u) :
    P (scan s).queue (scan s) ∧ Examined s (scan s) := by
  have sub : ∀ {u : State} {older rest : List QueueEntry} {e : QueueEntry}, List.Sublist u.queue s.queue →
      u.queue = older ++ e :: rest → List.Sublist (older ++ rest) s.queue := fun h e =>
    ((List.sublist_cons_self ..).append_left _).trans (e ▸ h)
  have key := scan_induct (fun older u => P older u ∧ Examined s u ∧ List.Sublist u.queue s.queue)
    (fun older e rest u hq hp ⟨h, he, hs⟩ => ⟨refuse older e rest u he hs hq (by rwa [he.fuller.charter] at hp) h,
      he.trans (refuse_examined ..), by simpa using sub hs hq⟩)
    (fun older e rest u hq hp hb ⟨h, he, hs⟩ => ⟨grant older e rest u he hs hq (by rwa [he.fuller.charter] at hp) hb h,
      he.trans (grant_examined hb), by simpa using sub hs hq⟩)
    (fun older e rest u hq hp hb ⟨h, he, hs⟩ => ⟨stay older e rest u he hs hq (by rwa [he.fuller.charter] at hp) hb h,
      he, hs⟩)
    s ⟨start, .refl s, .refl _⟩
  exact ⟨key.1, key.2.1⟩

theorem scan_examined (s : State) : Examined s (scan s) :=
  (scan_invariant (fun _ _ => True) trivial (fun _ _ _ _ _ _ _ _ _ => trivial) (fun _ _ _ _ _ _ _ _ _ _ => trivial)
    (fun _ _ _ _ _ _ _ _ _ _ => trivial)).2

/-! ## The agreements and the waits -/

theorem Safe.requeue {u : State} {q : List QueueEntry} (h : Safe u) (hq : List.Sublist q u.queue) :
    Safe { u with queue := q } where
  held := h.held
  counts := h.counts
  channels := h.channels
  waits := h.waits.of_keys (hq.map _) fun _ => Nat.add_le_add_right ((hq.filter _).length_le) _

theorem refuse_expired {older rest : List QueueEntry} {e : QueueEntry} {u : State} (hq : u.queue = older ++ e :: rest)
    (h : (u.queue.map fun e => (e.port, e.ticket)).Nodup) (kd : KindSet) :
    Expired u (postTicket e kd { u with queue := older ++ rest }) e kd where
  there := by simp [hq]
  queue := by
    rw [hq]
    exact (List.sublist_cons_self e rest).append_left older
  gone x hx hp ht := by
    have hx : x ∈ older ++ rest := by simpa using hx
    rw [hq] at h
    have : (e :: (older ++ rest)).map (fun e => (e.port, e.ticket)) |>.Nodup :=
      ((List.perm_middle (a := e)).map fun e => (e.port, e.ticket)).nodup_iff.mp h
    simp only [List.map_cons, List.nodup_cons] at this
    exact this.1 (List.mem_map.mpr ⟨x, hx, by simp [hp, ht]⟩)
  arrivals := by simp
  map p := by
    rw [postTicket_map]
    split
    · rename_i h
      rw [h]
      rfl
    · rfl

theorem middle_sublist {α : Type} (a b : List α) (x : α) : List.Sublist (a ++ b) (a ++ x :: b) :=
  (List.sublist_cons_self x b).append_left a

/-- A queue scan keeps the four agreements (R11, R12, R13, R32, R33). -/
theorem scan_safe {s : State} (h : Safe s) : Safe (scan s) := by
  refine (scan_invariant (fun _ u => Safe u) h (fun older e rest u _ _ hq _ hu => ?_)
    (fun older e rest u _ _ hq _ hb hu => ?_) fun _ _ _ _ _ _ _ _ _ hu => hu).1
  · have x := refuse_expired hq hu.waits.2.1 TicketKind.waitRefused
    have hs : ∀ k, AlikeSlot (u.lease k)
        ((postTicket e TicketKind.waitRefused { u with queue := older ++ rest }).lease k) := fun k =>
      .of_eq (by simp [State.lease])
    refine ⟨fun n k => ?_, fun p => ?_, ?_, x.queueRight hu.waits⟩
    · rw [(hs k).holdsLine]
      simpa using hu.held n k
    · rw [recordsOf_congr hs]
      simpa [State.portRec] using hu.counts p
    · rw [channelsRight_iff, funext fun k => (hs k).patOf, funext fun k => (hs k).guardOf]
      simpa using (channelsRight_iff u).mp hu.channels
  · obtain ⟨hl, ⟨k, hk⟩, hc⟩ := blockedBy_none (s := { u with queue := older ++ rest }) hb
    rw [scanGrant_eq hk]
    have hu' : Safe { u with queue := older ++ rest } := hu.requeue (hq ▸ middle_sublist ..)
    exact (calm_postSlot ..).still.safe (grantInto_safe _ (freeSlot_none hk) hl hc hu')

/-- After a queue scan every entry waits (R34). -/
theorem scan_waits (s : State) : EveryEntryWaits (scan s) := by
  refine (scan_invariant (fun older u => WaitsInOrder u older) (.nil s) (fun older e rest u _ _ hq _ hu => ?_)
    (fun older e rest u _ _ hq _ hb hu => ?_) fun older e rest u he _ _ hp hb hu => ?_).1
  · exact hu.mono (refuse_examined e _ _ u).fuller (sameEntries_refl _)
  · exact hu.mono (grant_examined hb).fuller (sameEntries_refl _)
  · exact hu.snoc (by rwa [he.fuller.charter]) ((waits_iff_blocked u older e).mpr hb)

/-! ## Tickets -/

/-- A grant leaves the ticket notices and the stamps alone. -/
theorem scanGrant_quiet (e : QueueEntry) (u : State) : (scanGrant e u).arrivals = u.arrivals
    ∧ (scanGrant e u).queue = u.queue ∧ ∀ p, ((scanGrant e u).map p).tickets = (u.map p).tickets := by
  refine ⟨by simp, by simp, fun p => ?_⟩
  unfold scanGrant
  split
  · rw [(calm_postSlot ..).still.tickets]
    simp
  · rfl

theorem scan_ticketsRight {s : State} (hs : Safe s) (h : TicketsRight s) : TicketsRight (scan s) := by
  refine (scan_invariant (fun _ u => TicketsRight u) h (fun older e rest u _ hsub hq _ hu => ?_)
    (fun older e rest u _ _ hq _ _ hu => ?_) fun _ _ _ _ _ _ _ _ _ hu => hu).1
  · exact (refuse_expired hq (hs.waits.2.1.sublist (hsub.map _)) _).ticketsRight hu
  · obtain ⟨h₁, h₂, h₃⟩ := scanGrant_quiet e { u with queue := older ++ rest }
    exact hu.shrink (.of_sublist (by rw [h₂, hq]; exact middle_sublist ..)) h₁ h₃

/-- An entry that leaves the queue in a scan by a grant. -/
def GrantedIn (s t : State) (e : QueueEntry) : Prop := ∃ k l, s.lease k = none ∧ GrantedTo t k l e

/-- What becomes of the entries and of the ticket notices in a scan: an entry stays, leaves with a notice of its own
ticket, or is granted. -/
structure ScanFlow (s t : State) : Prop where
  notice : ∀ p, ∀ x ∈ (t.map p).tickets,
    (∃ y ∈ (s.map p).tickets, y.ticket = x.ticket ∧ y.arrival = x.arrival)
      ∨ ∃ e ∈ s.queue, e.port = p ∧ e.ticket = x.ticket ∧ e.arrival = x.arrival
  kept : ∀ p, ∀ x ∈ (s.map p).tickets, ∃ y ∈ (t.map p).tickets, y.ticket = x.ticket ∧ y.arrival = x.arrival
  entry : ∀ e ∈ s.queue, e ∈ t.queue
    ∨ (∃ x ∈ (t.map e.port).tickets, x.ticket = e.ticket ∧ x.arrival = e.arrival) ∨ GrantedIn s t e

theorem scan_flow {s : State} (hs : Safe s) (h : TicketsRight s) : ScanFlow s (scan s) := by
  have key := scan_invariant (fun _ u => TicketsRight u ∧ ScanFlow s u)
    (start := ⟨h, fun p x hx => .inl ⟨x, hx, rfl, rfl⟩, fun p x hx => ⟨x, hx, rfl, rfl⟩, fun e he => .inl he⟩)
    (refuse := fun older e rest u he hsub hq hp hu => ?_) (grant := fun older e rest u he hsub hq hp hb hu => ?_)
    (stay := fun _ _ _ _ _ _ _ _ _ hu => hu)
  · exact key.1.2
  · obtain ⟨hr, hn, hk, hent⟩ := hu
    have x := refuse_expired hq (hs.waits.2.1.sublist (hsub.map _)) TicketKind.waitRefused
    refine ⟨x.ticketsRight hr, fun p y hy => ?_, fun p y hy => ?_, fun y hy => ?_⟩
    · rcases (x.notice hr p y).mp hy with ⟨rfl, rfl⟩ | hy
      · exact .inr ⟨e, hsub.subset x.there, rfl, rfl, rfl⟩
      · exact hn p y hy
    · obtain ⟨z, hz, h₁, h₂⟩ := hk p y hy
      exact ⟨z, (x.notice hr p z).mpr (.inr hz), h₁, h₂⟩
    · rcases hent y hy with hy | ⟨z, hz, h₁, h₂⟩ | ⟨k, l, hk, hg⟩
      · rw [hq] at hy
        by_cases hye : y = e
        · subst hye
          exact .inr (.inl ⟨_, (x.notice hr y.port _).mpr (.inl ⟨rfl, rfl⟩), rfl, rfl⟩)
        · refine .inl ?_
          simp only [List.mem_append, List.mem_cons, hye, false_or] at hy
          simpa using hy
      · exact .inr (.inl ⟨z, (x.notice hr y.port z).mpr (.inr hz), h₁, h₂⟩)
      · exact .inr (.inr ⟨k, l, hk, hg.keeps (refuse_examined ..).keeps⟩)
  · obtain ⟨hr, hn, hk, hent⟩ := hu
    obtain ⟨h₁, h₂, h₃⟩ := scanGrant_quiet e { u with queue := older ++ rest }
    refine ⟨hr.shrink (.of_sublist (by rw [h₂, hq]; exact middle_sublist ..)) h₁ h₃, fun p y hy => hn p y (h₃ p ▸ hy),
      fun p y hy => by rw [h₃]; exact hk p y hy, fun y hy => ?_⟩
    rcases hent y hy with hy | ⟨z, hz, g₁, g₂⟩ | ⟨k, l, hk, hg⟩
    · rw [hq] at hy
      by_cases hye : y = e
      · subst hye
        obtain ⟨-, ⟨k, hf⟩, -⟩ := blockedBy_none (s := { u with queue := older ++ rest }) hb
        refine .inr (.inr ⟨k, _, ?_, scanGrant_granted hf⟩)
        by_contra hne
        have hsome : (s.lease k).isSome := Option.isSome_iff_ne_none.mpr hne
        have : (u.lease k).isSome := by rw [he.keeps.lease k hsome]; exact hsome
        have hfree : u.lease k = none := freeSlot_none hf
        simp [hfree] at this
      · refine .inl ?_
        simp only [List.mem_append, List.mem_cons, hye, false_or] at hy
        rw [h₂]
        simpa using hy
    · exact .inr (.inl ⟨z, by rw [h₃]; exact hz, g₁, g₂⟩)
    · exact .inr (.inr ⟨k, l, hk, hg.keeps (grant_examined hb).keeps⟩)

/-! ## Generations (R2) -/

/-- A slot keeps its handle through a scan, or an entry has been granted the slot, and has left the queue. -/
def SlotScanned (s t : State) (k : Slot) : Prop :=
  t.handle k = s.handle k
    ∨ ∃ e ∈ s.queue, ∃ l, GrantedTo t k l e ∧ (t.handle k).gen = nextGen (s.handle k).gen
      ∧ ((s.queue.map fun e => (e.port, e.ticket)).Nodup → ∀ x ∈ t.queue, (x.port, x.ticket) ≠ (e.port, e.ticket))

theorem scan_slots (s : State) (k : Slot) : SlotScanned s (scan s) k := by
  refine (scan_invariant (fun _ u => SlotScanned s u k) (.inl rfl) (fun older e rest u _ _ hq _ hu => ?_)
    (fun older e rest u he hsub hq _ hb hu => ?_) fun _ _ _ _ _ _ _ _ _ hu => hu).1
  · rcases hu with hu | ⟨f, hf, l, hg, hgen, hout⟩
    · exact .inl ((refuse_handle ..).trans hu)
    · refine .inr ⟨f, hf, l, hg.keeps (refuse_examined ..).keeps,
        (congrArg Handle.gen (refuse_handle ..)).trans hgen, fun hd x hx => hout hd x ?_⟩
      have hx : x ∈ older ++ rest := by simpa using hx
      rw [hq]
      exact (middle_sublist ..).subset hx
  · obtain ⟨-, ⟨j, hj⟩, -⟩ := blockedBy_none (s := { u with queue := older ++ rest }) hb
    have hout' : ∀ x, x ∈ (scanGrant e { u with queue := older ++ rest }).queue → x ∈ u.queue := fun x hx => by
      have hx : x ∈ older ++ rest := by simpa using hx
      rw [hq]
      exact (middle_sublist ..).subset hx
    have hhandle : ∀ i, ((scanGrant e { u with queue := older ++ rest }).handle i).gen
        = if i = j then nextGen (u.handle i).gen else (u.handle i).gen := fun i => by
      rw [scanGrant_eq hj, postSlot_handle, grantInto_handle]
      dsimp only
      split
      · rename_i e
        rw [e]
        rfl
      · rfl
    rcases hu with hu | ⟨f, hf, l, hg, hgen, hout⟩
    · by_cases hkj : k = j
      · subst hkj
        refine .inr ⟨e, hsub.subset (by simp [hq]), _, scanGrant_granted hj, ?_, fun hd x hx hk => ?_⟩
        · rw [hhandle, if_pos rfl, hu]
        · have x' := refuse_expired (u := u) hq (hd.sublist (hsub.map _)) TicketKind.waitRefused
          rw [Prod.mk.injEq] at hk
          exact x'.gone x (by simpa using hx) hk.1 hk.2
      · refine .inl ?_
        have := hhandle k
        rw [if_neg hkj] at this
        calc (scanGrant e { u with queue := older ++ rest }).handle k
            = ⟨k, ((scanGrant e { u with queue := older ++ rest }).handle k).gen⟩ := rfl
          _ = u.handle k := by rw [this]; rfl
          _ = s.handle k := hu
    · refine .inr ⟨f, hf, l, hg.keeps (grant_examined hb).keeps, ?_, fun hd x hx => hout hd x (hout' x hx)⟩
      rw [hhandle, if_neg, hgen]
      rintro rfl
      have hfree : u.lease k = none := freeSlot_none hj
      rw [hg.record] at hfree
      cases hfree

end Sys2Proof.Machine

/-! PROOFS. What every row keeps of the agreements, the ranges, the waits, the tickets and the generations: the
terms, and how the two ways a step of the engine ends give them. -/

namespace Sys2Proof.Machine

/-- Where the generation of a slot comes from in a step (R2, R27, R29). -/
def GenFrom (asks : Port → LineSet → Prop) (s t : State) (k : Slot) : Prop :=
  (t.handle k).gen = (s.handle k).gen
    ∨ (t.handle k).gen = nextGen (s.handle k).gen ∧ ∃ l, t.lease k = some l ∧ l.state = .active
      ∧ ((asks l.holder l.lines ∧ l.origin = none)
        ∨ ∃ e ∈ s.queue, GrantedTo t k l e ∧ (Safe s → ∀ x ∈ t.queue, (x.port, x.ticket) ≠ (e.port, e.ticket)))

/-- What becomes of waiting entries and ticket notices in a row (R29, R33). Entries that are `lost` leave without a
trace, and `joins` says which entry the row adds. -/
structure RowFlow (lost : Port → Byte → Prop) (joins : Port → Prop) (s t : State) : Prop where
  notice : ∀ p, ∀ x ∈ (t.map p).tickets,
    (∃ y ∈ (s.map p).tickets, y.ticket = x.ticket ∧ y.arrival = x.arrival)
      ∨ ∃ e ∈ s.queue, e.port = p ∧ e.ticket = x.ticket ∧ e.arrival = x.arrival
  joined : ∀ x ∈ t.queue, (∃ e ∈ s.queue, SameEntry e x)
    ∨ (joins x.port ∧ x.arrival = s.arrivals ∧ t.queue = s.queue ++ [x])
  left : ∀ e ∈ s.queue, (∃ x ∈ t.queue, SameEntry e x)
    ∨ (∃ x ∈ (t.map e.port).tickets, x.ticket = e.ticket ∧ x.arrival = e.arrival)
    ∨ (∃ k l, GrantedTo t k l e) ∨ lost e.port e.ticket

/-- What a row of the part keeps, device reset apart. `lost` are the entries that may leave without a trace, and `asks`
the port and the lines of the REQUEST that the row takes. -/
structure Row (lost : Port → Byte → Prop) (asks : Port → LineSet → Prop) (s t : State) : Prop where
  safe : Safe s → Safe t
  ranges : RangesRight s → RangesRight t
  waits : EveryEntryWaits s → EveryEntryWaits t
  tickets : Safe s → TicketsRight s → TicketsRight t
  flow : Safe s → TicketsRight s → RowFlow lost (fun p => ∃ ls, asks p ls) s t
  gens : ∀ k, GenFrom asks s t k

section
variable {lost : Port → Byte → Prop} {asks : Port → LineSet → Prop} {s t u : State}

/-! ## Rows that leave the tables alone -/

theorem Still.fuller (h : Still s t) (hc : t.charters = s.charters) : Fuller s t where
  held n := by rw [h.heldBy]; exact id
  slots k hk := by rw [(h.lease k).isSome]; exact hk
  charters := hc
  occupied p := (h.occupied p).ge
  pat c := by rw [h.patTaken]; exact id
  guard g := by rw [h.guardTaken]; exact id

theorem Still.row (h : Still s t) (hc : t.charters = s.charters) (hr : RangesRight s → RangesRight t) :
    Row lost asks s t where
  safe := h.safe
  ranges := hr
  waits w := WaitsInOrder.mono (h.fuller hc) h.queue w
  tickets _ := h.ticketsRight
  flow _ _ :=
    { notice := fun p x hx => .inl ⟨x, h.tickets p ▸ hx, rfl, rfl⟩
      joined := fun _ hx => .inl (forall₂_mem_right h.queue hx)
      left := fun _ he => .inl (forall₂_mem_left h.queue he) }
  gens k := .inl (congrArg Handle.gen (h.handle k))

theorem Calm.row (h : Calm s t) : Row lost asks s t := h.still.row h.tame.charters h.tame.ranges

theorem Row.refl (s : State) : Row lost asks s s := (Calm.refl s).row

/-! ## What happens before and after a row's own work -/

theorem Safe.of_same (h : Same s t) (hs : Safe s) : Safe t := h.still.safe hs

theorem Same.ticketsRight (h : Same s t) (hs : TicketsRight s) : TicketsRight t := h.still.ticketsRight hs

/-- A row may be told from a state that differs in the windows alone, as a taken command's does. -/
theorem Row.before (a : Same s u) (c : Tame s u) (r : Row lost asks u t) : Row lost asks s t where
  safe h := r.safe (a.still.safe h)
  ranges h := r.ranges (c.ranges h)
  waits h := r.waits (WaitsInOrder.mono (a.still.fuller c.charters) a.still.queue h)
  tickets h g := r.tickets (a.still.safe h) (a.ticketsRight g)
  flow h g := by
    obtain ⟨hn, hj, hl⟩ := r.flow (a.still.safe h) (a.ticketsRight g)
    refine ⟨fun p x hx => ?_, fun x hx => ?_, fun e he => hl e (a.queue ▸ he)⟩
    · have := hn p x hx
      rwa [a.map, a.queue] at this
    · have := hj x hx
      rwa [a.queue, a.arrivals] at this
  gens k := by
    have := r.gens k
    unfold GenFrom at this ⊢
    rw [a.handle, a.queue] at this
    exact this.imp_right fun ⟨hg, l, hl, ha, ho⟩ => ⟨hg, l, hl, ha, ho.imp_right fun ⟨e, he, hgr, hs⟩ =>
      ⟨e, he, hgr, fun hsafe => hs (a.still.safe hsafe)⟩⟩

/-- A row may be followed by what leaves the tables alone, as a completion does. -/
theorem Row.after (r : Row lost asks s t) (a : Same t u) (c : Tame t u) : Row lost asks s u where
  safe h := a.still.safe (r.safe h)
  ranges h := c.ranges (r.ranges h)
  waits h := WaitsInOrder.mono (a.still.fuller c.charters) a.still.queue (r.waits h)
  tickets h g := a.ticketsRight (r.tickets h g)
  flow h g := by
    obtain ⟨hn, hj, hl⟩ := r.flow h g
    refine ⟨fun p x hx => hn p x (a.map p ▸ hx), fun x hx => ?_, fun e he => ?_⟩
    · rw [a.queue] at hx ⊢
      exact hj x hx
    · rw [a.queue, a.map]
      exact (hl e he).imp_right (.imp_right (.imp_left fun ⟨k, l, hg⟩ => ⟨k, l, hg.of_same a⟩))
  gens k := by
    unfold GenFrom
    rw [a.handle, a.lease, a.queue]
    exact (r.gens k).imp_right fun ⟨hg, l, hl, ha, ho⟩ => ⟨hg, l, hl, ha, ho.imp_right fun ⟨e, he, hgr, hs⟩ =>
      ⟨e, he, hgr.of_same a, hs⟩⟩

/-! ## Work followed by a queue scan -/

theorem Work.row_scan (w : Work lost s u) : Row lost asks s (scan u) where
  safe h := scan_safe (w.safe h)
  ranges h := (scan_examined u).tame.ranges (w.ranges h)
  waits _ := scan_waits u
  tickets h g := scan_ticketsRight (w.safe h) (w.tickets h g)
  flow h g := by
    have f := w.flow h g
    have sf := scan_flow (w.safe h) (w.tickets h g)
    refine ⟨fun p x hx => ?_, fun x hx => .inl (w.shrinks.mem ((scan_queue u).subset hx)), fun e he => ?_⟩
    · rcases sf.notice p x hx with ⟨y, hy, h₁, h₂⟩ | ⟨e, he, h₀, h₁, h₂⟩
      · rw [← h₁, ← h₂]
        exact f.notice p y hy
      · obtain ⟨e', he', hs⟩ := w.shrinks.mem he
        obtain ⟨ht, hp, -, -, ha⟩ := (sameEntry_iff ..).mp hs
        exact .inr ⟨e', he', hp.symm.trans h₀, ht.symm.trans h₁, ha.symm.trans h₂⟩
    · rcases f.entry e he with ⟨x, hx, hs⟩ | ⟨x, hx, h₁, h₂⟩ | hl
      · rcases sf.entry x hx with hx | ⟨y, hy, h₁, h₂⟩ | ⟨k, l, -, hg⟩
        · exact .inl ⟨x, hx, hs⟩
        · obtain ⟨ht, hp, -, -, ha⟩ := (sameEntry_iff ..).mp hs
          exact .inr (.inl ⟨y, hp ▸ hy, h₁.trans ht, h₂.trans ha⟩)
        · exact .inr (.inr (.inl ⟨k, l, hg.of_sameEntry hs⟩))
      · obtain ⟨y, hy, g₁, g₂⟩ := sf.kept e.port x hx
        exact .inr (.inl ⟨y, hy, g₁.trans h₁, g₂.trans h₂⟩)
      · exact .inr (.inr (.inr hl))
  gens k := by
    rcases scan_slots u k with hk | ⟨x, hx, l, hg, hgen, hout⟩
    · exact .inl (by rw [hk, w.handle])
    · obtain ⟨e, he, hs⟩ := w.shrinks.mem hx
      obtain ⟨ht, hp, -⟩ := (sameEntry_iff ..).mp hs
      refine .inr ⟨by rw [hgen, w.handle], l, hg.record, hg.active, .inr ⟨e, he, hg.of_sameEntry hs, fun hsafe => ?_⟩⟩
      rw [← hp, ← ht]
      exact hout (w.safe hsafe).waits.2.1

theorem Row.restart (r : Row lost asks s t) (b : State) : Row lost asks s (restartChecks b t) :=
  r.after (same_restartChecks b t) (tame_restartChecks b t)

theorem Work.row_endStepScan (w : Work lost s u) (b : State) : Row lost asks s (endStepScan b u) :=
  w.row_scan.restart b

/-! ## Work that may end without a scan -/

theorem scanTriggered_false (h : scanTriggered s t = false) :
    (∀ k, (s.lease k).isSome = true → (t.lease k).isSome = true)
      ∧ (∀ n, (vget s.heldBy n).isSome = true → (vget t.heldBy n).isSome = true)
      ∧ (∀ c, vget s.patTaken c = true → vget t.patTaken c = true)
      ∧ (∀ g, vget s.guardTaken g = true → vget t.guardTaken g = true)
      ∧ s.queue.length ≤ t.queue.length ∧ ∀ p, (s.portRec p).occupied ≤ (t.portRec p).occupied := by
  simp only [scanTriggered, lineHeld, Bool.or_eq_false_iff, List.any_eq_false, List.mem_finRange, forall_const,
    decide_eq_false_iff_not, Bool.and_eq_true, Bool.not_eq_true', not_and, Bool.not_eq_false, not_lt,
    decide_eq_true_eq] at h
  obtain ⟨⟨⟨⟨⟨⟨h₁, h₂⟩, h₃⟩, h₄⟩, h₅⟩, h₆⟩, -⟩ := h
  refine ⟨fun k hk => ?_, h₂, h₃, h₄, h₅, h₆⟩
  have := h₁ k hk
  rw [Option.isSome_iff_ne_none]
  intro hn
  simp [hn] at this

/-- Work that triggers no scan keeps every wait, for nothing that an entry waits for became free. -/
theorem Work.row_calm (w : Work lost s u) (hc : u.charters = s.charters) (h : scanTriggered s u = false) :
    Row lost asks s u where
  safe := w.safe
  ranges := w.ranges
  waits hw := by
    obtain ⟨h₁, h₂, h₃, h₄, h₅, h₆⟩ := scanTriggered_false h
    obtain ⟨m, hm, hq⟩ := w.shrinks
    have hlen : m = s.queue := hm.eq_of_length (Nat.le_antisymm hm.length_le (hq.length_eq ▸ h₅))
    exact WaitsInOrder.mono ⟨h₂, h₁, hc, h₆, h₃, h₄⟩ (hlen ▸ hq) hw
  tickets := w.tickets
  flow h g := by
    have f := w.flow h g
    exact ⟨f.notice, fun x hx => .inl (w.shrinks.mem hx), fun e he => (f.entry e he).imp_right (.imp_right .inr)⟩
  gens k := .inl (congrArg Handle.gen (w.handle k))

theorem Work.row_endStep (w : Work lost s u) (hc : u.charters = s.charters) : Row lost asks s (endStep s u) := by
  unfold endStep
  split
  · exact w.row_endStepScan s
  · rename_i h
    exact (w.row_calm hc (by simpa using h)).restart s

/-- A command is told by its body on the taken state. -/
theorem Row.command {s t : State} {i : Instr} {p : Port} {body : State → State × Reply} (h : command i p body s = .next t)
    (r : Row lost asks (s.take p) (body (s.take p)).1) : Row lost asks s t := by
  unfold Machine.command at h
  split at h
  · obtain rfl := (Host.Outcome.next.inj h).symm
    exact (r.before (same_take s p) (.of_eq rfl rfl rfl rfl)).after (same_complete ..) (.of_eq rfl rfl rfl rfl)
  · obtain rfl := Host.Outcome.next.inj h
    exact .refl s

end

end Sys2Proof.Machine

/-! PROOFS. REQUEST (R21 to R31): the step-5 checks, the ticket that is issued, and what the two outcomes keep. -/

namespace Sys2Proof.Machine

/-! ## The tickets (R31) -/

theorem nextGen_ne_zero (t : Byte) : nextGen t ≠ 0#8 := by
  unfold nextGen
  split
  · decide
  · rename_i h
    intro h0
    exact h (by bv_omega)

theorem nextGen_three (t : Byte) : [nextGen t, nextGen (nextGen t), nextGen (nextGen (nextGen t))].Nodup := by
  revert t
  decide

/-- The advance stops at the first value not in use, if the fuel lasts. -/
theorem advanceTicket_spec (inUse : List Byte) (fuel : Nat) (t : Byte) :
    ∃ j, j ≤ fuel ∧ advanceTicket inUse fuel t = nextGen^[j + 1] t
      ∧ (∀ i, i < j → nextGen^[i + 1] t ∈ inUse) ∧ (j < fuel → nextGen^[j + 1] t ∉ inUse) := by
  induction fuel generalizing t with
  | zero => exact ⟨0, le_refl 0, rfl, fun i hi => absurd hi (Nat.not_lt_zero i), fun h => absurd h (Nat.lt_irrefl 0)⟩
  | succ fuel ih =>
    by_cases h : nextGen t ∈ inUse
    · obtain ⟨j, hj, he, hi, ho⟩ := ih (nextGen t)
      refine ⟨j + 1, Nat.succ_le_succ hj, by rw [advanceTicket, if_pos h, he]; rfl, fun i hij => ?_,
        fun hl => ho (Nat.lt_of_succ_lt_succ hl)⟩
      cases i with
      | zero => exact h
      | succ i => exact hi i (Nat.lt_of_succ_lt_succ hij)
    · exact ⟨0, Nat.zero_le _, by rw [advanceTicket, if_neg h]; rfl, fun i hi => absurd hi (Nat.not_lt_zero i),
        fun _ => h⟩

/-- With at most two values in use the ticket is reached within three advances, and is not in use. -/
theorem advanceTicket_free {inUse : List Byte} (h : inUse.length ≤ 2) (t : Byte) :
    ∃ j, j ≤ 2 ∧ advanceTicket inUse 255 t = nextGen^[j + 1] t
      ∧ (∀ i, i < j → nextGen^[i + 1] t ∈ inUse) ∧ nextGen^[j + 1] t ∉ inUse := by
  obtain ⟨j, hj, he, hi, ho⟩ := advanceTicket_spec inUse 255 t
  have h2 : j ≤ 2 := by
    by_contra hc
    have hsub : [nextGen t, nextGen (nextGen t), nextGen (nextGen (nextGen t))] ⊆ inUse := by
      intro x hx
      simp only [List.mem_cons, List.not_mem_nil, or_false] at hx
      rcases hx with rfl | rfl | rfl
      · exact hi 0 (by omega)
      · exact hi 1 (by omega)
      · exact hi 2 (by omega)
    have := (List.subperm_of_subset (nextGen_three t) hsub).length_le
    simp only [List.length_cons, List.length_nil] at this
    omega
  exact ⟨j, h2, he, hi, ho (by omega)⟩

theorem ticketsInUse_length (s : State) (p : Port) : (ticketsInUse s p).length = waitBudget s p := by
  simp [ticketsInUse, waitBudget]

theorem nextTicket_spec {s : State} {p : Port} (h : waitBudget s p < 3) :
    ∃ j, j ≤ 2 ∧ nextTicket s p = nextGen^[j + 1] (s.portRec p).ticketCounter
      ∧ (∀ i, i < j → nextGen^[i + 1] (s.portRec p).ticketCounter ∈ ticketsInUse s p)
      ∧ nextTicket s p ∉ ticketsInUse s p := by
  obtain ⟨j, hj, he, hi, ho⟩ := advanceTicket_free (inUse := ticketsInUse s p)
    (by rw [ticketsInUse_length]; omega) (s.portRec p).ticketCounter
  exact ⟨j, hj, he, hi, by rwa [nextTicket, he]⟩

/-! ## Step 5 (R25) -/

theorem linesFree_iff (s : State) (r : Request) :
    ((linesOf r.lines).find? fun n => lineHeld s n || !(naming s.queue n).isEmpty) = none ↔ LinesFree s r := by
  simp only [List.find?_eq_none, linesOf_mem, lineHeld, naming, LinesFree, Bool.or_eq_true, not_or,
    Option.isSome_iff_ne_none, ne_eq, not_not, Bool.not_eq_true', Bool.not_eq_false, List.isEmpty_iff,
    List.filter_eq_nil_iff, Bool.not_eq_true]

/-- Step 5 lets a request pass when its lines are free, a slot is FREE and a channel of the kind is free. -/
theorem stepFiveRefusal_none_iff (s : State) (r : Request) :
    stepFiveRefusal s r = none ↔ LinesFree s r ∧ (∃ k, freeSlot? s = some k) ∧ channelFree s r = true := by
  unfold stepFiveRefusal
  rw [← linesFree_iff]
  split
  · rename_i n hn
    simp [hn]
  · rename_i hn
    simp [hn, firstFailure_none_iff, Option.isSome_iff_exists]

theorem freeSlot_eq_none (s : State) : freeSlot? s = none ↔ ∀ k, (s.lease k).isSome = true := by
  simp [freeSlot?, Option.isSome_iff_ne_none]

/-- A request that step 5 refuses would wait behind the whole queue. -/
theorem waits_of_refused {s : State} {e : QueueEntry} (h : stepFiveRefusal s e.request ≠ none) :
    Waits s s.queue e := by
  rw [ne_eq, stepFiveRefusal_none_iff] at h
  by_cases hl : LinesFree s e.request
  · by_cases hk : ∃ k, freeSlot? s = some k
    · exact .inr (.inr (.inr (by simpa [hl, hk] using h)))
    · exact .inr (.inl ((freeSlot_eq_none s).mp (by simpa [Option.eq_none_iff_forall_not_mem] using hk)))
  · simp only [LinesFree, not_forall, not_and_or] at hl
    obtain ⟨n, hn, hh | hh⟩ := hl
    · exact .inl ⟨n, hn, .inl (Option.isSome_iff_ne_none.mpr hh)⟩
    · simp only [Bool.not_eq_false] at hh
      obtain ⟨x, hx, hxn⟩ := hh
      exact .inl ⟨n, hn, .inr ⟨x, hx, hxn⟩⟩

/-! ## A request that waits (R26) -/

/-- The entry of a request that joins the queue. -/
def newEntry (p : Port) (a : Args) (r : Request) (s : State) : QueueEntry :=
  { ticket := nextTicket s p, port := p, args := a, request := r, waitRemaining := r.waitLimit,
    arrival := s.arrivals }

section
variable {lost : Port → Byte → Prop} {asks : Port → LineSet → Prop} {s : State} {p : Port} {a : Args} {r : Request}

theorem enqueue_queue : (enqueue p a r s).1.queue = s.queue ++ [newEntry p a r s] := rfl

/-- Joining the queue counts a ticket and a stamp, and leaves the tables alone. -/
theorem enqueue_portRec (q : Port) : (enqueue p a r s).1.portRec q
    = if q = p then { s.portRec p with ticketCounter := nextTicket s p } else s.portRec q := by
  change (s.setPortRec p _).portRec q = _
  rw [State.setPortRec_portRec]

theorem enqueue_safe (hq : s.queue.length < 8) (hb : waitBudget s p < 3) (h : Safe s) :
    Safe (enqueue p a r s).1 where
  held := h.held
  counts q := by
    rw [enqueue_portRec]
    refine Eq.trans ?_ (h.counts q)
    split
    · rename_i e
      rw [e]
    · rfl
  channels := h.channels
  waits := by
    obtain ⟨h₁, h₂, h₃⟩ := h.waits
    obtain ⟨j, -, -, -, hfresh⟩ := nextTicket_spec hb
    rw [QueueRight, enqueue_queue]
    refine ⟨by simp; omega, ?_, fun q => ?_⟩
    · rw [List.map_append, List.nodup_append]
      refine ⟨h₂, by simp, fun x hx y hy hxy => hfresh ?_⟩
      obtain ⟨e, he, rfl⟩ := List.mem_map.mp hx
      simp only [List.map_cons, List.map_nil, List.mem_singleton, newEntry] at hy
      rw [hy, Prod.mk.injEq] at hxy
      exact List.mem_append_left _ (List.mem_map.mpr ⟨e, by simp [waitingOf, he, hxy.1], hxy.2⟩)
    · have hw : waitBudget (enqueue p a r s).1 q = waitBudget s q + if q = p then 1 else 0 := by
        unfold waitBudget waitingOf
        rw [enqueue_queue, List.filter_append]
        change _ + (s.map q).tickets.length = _
        by_cases hqp : q = p
        · simp [newEntry, hqp]
          omega
        · simp [newEntry, hqp, Ne.symm hqp]
      rw [hw]
      split
      · rename_i e
        subst e
        omega
      · exact h₃ q

theorem enqueue_ticketsRight (hb : waitBudget s p < 3) (h : TicketsRight s) :
    TicketsRight (enqueue p a r s).1 where
  queue := by
    rw [enqueue_queue, List.map_append, List.pairwise_append]
    refine ⟨h.queue, by simp, fun x hx y hy => ?_⟩
    obtain ⟨e, he, rfl⟩ := List.mem_map.mp hx
    simp only [List.map_cons, List.map_nil, List.mem_singleton, newEntry] at hy
    subst hy
    exact h.queueBefore e he
  queueBefore x hx := by
    change x.arrival < s.arrivals + 1
    rw [enqueue_queue, List.mem_append, List.mem_singleton] at hx
    rcases hx with hx | rfl
    · exact Nat.lt_succ_of_lt (h.queueBefore x hx)
    · exact Nat.lt_succ_self _
  notices := h.notices
  noticesBefore q x hx := Nat.lt_succ_of_lt (h.noticesBefore q x hx)
  distinct := h.distinct
  apart q x hx y hy hp := by
    have hx : x ∈ (s.map q).tickets := hx
    rw [enqueue_queue, List.mem_append, List.mem_singleton] at hy
    rcases hy with hy | rfl
    · exact h.apart q x hx y hy hp
    · obtain ⟨j, -, -, -, hfresh⟩ := nextTicket_spec hb
      have hqp : p = q := hp
      subst hqp
      refine ⟨fun ht => hfresh (List.mem_append_right _ (List.mem_map.mpr ⟨x, hx, ht.symm⟩)), ?_⟩
      exact (h.noticesBefore p x hx).ne'

theorem enqueue_row (hq : s.queue.length < 8) (hb : waitBudget s p < 3)
    (hp : permits (s.charter p) r = true) (hw : stepFiveRefusal s r ≠ none) (ha : ∃ ls, asks p ls) :
    Row lost asks s (enqueue p a r s).1 where
  safe := enqueue_safe hq hb
  ranges h := (Tame.of_eq rfl rfl rfl rfl : Tame s (enqueue p a r s).1).ranges h
  waits h := by
    have h : WaitsInOrder s (s.queue ++ [newEntry p a r s]) := h.snoc hp (waits_of_refused hw)
    have full : Fuller s (enqueue p a r s).1 := by
      refine ⟨fun _ => id, fun _ => id, rfl, fun q => ?_, fun _ => id, fun _ => id⟩
      rw [enqueue_portRec]
      split
      · rename_i e
        rw [e]
      · exact le_refl _
    exact WaitsInOrder.mono full (sameEntries_refl _) h
  tickets _ := enqueue_ticketsRight hb
  flow _ _ :=
    { notice := fun q x hx => .inl ⟨x, hx, rfl, rfl⟩
      joined := fun x hx => by
        rw [enqueue_queue, List.mem_append, List.mem_singleton] at hx
        rcases hx with hx | rfl
        · exact .inl ⟨x, hx, .refl x⟩
        · exact .inr ⟨ha, rfl, rfl⟩
      left := fun e he => .inl ⟨e, List.mem_append_left _ he, .refl e⟩ }
  gens _ := .inl rfl

/-! ## A request that is granted (R27) -/

theorem directGrant_eq {k : Slot} (h : freeSlot? s = some k) : directGrant p r s =
    (restartChecks s (grantInto k p r none s),
      Reply.ok (bHandle ((grantInto k p r none s).handle k)
        ++ b2 (if r.pinned then (0, false) else grantTerm (s.charter p) r).1
        ++ bFlag (if r.pinned then (0, false) else grantTerm (s.charter p) r).2)) := by
  unfold directGrant
  rw [h]

theorem grantInto_row {k : Slot} (hk : freeSlot? s = some k) (hl : LinesFree s r) (hc : channelFree s r = true)
    (ha : asks p r.lines) : Row lost asks s (grantInto k p r none s) where
  safe := grantInto_safe _ (freeSlot_none hk) (fun n hn => (hl n hn).1) hc
  ranges := (grantInto_tame ..).ranges
  waits h := by
    have := WaitsInOrder.mono (grantInto_fuller (k := k) (p := p) (r := r) none) (sameEntries_refl _) h
    unfold EveryEntryWaits
    rwa [(grantInto_frame ..).2.1]
  tickets _ h := h.shrink (.of_sublist (by simp)) (by simp) (by simp)
  flow _ _ :=
    { notice := fun q x hx => .inl ⟨x, by simpa using hx, rfl, rfl⟩
      joined := fun x hx => .inl ⟨x, by simpa using hx, .refl x⟩
      left := fun e he => .inl ⟨e, by simpa using he, .refl e⟩ }
  gens j := by
    unfold GenFrom
    rw [grantInto_handle, grantInto_lease]
    by_cases hj : j = k
    · subst hj
      refine .inr ⟨by simp, grantRecord s p r none, by simp, rfl, .inl ⟨ha, rfl⟩⟩
    · exact .inl (by simp [hj])

/-! ## REQUEST -/

theorem notNow_row {refusal : Reply} (hp : permits (s.charter p) r = true) (hw : stepFiveRefusal s r ≠ none)
    (ha : ∃ ls, asks p ls) : Row lost asks s (notNow p a r refusal s).1 := by
  unfold notNow
  split
  · exact .refl s
  · split
    · exact .refl s
    · rename_i h
      simp only [firstFailure_none_iff, List.mem_cons, List.not_mem_nil, or_false, forall_eq_or_imp, forall_eq,
        decide_eq_false_iff_not, not_le] at h
      exact enqueue_row h.1 h.2 hp hw ha

theorem requestBody_row (ha : asks p (Req.read (s.args p)).lines) : Row lost asks s (requestBody p s).1 := by
  unfold requestBody
  dsimp only
  split
  · exact .refl s
  · rename_i h
    have hp : permits (s.charter p) (Req.read (s.args p)) = true := by
      have := firstFailure_none h (!permits (s.charter p) (Req.read (s.args p)), Reply.bare .notPermitted) (by simp)
      simpa using this
    split
    · rename_i h5
      exact notNow_row hp (by simp [h5]) ⟨_, ha⟩
    · rename_i h5
      obtain ⟨hl, ⟨k, hk⟩, hc⟩ := (stepFiveRefusal_none_iff ..).mp h5
      rw [directGrant_eq hk]
      exact (grantInto_row hk hl hc ha).restart s

end

end Sys2Proof.Machine

/-! PROOFS. What the rows of the commands keep, and the rows of the engine's ticks and reports. -/

namespace Sys2Proof.Machine

/-! ## The rows by name (section 10.3) -/

theorem exec_request (p : Port) (s : State) : exec (.request p) s = command (.request p) p (requestBody p) s := rfl
theorem exec_cancelWait (p : Port) (s : State) :
    exec (.cancelWait p) s = command (.cancelWait p) p (cancelWaitBody p) s := rfl
theorem exec_queryQueue (p : Port) (s : State) :
    exec (.queryQueue p) s = command (.queryQueue p) p (queryQueueBody p) s := rfl
theorem exec_queryLease (p : Port) (s : State) :
    exec (.queryLease p) s = command (.queryLease p) p (queryLeaseBody p) s := rfl
theorem exec_lookupLine (p : Port) (s : State) :
    exec (.lookupLine p) s = command (.lookupLine p) p (lookupLineBody p) s := rfl
theorem exec_renew (p : Port) (s : State) : exec (.renew p) s = command (.renew p) p (renewBody p) s := rfl
theorem exec_release (p : Port) (s : State) : exec (.release p) s = command (.release p) p (releaseBody p) s := rfl
theorem exec_revoke (p : Port) (s : State) : exec (.revoke p) s = command (.revoke p) p (revokeBody p) s := rfl
theorem exec_offer (p : Port) (s : State) : exec (.offer p) s = command (.offer p) p (offerBody p) s := rfl
theorem exec_accept (p : Port) (s : State) : exec (.accept p) s = command (.accept p) p (acceptBody p) s := rfl
theorem exec_setGuard (p : Port) (s : State) :
    exec (.setGuard p) s = command (.setGuard p) p (setGuardBody p) s := rfl
theorem exec_setLevels (p : Port) (s : State) :
    exec (.setLevels p) s = command (.setLevels p) p (setLevelsBody p) s := rfl
theorem exec_restartPattern (p : Port) (s : State) :
    exec (.restartPattern p) s = command (.restartPattern p) p (restartPatternBody p) s := rfl
theorem exec_readLevels (p : Port) (s : State) :
    exec (.readLevels p) s = command (.readLevels p) p (readLevelsBody p) s := rfl
theorem exec_clearFault (p : Port) (s : State) :
    exec (.clearFault p) s = command (.clearFault p) p (clearFaultBody p) s := rfl
theorem exec_setLineProfile (p : Port) (s : State) :
    exec (.setLineProfile p) s = command (.setLineProfile p) p (setLineProfileBody p) s := rfl
theorem exec_setCharter (p : Port) (s : State) :
    exec (.setCharter p) s = command (.setCharter p) p (setCharterBody p) s := rfl
theorem exec_nextNotice (p : Port) (s : State) :
    exec (.nextNotice p) s = command (.nextNotice p) p (nextNoticeBody p) s := rfl
theorem exec_ackNotice (p : Port) (s : State) :
    exec (.ackNotice p) s = command (.ackNotice p) p (ackNoticeBody p) s := rfl
theorem exec_unknownCommand (p : Port) (s : State) :
    exec (.unknownCommand p) s = command (.unknownCommand p) p (fun s => refuse s .unknownCommand) s := rfl
theorem exec_resetPort (p : Port) (s : State) : exec (.resetPort p) s
    = if takes s (.resetPort p) p then .next (resetPortStep p (s.take p)) else .next s := rfl

/-! ## Handles -/

theorem checkHandle_ok {s : State} {a b : Byte} {k : Slot} {l : Lease} (h : checkHandle s a b = .ok (k, l)) :
    slotOf a = some k ∧ s.lease k = some l ∧ (s.handle k).gen = b := by
  unfold checkHandle at h
  split at h
  · cases h
  · rename_i j hj
    split at h
    · cases h
    · rename_i m hm
      split at h
      · rename_i hg
        cases h
        exact ⟨hj, hm, hg⟩
      · cases h

theorem checkHolder_ok {s : State} {p : Port} {a b : Byte} {k : Slot} {l : Lease}
    (h : checkHolder s p a b = .ok (k, l)) :
    slotOf a = some k ∧ s.lease k = some l ∧ (s.handle k).gen = b ∧ l.holder = p := by
  unfold checkHolder at h
  split at h
  · cases h
  · rename_i j m hm
    split at h
    · rename_i hp
      cases h
      obtain ⟨h₁, h₂, h₃⟩ := checkHandle_ok hm
      exact ⟨h₁, h₂, h₃, hp⟩
    · cases h

theorem Work.mono {lost lost' : Port → Byte → Prop} {s t : State} (w : Work lost s t)
    (h : ∀ p n, lost p n → lost' p n) : Work lost' s t :=
  { w with
    flow := fun a b =>
      { notice := (w.flow a b).notice
        kept := fun p x hx => ((w.flow a b).kept p x hx).imp_right fun g n => h p n (g n)
        entry := fun e he => ((w.flow a b).entry e he).imp_right (.imp_right (h _ _)) } }

section
variable {lost : Port → Byte → Prop} {asks : Port → LineSet → Prop}

/-! ## Commands on leases -/

theorem renewBody_row (p : Port) (s : State) : Row lost asks s (renewBody p s).1 := by
  unfold renewBody
  dsimp only
  split
  · exact .refl s
  · rename_i k l h
    obtain ⟨-, hk, -⟩ := checkHolder_ok h
    split
    · exact .refl s
    · split
      · exact .refl s
      · split
        · exact .refl s
        · exact (calm_renewLease _ _ hk).row

theorem releaseBody_row (p : Port) (s : State) : Row lost asks s (releaseBody p s).1 := by
  unfold releaseBody
  dsimp only
  split
  · exact .refl s
  · split
    · exact (retire_work ..).row_endStep (by simp)
    · exact .refl s

theorem freeClosed_work {s : State} {k : Slot} {l : Lease} {r : CloseReason} (hk : s.lease k = some l)
    (hl : l.state = .closed r) (p : Port) (kd : KindSet) : Work lost s (freeRecord k (dropSlotKinds p k kd s)) :=
  Work.trans (t := dropSlotKinds p k kd s) (calm_dropSlotKinds p k kd s).work
    (freeRecord_work (l := l) (by simpa using hk) (by simp [hl, LeaseState.isClosed]))

theorem revokeBody_row (p : Port) (s : State) : Row lost asks s (revokeBody p s).1 := by
  unfold revokeBody
  dsimp only
  split
  · exact .refl s
  · split
    · exact .refl s
    · rename_i k l h
      obtain ⟨-, hk, -⟩ := checkHandle_ok h
      have retired : Row lost asks s
          (endStep s (postSlot l.holder k SlotKind.revoked .none (retire k .revoked s))) :=
        ((retire_work ..).trans (calm_postSlot ..).work).row_endStep (by simp)
      split
      · exact .refl s
      · rename_i r hr
        exact (freeClosed_work hk hr _ _).row_endStep (by simp)
      · exact retired
      · exact retired
      · exact retired

theorem offerBody_row (p : Port) (s : State) : Row lost asks s (offerBody p s).1 := by
  unfold offerBody
  dsimp only
  split
  · exact .refl s
  · rename_i k l h
    obtain ⟨-, hk, -⟩ := checkHolder_ok h
    split
    · exact .refl s
    · rename_i target _
      split
      · exact .refl s
      · rename_i hf
        have ha : l.state.isActive = true := by
          simpa using firstFailure_none hf (!l.state.isActive, .wrongState) (by simp)
        have hst : l.state = .active := by
          cases hs : l.state <;> simp [hs, LeaseState.isActive] at ha
          rfl
        have hm : Alike l { l with state := .handover target Config.offerWindow } := by
          constructor <;> simp [hst, LeaseState.isClosed, LeaseState.live]
        exact ((calm_setLease hk hm).trans (calm_postSlot ..)).row

theorem offeredToPort_live {l : Lease} {p : Port} (h : offeredToPort l p = true) : l.state.live = true := by
  unfold offeredToPort at h
  split at h <;> simp_all [LeaseState.live]

theorem transfer_charters (p : Port) (k : Slot) (l : Lease) (s : State) : (transfer p k l s).charters = s.charters := by
  unfold transfer edgeToNewHolder
  split
  · split <;> simp
  · simp

theorem acceptBody_row (p : Port) (s : State) : Row lost asks s (acceptBody p s).1 := by
  unfold acceptBody
  dsimp only
  split
  · exact .refl s
  · rename_i k l h
    obtain ⟨-, hk, -⟩ := checkHandle_ok h
    split
    · exact .refl s
    · rename_i hf
      have hl : offeredToPort l p = true := by
        simpa using firstFailure_none hf (!offeredToPort l p, .notOffered) (by simp)
      exact (transfer_work hk (offeredToPort_live hl)).row_endStep (transfer_charters ..)

theorem declineBody_row (p : Port) (s : State) : Row lost asks s (declineBody p s).1 := by
  unfold declineBody
  dsimp only
  split
  · exact .refl s
  · split
    · exact ((calm_endOffer ..).trans (calm_postSlot ..)).row
    · exact .refl s

theorem withdrawBody_row (p : Port) (s : State) : Row lost asks s (withdrawBody p s).1 := by
  unfold withdrawBody
  dsimp only
  split
  · exact .refl s
  · split
    · exact (calm_withdrawOffer ..).row
    all_goals exact .refl s

theorem setGuardBody_row (p : Port) (s : State) : Row lost asks s (setGuardBody p s).1 := by
  unfold setGuardBody
  dsimp only
  split
  · exact .refl s
  · rename_i k l h
    obtain ⟨-, hk, -⟩ := checkHolder_ok h
    split
    · exact .refl s
    · split
      · rename_i hp
        exact (calm_setArmed hk hp _).row
      all_goals exact .refl s

theorem setLevelsBody_row (p : Port) (s : State) : Row lost asks s (setLevelsBody p s).1 := by
  unfold setLevelsBody
  dsimp only
  split
  · exact .refl s
  · rename_i k l h
    obtain ⟨-, hk, -⟩ := checkHolder_ok h
    split
    · split
      · rename_i hp
        exact (calm_replaceLevels hk hp).row
      all_goals exact .refl s
    · exact .refl s

theorem restartPatternBody_row (p : Port) (s : State) : Row lost asks s (restartPatternBody p s).1 := by
  unfold restartPatternBody
  dsimp only
  split
  · exact .refl s
  · split
    · split
      · exact (calm_tellPattern ..).row
      all_goals exact .refl s
    · exact .refl s

theorem readLevelsBody_row (p : Port) (s : State) : Row lost asks s (readLevelsBody p s).1 := by
  unfold readLevelsBody
  dsimp only
  split
  · exact .refl s
  · rename_i k l h
    obtain ⟨-, hk, -⟩ := checkHolder_ok h
    split
    · exact .refl s
    · dsimp only
      split
      · exact (calm_takeChanged _ hk).row
      · exact .refl s

theorem clearFaultBody_row (p : Port) (s : State) : Row lost asks s (clearFaultBody p s).1 := by
  unfold clearFaultBody
  dsimp only
  split
  · exact .refl s
  · rename_i k l h
    obtain ⟨-, hk, -⟩ := checkHolder_ok h
    split
    · exact (calm_clearFaults _ hk).row
    · exact .refl s

/-! ## Commands on the queue, and lookups -/

theorem cancelWaitBody_row (p : Port) (s : State) (hl : lost p (argByte (s.args p) 0x04)) :
    Row lost asks s (cancelWaitBody p s).1 := by
  unfold cancelWaitBody
  dsimp only
  split
  · refine Work.row_endStep (filter_work _ fun e _ he => ?_) rfl
    simp only [Bool.not_eq_false', Bool.and_eq_true, decide_eq_true_eq] at he
    rw [he.1, he.2]
    exact hl
  · exact .refl s

theorem queryQueueBody_state (p : Port) (s : State) : (queryQueueBody p s).1 = s := by
  unfold queryQueueBody
  dsimp only
  split
  · rfl
  · split
    · rfl
    · split <;> rfl

theorem queryLeaseBody_state (p : Port) (s : State) : (queryLeaseBody p s).1 = s := by
  unfold queryLeaseBody
  dsimp only
  split
  · rfl
  · split
    · rfl
    · split <;> rfl

theorem lookupLineBody_state (p : Port) (s : State) : (lookupLineBody p s).1 = s := by
  unfold lookupLineBody
  split <;> rfl

theorem readCharterBody_state (p : Port) (s : State) : (readCharterBody p s).1 = s := by
  unfold readCharterBody
  split
  · rfl
  · split <;> rfl

theorem nextNoticeBody_state (p : Port) (s : State) : (nextNoticeBody p s).1 = s := by
  unfold nextNoticeBody
  split <;> rfl

theorem row_of_state_eq {s t : State} (h : t = s) : Row lost asks s t := by
  rw [h]
  exact .refl s

/-! ## Charters and profiles -/

theorem charterOf_ranges {a : Args} (h : (charterFaults a).any id = false) (policy : FaultPolicy) :
    let c := charterOf a policy
    c.leaseLimit ≤ 24 ∧ 1 ≤ c.maxTerm ∧ c.maxTerm ≤ 6000 ∧ c.grace ≤ 200 ∧ c.warn ≤ 255 := by
  simp only [charterFaults, List.any_cons, List.any_nil, id_eq, Bool.or_false, Bool.or_eq_false_iff,
    decide_eq_false_iff_not, not_lt, beq_eq_false_iff_ne] at h
  obtain ⟨h₁, h₂, h₃, h₄, -⟩ := h
  refine ⟨h₁, Nat.one_le_iff_ne_zero.mpr h₂, h₃, h₄, ?_⟩
  exact Nat.le_of_lt_succ (argByte a 0x0B).isLt

theorem writeCharter_still (t : Port) (c : Charter) (s : State) : Still s (writeCharter t c s) := by
  have h₁ : Same s { s with charters := vset s.charters t c } := ⟨rfl, rfl, rfl, rfl, rfl, rfl, rfl, rfl⟩
  exact (h₁.still.trans (forSlots_calm (calm_flagRecord t c) _).still).trans (calm_postPort ..).still

theorem writeCharter_ranges {t : Port} {c : Charter} {s : State}
    (hc : c.leaseLimit ≤ 24 ∧ 1 ≤ c.maxTerm ∧ c.maxTerm ≤ 6000 ∧ c.grace ≤ 200 ∧ c.warn ≤ 255)
    (h : RangesRight s) : RangesRight (writeCharter t c s) := by
  have h₁ : RangesRight { s with charters := vset s.charters t c } := by
    refine ⟨fun p => ?_, h.profiles, h.cells, h.stalls⟩
    rw [State.charter, vget_vset]
    split
    · exact hc
    · exact h.charters p
  exact ((forSlots_calm (calm_flagRecord t c) _).trans (calm_postPort ..)).tame.ranges h₁

theorem setCharterBody_row (p : Port) (s : State) : Row lost asks s (setCharterBody p s).1 := by
  unfold setCharterBody
  dsimp only
  split
  · exact .refl s
  · split
    · split
      · exact .refl s
      · rename_i hf
        exact ((writeCharter_still ..).work
          (writeCharter_ranges (charterOf_ranges (by simpa using hf) _))).row_endStepScan s
    · exact .refl s
    · exact .refl s

theorem writeProfile_same (n : Line) (f : Profile) (s : State) : Same s (writeProfile n f s) := by
  unfold writeProfile
  exact Same.mk (by simp) (by simp) (by simp) (by simp) (by simp) (by simp) (by simp) (by simp)

theorem writeProfile_ranges {n : Line} {f : Profile} {s : State} (hf : f.debounce ≤ 31 ∧ f.settle ≤ 255)
    (h : RangesRight s) : RangesRight (writeProfile n f s) := by
  unfold writeProfile
  refine (tame_restartChecks ..).ranges ⟨fun p => ?_, fun m => ?_, fun m => ?_, fun p => ?_⟩
  · exact h.charters p
  · rw [State.setCell_profile, State.setProfile_profile]
    split
    · exact hf
    · exact h.profiles m
  · rw [State.setCell_cell]
    obtain ⟨-, h₂, h₃⟩ := h.cells n
    split
    · dsimp only
      split
      · exact ⟨Nat.zero_le _, h₂, h₃⟩
      · exact ⟨Nat.zero_le _, Nat.zero_le _, h₃⟩
    · exact h.cells m
  · exact h.stalls p

theorem setLineProfileBody_row (p : Port) (s : State) : Row lost asks s (setLineProfileBody p s).1 := by
  unfold setLineProfileBody
  dsimp only
  split
  · exact .refl s
  · split
    · split
      · exact .refl s
      · rename_i h
        rw [not_or, not_lt] at h
        refine (writeProfile_same ..).still.row (by simp [writeProfile]) (writeProfile_ranges ⟨h.1, ?_⟩)
        exact Nat.le_of_lt_succ (argByte (s.args p) 0x07).isLt
    · exact .refl s
    · exact .refl s

/-! ## RESET_PORT -/

theorem resetPortStep_row (p : Port) (s : State)
    (hl : ∀ t n, portOf (argByte (s.args p) 0x04) = some t → lost t n) : Row lost asks s (resetPortStep p s) := by
  have done : ∀ (u : State) (r : Reply), Row lost asks s u → Row lost asks s (u.complete p r) :=
    fun u r h => h.after (same_complete ..) (.of_eq rfl rfl rfl rfl)
  unfold resetPortStep
  split
  · exact done s _ (.refl s)
  · rename_i t ht
    split
    · exact done s _ (.refl s)
    · have w : Work lost s (resetPortEffect t s) := by
        refine (resetPortEffect_work t s).mono fun q n e => ?_
        rw [e]
        exact hl t n ht
      dsimp only
      split
      · exact w.row_endStepScan s
      · exact done _ _ (w.row_endStepScan s)

/-! ## ACK_NOTICE -/

theorem removeTicket_keys (m : NoticeMap) (t : Byte) (kd : KindSet) :
    List.Sublist ((m.removeTicket t kd).tickets.map fun x => (x.ticket, x.arrival))
      (m.tickets.map fun x => (x.ticket, x.arrival)) := by
  unfold NoticeMap.removeTicket
  dsimp only
  generalize m.tickets = L
  induction L with
  | nil => exact .refl _
  | cons x L ih =>
    rw [List.filterMap_cons]
    split
    · exact ih.trans (List.sublist_cons_self ..)
    · rename_i y hy
      have hxy : (y.ticket, y.arrival) = (x.ticket, x.arrival) := by
        split at hy
        · split at hy
          · cases hy
          · cases hy
            rfl
        · cases hy
          rfl
      simp only [List.map_cons, hxy]
      exact ih.cons_cons _

/-- Removing ticket notices of a port's map keeps what the tables say. -/
theorem removeTicket_row (p : Port) (t : Byte) (kd : KindSet) (s : State) :
    Row lost asks s (s.setMap p ((s.map p).removeTicket t kd)) := by
  have sub : ∀ q, List.Sublist (((s.setMap p ((s.map p).removeTicket t kd)).map q).tickets.map
      fun x => (x.ticket, x.arrival)) ((s.map q).tickets.map fun x => (x.ticket, x.arrival)) := fun q => by
    rw [State.setMap_map]
    split
    · rename_i e
      rw [e]
      exact removeTicket_keys ..
    · exact .refl _
  have mem : ∀ q, ∀ x ∈ ((s.setMap p ((s.map p).removeTicket t kd)).map q).tickets,
      ∃ y ∈ (s.map q).tickets, y.ticket = x.ticket ∧ y.arrival = x.arrival := fun q x hx => by
    obtain ⟨y, hy, he⟩ := List.mem_map.mp ((sub q).subset (List.mem_map.mpr ⟨x, hx, rfl⟩))
    rw [Prod.mk.injEq] at he
    exact ⟨y, hy, he⟩
  have arr : ∀ q, List.Sublist (((s.setMap p ((s.map p).removeTicket t kd)).map q).tickets.map (·.arrival))
      ((s.map q).tickets.map (·.arrival)) := fun q => by
    have := (sub q).map Prod.snd
    rw [List.map_map, List.map_map] at this
    exact this
  have tic : ∀ q, List.Sublist (((s.setMap p ((s.map p).removeTicket t kd)).map q).tickets.map (·.ticket))
      ((s.map q).tickets.map (·.ticket)) := fun q => by
    have := (sub q).map Prod.fst
    rw [List.map_map, List.map_map] at this
    exact this
  exact
    { safe := fun h => ⟨h.held, h.counts, h.channels, h.waits.of_keys (.refl _) fun q =>
        Nat.add_le_add_left (by simpa using (arr q).length_le) _⟩
      ranges := (Tame.of_eq rfl rfl rfl rfl : Tame s (s.setMap p _)).ranges
      waits := fun h => h
      tickets := fun _ h =>
        { queue := h.queue, queueBefore := h.queueBefore
          notices := fun q => (h.notices q).sublist (arr q)
          noticesBefore := fun q x hx => by
            obtain ⟨y, hy, -, ha⟩ := mem q x hx
            exact ha ▸ h.noticesBefore q y hy
          distinct := fun q => (h.distinct q).sublist (tic q)
          apart := fun q x hx e he hp => by
            obtain ⟨y, hy, ht, ha⟩ := mem q x hx
            exact ht ▸ ha ▸ h.apart q y hy e he hp }
      flow := fun _ _ =>
        { notice := fun q x hx => .inl (mem q x hx)
          joined := fun x hx => .inl ⟨x, hx, .refl x⟩
          left := fun e he => .inl ⟨e, he, .refl e⟩ }
      gens := fun _ => .inl rfl }

theorem ackSlot_charters (p : Port) (k : Slot) (e : SlotNotice) (nm : KindSet) (s : State) :
    (ackSlot p k e nm s).charters = s.charters := by
  have edge : ∀ (g : Byte) (u : State), (ackEdge p k g u).charters = u.charters := fun g u => by
    unfold ackEdge
    split
    · split <;> rfl
    · rfl
  have ret : ∀ (g : Byte) (u : State), (ackRetired p k g u).charters = u.charters := fun g u => by
    unfold ackRetired
    split
    · split <;> simp
    · rfl
  unfold ackSlot
  dsimp only
  split <;> split <;> simp [edge, ret]

theorem ackOn_row (p : Port) (gen : Byte) (nm : KindSet) (s : State) (x : Subject) :
    Row lost asks s (ackOn p gen nm s x).1 := by
  cases x with
  | port =>
    simp only [ackOn]
    split
    · exact .refl s
    · exact Calm.row (t := s.setMap p _) (calm_setMap rfl)
  | line n =>
    simp only [ackOn]
    split
    · exact Calm.row (t := s.setMap p _) (calm_setMap rfl)
    · exact .refl s
  | slot k =>
    simp only [ackOn]
    split
    · exact .refl s
    · split
      · exact .refl s
      · split
        · exact .refl s
        · exact (ackSlot_work ..).row_endStep (ackSlot_charters ..)
  | ticket t =>
    simp only [ackOn]
    split
    · exact .refl s
    · exact removeTicket_row ..

theorem ackNoticeBody_row (p : Port) (s : State) : Row lost asks s (ackNoticeBody p s).1 := by
  unfold ackNoticeBody
  dsimp only
  split
  · exact .refl s
  · split
    · exact .refl s
    · exact ackOn_row ..

end

end Sys2Proof.Machine

/-! PROOFS. What the rows of the channels, the line bank, the bus, the ticks and the reports keep; the invariants of
every step. -/

namespace Sys2Proof.Machine

/-! ## The sequencer and the guard monitor -/

theorem calm_setPatChan (s : State) (c : PatChan) (x : Option PatternChannel) : Calm s (s.setPatChan c x) :=
  Same.calm ⟨rfl, rfl, rfl, rfl, rfl, rfl, rfl, rfl⟩ (.of_eq rfl rfl rfl rfl)

theorem calm_setGuardChan (s : State) (g : GuardChan) (x : Option GuardChannel) : Calm s (s.setGuardChan g x) :=
  Same.calm ⟨rfl, rfl, rfl, rfl, rfl, rfl, rfl, rfl⟩ (.of_eq rfl rfl rfl rfl)

theorem calm_report (s : State) (r : Report) : Calm s (s.report r) :=
  Same.calm ⟨rfl, rfl, rfl, rfl, rfl, rfl, rfl, rfl⟩ (.of_eq rfl rfl rfl rfl)

theorem calm_reports (s : State) (r : List Report) : Calm s { s with reports := r } :=
  Same.calm ⟨rfl, rfl, rfl, rfl, rfl, rfl, rfl, rfl⟩ (.of_eq rfl rfl rfl rfl)

theorem tame_vmap {s : State} {f : Line → Cell → Cell} (h : ∀ n c, (f n c).stability = c.stability
    ∧ (f n c).mismatch = c.mismatch ∧ (f n c).settle = c.settle) : Tame s { s with cells := vmap f s.cells } where
  charters := rfl
  profiles := rfl
  buses := rfl
  cells n := by
    simp only [State.cell, vget_vmap]
    obtain ⟨h₁, h₂, h₃⟩ := h n (vget s.cells n)
    exact ⟨h₁, .inl h₂, .inl h₃⟩

theorem calm_applyLevels (h : Handle) (may : Lease → Bool) (lv : Line → Level) (s : State) :
    Calm s (applyLevels h may lv s) := by
  refine Same.calm ⟨by simp, by simp, by simp, by simp, by simp, by simp, by simp, by simp⟩ ?_
  unfold applyLevels
  split
  · split
    · refine (tame_vmap fun n c => ?_).trans (tame_restartChecks ..)
      split <;> exact ⟨rfl, rfl, rfl⟩
    · exact .refl s
  · exact .refl s

theorem calm_beginStep (c : PatChan) (ch : PatternChannel) (i : Nat) (left : Option Nat) (s : State) :
    Calm s (beginStep c ch i left s) :=
  (calm_setPatChan s c _).trans (calm_applyLevels ..)

theorem calm_patternDone (c : PatChan) (ch : PatternChannel) (s : State) : Calm s (patternDone c ch s) :=
  (calm_setPatChan s c _).trans (calm_report ..)

theorem calm_stepEndStep (c : PatChan) (s : State) : Calm s (stepEndStep c s) := by
  unfold stepEndStep
  split
  · split
    · split
      · exact calm_beginStep ..
      · split
        · exact calm_beginStep ..
        · split
          · exact calm_beginStep ..
          · exact calm_patternDone ..
    all_goals exact .refl s
  · exact .refl s

theorem calm_patternTick (c : PatChan) (s : State) : Calm s (patternTick c s) := by
  unfold patternTick
  split
  · split
    · exact (calm_setPatChan s c _).trans (calm_stepEndStep ..)
    all_goals exact .refl s
  · exact .refl s

theorem calm_takePatternInstr (c : PatChan) (i : PatternInstr) (s : State) : Calm s (takePatternInstr c i s) := by
  unfold takePatternInstr
  split
  · exact calm_setPatChan ..
  · split
    · exact (calm_setPatChan s c _).trans (calm_applyLevels ..)
    all_goals exact .refl s
  · split
    · exact calm_beginStep ..
    all_goals exact .refl s
  · split
    · exact calm_beginStep ..
    · exact calm_beginStep ..
    · exact .refl s
  · exact calm_setPatChan ..
  all_goals exact .refl s

theorem calm_takePatternFront (c : PatChan) (w : PatternInstr → Bool) (s : State) :
    Calm s (takePatternFront c w s) := by
  unfold takePatternFront
  split
  · rename_i i rest _
    split
    · have h : Calm s { s with patInbox := vset s.patInbox c rest } :=
        Same.calm ⟨rfl, rfl, rfl, rfl, rfl, rfl, rfl, rfl⟩ (.of_eq rfl rfl rfl rfl)
      exact h.trans (calm_takePatternInstr ..)
    · exact .refl s
  · exact .refl s

theorem calm_sendAction (ch : GuardChannel) (v : Action → Level) (s : State) : Calm s (sendAction ch v s) := by
  unfold sendAction
  split
  · exact calm_applyLevels ..
  · exact .refl s

theorem calm_guardFireEnd (g : GuardChan) (s : State) : Calm s (guardFireEnd g s) := by
  unfold guardFireEnd
  split
  · split
    · exact ((calm_setGuardChan s g _).trans (calm_sendAction ..)).trans (calm_report ..)
    all_goals exact .refl s
  · exact .refl s

theorem calm_pulseEndStep (g : GuardChan) (s : State) : Calm s (pulseEndStep g s) := by
  unfold pulseEndStep
  split
  · split
    · exact (calm_setGuardChan s g _).trans (calm_sendAction ..)
    all_goals exact .refl s
  · exact .refl s

theorem calm_guardTick (g : GuardChan) (s : State) : Calm s (guardTick g s) := by
  unfold guardTick
  split
  · split
    · exact (calm_setGuardChan s g _).trans (calm_guardFireEnd ..)
    · exact (calm_setGuardChan s g _).trans (calm_pulseEndStep ..)
    all_goals exact .refl s
  · exact .refl s

theorem calm_leaveFor (g : GuardChan) (ch : GuardChannel) (next : Option GuardChannel) (s : State) :
    Calm s (leaveFor g ch next s) := by
  unfold leaveFor
  split
  · exact (calm_setGuardChan s g _).trans (calm_sendAction ..)
  all_goals exact calm_setGuardChan ..

theorem calm_takeGuardInstr (g : GuardChan) (i : GuardInstr) (s : State) : Calm s (takeGuardInstr g i s) := by
  unfold takeGuardInstr
  split
  · exact calm_setGuardChan ..
  · split
    · exact calm_setGuardChan ..
    · exact .refl s
  · split
    · exact .refl s
    · exact calm_leaveFor ..
  · exact calm_leaveFor ..
  · split
    · exact calm_setGuardChan ..
    · exact .refl s
  · exact calm_leaveFor ..
  all_goals exact .refl s

theorem calm_takeGuardFront (g : GuardChan) (w : GuardInstr → Bool) (s : State) :
    Calm s (takeGuardFront g w s) := by
  unfold takeGuardFront
  split
  · rename_i i rest _
    split
    · have h : Calm s { s with guardInbox := vset s.guardInbox g rest } :=
        Same.calm ⟨rfl, rfl, rfl, rfl, rfl, rfl, rfl, rfl⟩ (.of_eq rfl rfl rfl rfl)
      exact h.trans (calm_takeGuardInstr ..)
    · exact .refl s
  · exact .refl s

/-! ## The line bank -/

/-- Rewriting one cell within the ranges keeps the ranges. -/
theorem setCell_ranges {s : State} {n : Line} {c : Cell} (hc : c.stability ≤ 31 ∧ c.mismatch ≤ 3 ∧ c.settle ≤ 255)
    (h : RangesRight s) : RangesRight (s.setCell n c) where
  charters := h.charters
  profiles := h.profiles
  cells m := by
    rw [State.setCell_cell]
    split
    · exact hc
    · exact h.cells m
  stalls := h.stalls

theorem ranges_of_eq {s t : State} (h₁ : t.charters = s.charters) (h₂ : t.profiles = s.profiles)
    (h₃ : t.buses = s.buses) (h₄ : t.cells = s.cells) (h : RangesRight s) : RangesRight t :=
  (Tame.of_eq h₁ h₂ h₃ h₄).ranges h

/-- The rows of the line bank, the channels and the bus: tables, queue and maps stay, the charters stay. -/
structure Bank (s t : State) : Prop where
  same : Same s t
  charters : t.charters = s.charters
  ranges : RangesRight s → RangesRight t

theorem Bank.refl (s : State) : Bank s s := ⟨⟨rfl, rfl, rfl, rfl, rfl, rfl, rfl, rfl⟩, rfl, id⟩

theorem Same.trans {s t u : State} (a : Same s t) (b : Same t u) : Same s u :=
  ⟨b.slots.trans a.slots, b.heldBy.trans a.heldBy, b.patTaken.trans a.patTaken, b.guardTaken.trans a.guardTaken,
    b.portRecs.trans a.portRecs, b.queue.trans a.queue, b.arrivals.trans a.arrivals, b.maps.trans a.maps⟩

theorem Bank.trans {s t u : State} (a : Bank s t) (b : Bank t u) : Bank s u :=
  ⟨a.same.trans b.same, b.charters.trans a.charters, fun h => b.ranges (a.ranges h)⟩

theorem Bank.row {lost : Port → Byte → Prop} {asks : Port → LineSet → Prop} {s t : State} (h : Bank s t) :
    Row lost asks s t := h.same.still.row h.charters h.ranges

theorem bank_setProfile {s : State} {n : Line} {f : Profile} (hf : RangesRight s → f.debounce ≤ 31 ∧ f.settle ≤ 255) :
    Bank s (s.setProfile n f) where
  same := ⟨rfl, rfl, rfl, rfl, rfl, rfl, rfl, rfl⟩
  charters := rfl
  ranges h := by
    refine ⟨h.charters, fun m => ?_, h.cells, h.stalls⟩
    rw [State.setProfile_profile]
    split
    · exact hf h
    · exact h.profiles m

theorem bank_setCell {s : State} {n : Line} {c : Cell}
    (hc : RangesRight s → c.stability ≤ 31 ∧ c.mismatch ≤ 3 ∧ c.settle ≤ 255) : Bank s (s.setCell n c) where
  same := ⟨rfl, rfl, rfl, rfl, rfl, rfl, rfl, rfl⟩
  charters := rfl
  ranges h := setCell_ranges (hc h) h

theorem bank_setBus {s : State} {p : Port} {b : Bus} (hb : RangesRight s → b.stall ≤ 25) : Bank s (s.setBus p b) where
  same := ⟨rfl, rfl, rfl, rfl, rfl, rfl, rfl, rfl⟩
  charters := rfl
  ranges h := by
    refine ⟨h.charters, h.profiles, h.cells, fun q => ?_⟩
    rw [State.setBus_bus]
    split
    · exact hb h
    · exact h.stalls q

theorem bank_report (s : State) (r : Report) : Bank s (s.report r) :=
  ⟨⟨rfl, rfl, rfl, rfl, rfl, rfl, rfl, rfl⟩, rfl, ranges_of_eq rfl rfl rfl rfl⟩

theorem bank_debouncedTo (n : Line) (v : Level) (s : State) : Bank s (debouncedTo n v s) where
  same := ⟨by simp, by simp, by simp, by simp, by simp, by simp, by simp, by simp⟩
  charters := by simp
  ranges h := by
    have h₁ := setCell_ranges (n := n) (c := { s.cell n with debounced := v, stability := 0 })
      ⟨Nat.zero_le _, (h.cells n).2⟩ h
    exact ranges_of_eq (by simp [debouncedTo]) (by simp [debouncedTo]) (by simp [debouncedTo])
      (by simp [debouncedTo]) h₁

theorem bank_debounceSample (n : Line) (v : Level) (s : State) : Bank s (debounceSample n v s) := by
  unfold debounceSample
  dsimp only
  split
  · exact bank_setCell fun h => ⟨Nat.zero_le _, (h.cells n).2⟩
  · split
    · rename_i hlt
      exact bank_setCell fun h => ⟨Nat.le_trans (Nat.succ_le_of_lt hlt) (h.profiles n).1, (h.cells n).2⟩
    · exact bank_debouncedTo ..

/-- The ranges, but for the mismatch count of one line, which a sample has just counted. -/
structure RangesBut (n : Line) (s : State) : Prop where
  charters : ∀ p, (s.charter p).leaseLimit ≤ 24 ∧ 1 ≤ (s.charter p).maxTerm ∧ (s.charter p).maxTerm ≤ 6000 ∧
    (s.charter p).grace ≤ 200 ∧ (s.charter p).warn ≤ 255
  profiles : ∀ m, (s.profile m).debounce ≤ 31 ∧ (s.profile m).settle ≤ 255
  cells : ∀ m, (s.cell m).stability ≤ 31 ∧ (m ≠ n → (s.cell m).mismatch ≤ 3) ∧ (s.cell m).settle ≤ 255
  stalls : ∀ p, (s.bus p).stall ≤ 25

theorem RangesBut.right {n : Line} {s : State} (h : RangesBut n s) (hm : (s.cell n).mismatch ≤ 3) : RangesRight s where
  charters := h.charters
  profiles := h.profiles
  cells m := by
    obtain ⟨h₁, h₂, h₃⟩ := h.cells m
    by_cases e : m = n
    · exact ⟨h₁, e ▸ hm, h₃⟩
    · exact ⟨h₁, h₂ e, h₃⟩
  stalls := h.stalls

theorem RangesBut.count {n : Line} {s : State} (h : RangesBut n s) (x : Nat) :
    RangesBut n (s.setCell n { s.cell n with mismatch := x }) where
  charters := h.charters
  profiles := h.profiles
  cells m := by
    rw [State.setCell_cell]
    split
    · rename_i e
      exact ⟨(h.cells n).1, fun c => absurd e c, (h.cells n).2.2⟩
    · exact h.cells m
  stalls := h.stalls

theorem RangesRight.but {s : State} (h : RangesRight s) (n : Line) : RangesBut n s :=
  ⟨h.charters, h.profiles, fun m => ⟨(h.cells m).1, fun _ => (h.cells m).2.1, (h.cells m).2.2⟩, h.stalls⟩

theorem RangesBut.restart {n : Line} {s : State} (h : RangesBut n s) :
    RangesRight (s.setCell n { s.cell n with mismatch := 0 }) :=
  (h.count 0).right (by simp)

/-- The mismatch count of the line may have reached 4 when the drive fault is looked for; it is in its range after. -/
theorem driveFaultEnd_ranges {n : Line} {s : State} (h : RangesBut n s) : RangesRight (driveFaultEnd n s) := by
  unfold driveFaultEnd
  split
  · have hr := h.restart
    dsimp only at hr ⊢
    generalize s.setCell n _ = u at hr ⊢
    split
    · exact (bank_report ..).ranges hr
    · have hp : Bank u (u.setProfile n { u.profile n with restFault := true }) :=
        bank_setProfile fun h => h.profiles n
      exact (bank_report ..).ranges (hp.ranges hr)
  · rename_i hlt
    exact h.right (Nat.le_of_lt_succ (Nat.lt_of_not_le hlt))

theorem bank_driveFaultEnd (n : Line) (s : State) : Bank s (driveFaultEnd n s) where
  same := ⟨by simp, by simp, by simp, by simp, by simp, by simp, by simp, by simp⟩
  charters := by simp
  ranges h := driveFaultEnd_ranges (h.but n)

theorem bank_compareSample (n : Line) (v : Level) (s : State) : Bank s (compareSample n v s) where
  same := ⟨by simp, by simp, by simp, by simp, by simp, by simp, by simp, by simp⟩
  charters := by simp
  ranges h := by
    unfold compareSample
    dsimp only
    split <;> exact driveFaultEnd_ranges ((h.but n).count _)

theorem bank_settleEnd (k : Slot) (s : State) : Bank s (settleEnd k s) where
  same := ⟨by simp, by simp, by simp, by simp, by simp, by simp, by simp, by simp⟩
  charters := by simp
  ranges := by
    unfold settleEnd
    split
    · split
      · exact ranges_of_eq rfl rfl rfl rfl
      · exact id
    · exact id

theorem settleCount_ranges (ls : LineSet) {s : State} (h : RangesRight s) :
    RangesRight (s.mapCells ls fun _ c => { c with settle := c.settle - 1 }) where
  charters p := by simpa using h.charters p
  profiles n := by simpa using h.profiles n
  cells n := by
    obtain ⟨h₁, h₂, h₃⟩ := h.cells n
    simp only [State.mapCells_cell]
    split
    · exact ⟨h₁, h₂, Nat.le_trans (Nat.sub_le ..) h₃⟩
    · exact ⟨h₁, h₂, h₃⟩
  stalls p := by simpa using h.stalls p

theorem bank_settleTick (k : Slot) (s : State) : Bank s (settleTick k s) where
  same := ⟨by simp, by simp, by simp, by simp, by simp, by simp, by simp, by simp⟩
  charters := by simp
  ranges h := by
    unfold settleTick
    split
    · rename_i r _
      have hr := settleCount_ranges r.lines h
      generalize s.mapCells r.lines _ = u at hr ⊢
      exact (bank_settleEnd ..).ranges (ranges_of_eq (s := u) rfl rfl rfl rfl hr)
    · exact h

theorem bank_stallEnd (p : Port) (s : State) : Bank s (stallEnd p s) := by
  unfold stallEnd
  dsimp only
  split
  · exact bank_setBus fun _ => Nat.zero_le _
  · exact .refl s

theorem bank_busTick (p : Port) (low rose : Bool) (s : State) : Bank s (busTick p low rose s) where
  same := ⟨by simp, by simp, by simp, by simp, by simp, by simp, by simp, by simp⟩
  charters := by simp
  ranges h := by
    have h26 : stallAfter (s.bus p) low rose ≤ 26 := by
      have := h.stalls p
      unfold stallAfter
      split
      · split <;> omega
      · omega
    unfold busTick stallEnd
    dsimp only
    have set : ∀ b : Bus, b.stall ≤ 25 →
        RangesRight ((s.setBus p { s.bus p with stall := stallAfter (s.bus p) low rose }).setBus p b) := fun b hb => by
      refine ⟨h.charters, h.profiles, h.cells, fun q => ?_⟩
      rw [State.setBus_bus, State.setBus_bus]
      split
      · exact hb
      · exact h.stalls q
    split
    · exact set _ (Nat.zero_le _)
    · rename_i hc
      refine (bank_setBus fun _ => ?_).ranges h
      dsimp only
      rw [State.setBus_bus, if_pos rfl] at hc
      dsimp only at hc
      by_contra hgt
      have haddr : (s.bus p).state.addressed = true := by
        by_contra hn
        simp [stallAfter, hn] at hgt
      exact hc ⟨haddr, Nat.lt_of_not_le hgt⟩

theorem Calm.bank {s t : State} (hs : Same s t) (h : Tame s t) : Bank s t := ⟨hs, h.charters, h.ranges⟩

theorem bank_tickPart (pads : Levels) (scl : SclTick) (x : State × List GuardChan) (part : TickPart) :
    Bank x.1 (tickPart pads scl x part).1 := by
  cases part with
  | sample n => exact (bank_debounceSample ..).trans (bank_compareSample ..)
  | pattern c =>
    exact ⟨⟨by simp [tickPart], by simp [tickPart], by simp [tickPart], by simp [tickPart], by simp [tickPart],
      by simp [tickPart], by simp [tickPart], by simp [tickPart]⟩, by simp [tickPart], (calm_patternTick ..).tame.ranges⟩
  | guard g =>
    simp only [tickPart]
    split
    · exact .refl _
    · exact ⟨⟨by simp, by simp, by simp, by simp, by simp, by simp, by simp, by simp⟩, by simp,
        (calm_guardTick ..).tame.ranges⟩
  | settle k => exact bank_settleTick ..
  | bus p => exact bank_busTick ..

theorem bank_tickParts (pads : Levels) (scl : SclTick) (parts : List TickPart) (x : State × List GuardChan) :
    Bank x.1 (parts.foldl (tickPart pads scl) x).1 := by
  induction parts generalizing x with
  | nil => exact .refl _
  | cons a parts ih => exact (bank_tickPart pads scl x a).trans (ih _)

end Sys2Proof.Machine

/-! PROOFS. Every row keeps the agreements, the ranges, the waits, the tickets and the generations. -/

namespace Sys2Proof.Machine

/-! ## Ticks and reports of the engine -/

section
variable {lost : Port → Byte → Prop} {asks : Port → LineSet → Prop}

theorem termTick_row (s : State) : Row lost asks s (endStep s (forPorts tickQuiet (tickQueue (forSlots tickSlot s)))) := by
  refine (tick_work s).row_endStep ?_
  have h₁ : (forPorts tickQuiet (tickQueue (forSlots tickSlot s))).charters = (tickQueue (forSlots tickSlot s)).charters :=
    forPorts_keeps State.charters tickQuiet (fun p s => by simp [tickQuiet]) _
  have h₂ : ∀ (es : List QueueEntry) (u : State),
      (es.foldl (fun s (e : QueueEntry) => waitExpiryStep e.port e.ticket s) u).charters = u.charters := fun es => by
    induction es with
    | nil => exact fun _ => rfl
    | cons e es ih => exact fun u => (ih _).trans (by simp)
  have h₃ : (forSlots tickSlot s).charters = s.charters := forSlots_keeps State.charters tickSlot (fun k s => by simp) s
  exact (h₁.trans (h₂ ..)).trans (by simpa using h₃)

/-- A report is taken from those on their way before its effect. -/
theorem Row.reports {s t : State} {rest : List Report} (r : Row lost asks { s with reports := rest } t) :
    Row lost asks s t :=
  Row.before (s := s) (u := { s with reports := rest }) ⟨rfl, rfl, rfl, rfl, rfl, rfl, rfl, rfl⟩ (.of_eq rfl rfl rfl rfl) r

theorem faultEffect_charters (h : Handle) (n : Line) (s : State) : (faultEffect h n s).charters = s.charters := by
  unfold faultEffect
  split
  · split
    · dsimp only
      split <;> simp
    · rfl
  · rfl

theorem recallPort_charters (t : Port) (time : Nat) (s : State) : (recallPort t time s).charters = s.charters := by
  have h₁ : ∀ u : State, (makeQuiet t time u).charters = u.charters := fun u => by
    unfold makeQuiet
    split <;> rfl
  have h₂ : ∀ u : State, (cancelWaits t u).charters = u.charters := fun u => by
    rw [cancelWaits_eq]
    exact (expireAll_plain ..).2.2.2.charters
  have h₃ : (forSlots (recallSlot t) s).charters = s.charters := forSlots_keeps State.charters (recallSlot t) (fun k s => by
    unfold recallSlot
    split
    · split <;> simp
    · rfl) s
  simp [recallPort, h₁, h₂, h₃]

theorem fireEffect_charters (h : Handle) (carried : Bool) (s : State) : (fireEffect h carried s).charters = s.charters := by
  unfold fireEffect
  split
  · split
    · split
      · rw [(postSlot_frame ..).2.2.2.2.2.2.2.2.1]
        exact recallPort_charters ..
      · simp
      · simp
    all_goals simp
  · rfl

theorem settleEffect_row (h : Handle) (s : State) : Row lost asks s (settleEffect h s) := by
  unfold settleEffect
  split
  · rename_i l hl
    obtain ⟨-, hk⟩ := named_some hl
    split
    · rename_i reason hr
      exact (closeRecord_work hk hr reason).row_endStepScan s
    all_goals exact .refl s
  · exact .refl s

end

/-! ## Every row -/

/-- The entries that a row may take out of the queue without a trace: the one that CANCEL_WAIT names, and those of the
port that RESET_PORT names (R39, R147). -/
def LostBy (i : Instr) (s : State) (p : Port) (n : Byte) : Prop :=
  (i = .cancelWait p ∧ argByte (s.args p) 0x04 = n) ∨ ∃ q, i = .resetPort q ∧ argNat (s.args q) 0x04 = p.val

/-- The port and the lines of a REQUEST. -/
def AskedBy (i : Instr) (s : State) (p : Port) (ls : LineSet) : Prop :=
  i = .request p ∧ ls = (Req.read (s.args p)).lines

theorem portOf_some {b : Byte} {q : Port} (h : portOf b = some q) : b.toNat = q.val := by
  unfold portOf at h
  split at h
  · cases h
    rfl
  · cases h

theorem resetPort_row {p : Port} {s t : State} (h : exec (.resetPort p) s = .next t) :
    Row (LostBy (.resetPort p) s) (AskedBy (.resetPort p) s) s t := by
  rw [exec_resetPort] at h
  split at h
  · obtain rfl := Host.Outcome.next.inj h
    refine (resetPortStep_row p (s.take p) fun q n hq => ?_).before (same_take s p) (.of_eq rfl rfl rfl rfl)
    rw [State.take_args] at hq
    exact .inr ⟨p, rfl, portOf_some hq⟩
  · obtain rfl := Host.Outcome.next.inj h
    exact .refl s

theorem row_next {lost : Port → Byte → Prop} {asks : Port → LineSet → Prop} {s t u : State}
    (h : (Host.Outcome.next u : Host.Outcome State Fault Refusal) = .next t) (r : Row lost asks s u) :
    Row lost asks s t := by
  obtain rfl := Host.Outcome.next.inj h
  exact r

theorem reports_row {lost : Port → Byte → Prop} {asks : Port → LineSet → Prop} {i : Instr} {s t : State}
    (hi : (∃ n, i = .edgeReport n ∨ i = .faultReport n ∨ i = .restFaultReport n)
      ∨ ∃ k, i = .settleComplete k ∨ i = .patternDoneReport k ∨ i = .fireReport k)
    (h : exec i s = .next t) : Row lost asks s t := by
  rcases hi with ⟨n, rfl | rfl | rfl⟩ | ⟨k, rfl | rfl | rfl⟩
  · simp only [exec, execEdgeReport] at h
    split at h
    · exact row_next h (calm_edgeEffect ..).row.reports
    all_goals exact row_next h (.refl s)
  · simp only [exec, execFaultReport] at h
    split at h
    · exact row_next h ((faultEffect_work ..).row_endStep (faultEffect_charters ..)).reports
    all_goals exact row_next h (.refl s)
  · simp only [exec, execRestFaultReport] at h
    split at h
    · exact row_next h (calm_postLine ..).row.reports
    all_goals exact row_next h (.refl s)
  · simp only [exec, execSettleComplete] at h
    split at h
    · exact row_next h (settleEffect_row ..).reports
    all_goals exact row_next h (.refl s)
  · simp only [exec, execPatternDoneReport] at h
    split at h
    · exact row_next h (calm_patternDoneEffect ..).row.reports
    all_goals exact row_next h (.refl s)
  · simp only [exec, execFireReport] at h
    split at h
    · exact row_next h ((fireEffect_work ..).row_endStep (fireEffect_charters ..)).reports
    all_goals exact row_next h (.refl s)

theorem dataByte_bank (p : Port) (byte : Byte) (s : State) : Bank s (dataByte p byte s) := by
  have h : Bank s (s.setWindow p (writeWindow (s.window p) (s.bus p).pointer.toNat byte)) :=
    ⟨⟨rfl, rfl, rfl, rfl, rfl, rfl, rfl, rfl⟩, rfl, ranges_of_eq rfl rfl rfl rfl⟩
  exact h.trans (bank_setBus fun _ => Nat.zero_le _)

theorem cells_bank {s : State} {f : Line → Cell → Cell} (h : ∀ n c, (f n c).stability = c.stability
    ∧ (f n c).mismatch = c.mismatch ∧ (f n c).settle = c.settle) :
    Bank s { s with rstnAsserted := false, cells := vmap f s.cells } where
  same := ⟨rfl, rfl, rfl, rfl, rfl, rfl, rfl, rfl⟩
  charters := rfl
  ranges hs := ranges_of_eq (s := { s with cells := vmap f s.cells }) rfl rfl rfl rfl ((tame_vmap h).ranges hs)

/-- Every row but device reset keeps what `Row` says. -/
theorem exec_row {i : Instr} {s t : State} (hi : i ≠ .deviceReset) (h : exec i s = .next t) :
    Row (LostBy i s) (AskedBy i s) s t := by
  cases i with
  | request p => exact .command h (requestBody_row ⟨rfl, by rw [State.take_args]⟩)
  | cancelWait p => exact .command h (cancelWaitBody_row _ _ (.inl ⟨rfl, by rw [State.take_args]⟩))
  | queryQueue p => exact .command h (row_of_state_eq (queryQueueBody_state ..))
  | queryLease p => exact .command h (row_of_state_eq (queryLeaseBody_state ..))
  | lookupLine p => exact .command h (row_of_state_eq (lookupLineBody_state ..))
  | renew p => exact .command h (renewBody_row ..)
  | release p => exact .command h (releaseBody_row ..)
  | revoke p => exact .command h (revokeBody_row ..)
  | offer p => exact .command h (offerBody_row ..)
  | accept p => exact .command h (acceptBody_row ..)
  | decline p => exact .command h (declineBody_row ..)
  | withdraw p => exact .command h (withdrawBody_row ..)
  | setGuard p => exact .command h (setGuardBody_row ..)
  | setLevels p => exact .command h (setLevelsBody_row ..)
  | restartPattern p => exact .command h (restartPatternBody_row ..)
  | readLevels p => exact .command h (readLevelsBody_row ..)
  | clearFault p => exact .command h (clearFaultBody_row ..)
  | setLineProfile p => exact .command h (setLineProfileBody_row ..)
  | setCharter p => exact .command h (setCharterBody_row ..)
  | readCharter p => exact .command h (row_of_state_eq (readCharterBody_state ..))
  | resetPort p => exact resetPort_row h
  | nextNotice p => exact .command h (row_of_state_eq (nextNoticeBody_state ..))
  | ackNotice p => exact .command h (ackNoticeBody_row ..)
  | unknownCommand p => exact .command (exec_unknownCommand p s ▸ h) (.refl _)
  | termTick => exact row_next h (termTick_row s)
  | termEnd k => exact row_next h ((termEndStep_work k s).row_endStep (by simp))
  | graceEnd k => exact row_next h ((graceEndStep_work k s).row_endStep (by simp))
  | offerLapse k => exact row_next h ((calm_offerLapseStep k s).work.row_endStep (by simp))
  | waitExpiry p n => exact row_next h ((waitExpiryStep_work p n s).row_endStep (by simp))
  | quietEnd p =>
    refine row_next h ?_
    split
    · exact (calm_quietEndStep p s).work.row_endStepScan s
    · exact .refl s
  | edgeReport n => exact reports_row (.inl ⟨n, .inl rfl⟩) h
  | faultReport n => exact reports_row (.inl ⟨n, .inr (.inl rfl)⟩) h
  | restFaultReport n => exact reports_row (.inl ⟨n, .inr (.inr rfl)⟩) h
  | settleComplete k => exact reports_row (.inr ⟨k, .inl rfl⟩) h
  | patternDoneReport k => exact reports_row (.inr ⟨k, .inr (.inl rfl)⟩) h
  | fireReport k => exact reports_row (.inr ⟨k, .inr (.inr rfl)⟩) h
  | msTick pads scl order =>
    refine row_next h ?_
    split
    · exact .refl s
    · exact (bank_tickParts pads scl (tickParts order) (s, [])).row
  | debouncedChange n =>
    refine row_next h ?_
    split
    · exact (bank_debouncedTo ..).row
    · exact .refl s
  | driveFault n => exact row_next h (bank_driveFaultEnd ..).row
  | settleCountdownEnd k => exact row_next h (bank_settleEnd ..).row
  | stepEnd c => exact row_next h (calm_stepEndStep ..).row
  | guardFire g => exact row_next h (calm_guardFireEnd ..).row
  | pulseEnd g => exact row_next h (calm_pulseEndStep ..).row
  | patternSetup c => exact row_next h (calm_takePatternFront ..).row
  | patternPause c => exact row_next h (calm_takePatternFront ..).row
  | patternResume c => exact row_next h (calm_takePatternFront ..).row
  | patternRestart c => exact row_next h (calm_takePatternFront ..).row
  | patternFree c => exact row_next h (calm_takePatternFront ..).row
  | guardSetup g => exact row_next h (calm_takeGuardFront ..).row
  | guardArm g => exact row_next h (calm_takeGuardFront ..).row
  | guardDisarm g => exact row_next h (calm_takeGuardFront ..).row
  | guardSuspend g => exact row_next h (calm_takeGuardFront ..).row
  | guardUnsuspend g => exact row_next h (calm_takeGuardFront ..).row
  | guardFree g => exact row_next h (calm_takeGuardFront ..).row
  | i2cAddress p byte =>
    refine row_next h (bank_setBus fun _ => ?_).row
    unfold afterAddress
    dsimp only
    split <;> exact Nat.zero_le _
  | i2cOffset p byte =>
    refine row_next h ?_
    split
    · exact (bank_setBus fun _ => Nat.zero_le _).row
    · exact .refl s
  | windowWrite p byte =>
    refine row_next h ?_
    split
    · exact (dataByte_bank ..).row
    · exact .refl s
  | controlGo p upper =>
    refine row_next h ?_
    split
    · exact (dataByte_bank ..).row
    · exact .refl s
  | i2cRead p count =>
    refine row_next h (bank_setBus fun _ => ?_).row
    split <;> exact Nat.zero_le _
  | i2cStallTimeout p => exact row_next h (bank_stallEnd ..).row
  | deviceReset => exact absurd rfl hi
  | rstnRelease pads =>
    refine row_next h ?_
    split
    · exact (cells_bank (s := s) (f := fun n c => { c with debounced := has pads n }) fun _ _ => ⟨rfl, rfl, rfl⟩).row
    · exact .refl s
  | i2cStop p => exact row_next h (bank_setBus fun _ => Nat.zero_le _).row

end Sys2Proof.Machine

/-! PROOFS. Device reset, and the invariants of every step: O1 to O9. -/

namespace Sys2Proof.Machine

/-! ## Reset values -/

theorem reset_lease (k : Slot) : State.reset.lease k = none := by simp [State.reset, State.lease]

theorem reset_cell (n : Line) : State.reset.cell n = Cell.reset := by simp [State.reset, State.cell]

theorem reset_map (p : Port) : State.reset.map p = NoticeMap.empty := by simp [State.reset, State.map]

theorem reset_portRec (p : Port) :
    State.reset.portRec p = { occupied := 0, quiet := none, ticketCounter := 0#8 } := by
  simp [State.reset, State.portRec]

theorem reset_window (p : Port) : State.reset.window p = Window.reset := by simp [State.reset, State.window]

theorem reset_bus (p : Port) : State.reset.bus p = Bus.reset := by simp [State.reset, State.bus]

theorem reset_profile (n : Line) : State.reset.profile n = Profile.reset := by simp [State.reset, State.profile]

theorem reset_charter (p : Port) :
    State.reset.charter p = if p = 0 then Charter.resetP0 else Charter.resetOther := by
  simp only [State.reset, State.charter, vget_vset, vget_replicate]

theorem safe_reset : Safe State.reset where
  held n k := by
    rw [holdsLine_none (reset_lease k)]
    simp [State.reset]
  counts p := by
    rw [reset_portRec]
    simp [recordsOf, reset_lease]
  channels := by
    have hp : ∀ k, patOf State.reset k = none := fun k => patOf_none (reset_lease k)
    have hg : ∀ k, guardOf State.reset k = none := fun k => guardOf_none (reset_lease k)
    unfold ChannelsRight
    simp only [hp, hg]
    simp [State.reset]
  waits := by
    refine ⟨Nat.zero_le _, List.nodup_nil, fun p => ?_⟩
    simp [waitBudget, waitingOf, reset_map, NoticeMap.empty, show State.reset.queue = [] from rfl]

theorem ranges_reset : RangesRight State.reset where
  charters p := by
    rw [reset_charter]
    split <;> decide
  profiles n := by
    rw [reset_profile]
    decide
  cells n := by
    rw [reset_cell]
    decide
  stalls p := by
    rw [reset_bus]
    decide

theorem waits_reset : EveryEntryWaits State.reset := .nil _

theorem tickets_reset : TicketsRight State.reset where
  queue := .nil
  queueBefore e he := absurd he List.not_mem_nil
  notices p := by
    rw [reset_map]
    exact .nil
  noticesBefore p x hx := by
    rw [reset_map] at hx
    exact absurd hx List.not_mem_nil
  distinct p := by
    rw [reset_map]
    exact .nil
  apart p x hx := by
    rw [reset_map] at hx
    exact absurd hx List.not_mem_nil

/-- Settles O1. -/
theorem stepRunsFrontCommand : Obligations.StepRunsFrontCommand := by
  refine ⟨fun c rest s => rfl, fun s h => ?_⟩
  unfold step
  rw [h]

/-- Settles O3. -/
theorem invariantsAtReset : Obligations.InvariantsAtReset := ⟨safe_reset, ranges_reset, waits_reset, tickets_reset⟩

/-! ## Every step -/

theorem exec_deviceReset {s t : State} (h : exec .deviceReset s = .next t) :
    t = { State.reset with rstnAsserted := true, pending := s.pending } :=
  (Host.Outcome.next.inj h).symm

/-- What every row gives from what `Row` keeps and from the reset values. -/
theorem exec_keeps {i : Instr} {s t : State} (h : exec i s = .next t) :
    (Safe s → Safe t) ∧ (RangesRight s → RangesRight t) ∧ (EveryEntryWaits s → EveryEntryWaits t)
      ∧ (Safe s → TicketsRight s → TicketsRight t) := by
  by_cases hi : i = .deviceReset
  · subst hi
    rw [exec_deviceReset h]
    have same : Same State.reset { State.reset with rstnAsserted := true, pending := s.pending } :=
      ⟨rfl, rfl, rfl, rfl, rfl, rfl, rfl, rfl⟩
    exact ⟨fun _ => same.still.safe safe_reset, fun _ => ranges_of_eq (s := State.reset) rfl rfl rfl rfl ranges_reset, fun _ => .nil _,
      fun _ _ => same.ticketsRight tickets_reset⟩
  · obtain ⟨h₁, h₂, h₃, h₄, -, -⟩ := exec_row hi h
    exact ⟨h₁, h₂, h₃, h₄⟩

/-- The rows that wait are no part of what a step keeps. -/
theorem step_keeps {s t : State} (h : step s = .next t) :
    (Safe s → Safe t) ∧ (RangesRight s → RangesRight t) ∧ (EveryEntryWaits s → EveryEntryWaits t)
      ∧ (Safe s → TicketsRight s → TicketsRight t) := by
  unfold step at h
  split at h
  · obtain rfl := Host.Outcome.next.inj h
    exact ⟨id, id, id, fun _ => id⟩
  · rename_i c rest _
    obtain ⟨h₁, h₂, h₃, h₄⟩ := exec_keeps h
    have same : Same s { s with pending := rest } := ⟨rfl, rfl, rfl, rfl, rfl, rfl, rfl, rfl⟩
    exact ⟨fun hs => h₁ (same.still.safe hs), fun hs => h₂ (ranges_of_eq (s := s) rfl rfl rfl rfl hs), fun hs => h₃ hs,
      fun hs ht => h₄ (same.still.safe hs) (same.ticketsRight ht)⟩

/-- Settles O4: the agreements are kept by the work of every row (`Work`), by the queue scan (`scan_safe`), by a grant
(`grantInto_safe`) and by joining the queue (`enqueue_safe`). -/
theorem safeKeptByEveryStep : Obligations.SafeKeptByEveryStep := fun _ _ hs h => (step_keeps h).1 hs

/-- Settles O5. -/
theorem rangesKeptByEveryStep : Obligations.RangesKeptByEveryStep := fun _ _ hs h => (step_keeps h).2.1 hs

/-- Settles O6: a row that frees anything ends with a scan, and after a scan every entry waits (`scan_waits`); any other
row leaves the tables at least as full (`Work.row_calm`). -/
theorem waitingEntriesStayBlocked : Obligations.WaitingEntriesStayBlocked := fun _ _ hs h => (step_keeps h).2.2.1 hs

/-- Settles O7. -/
theorem ticketsStayInOrder : Obligations.TicketsStayInOrder := by
  refine ⟨fun s t hs ht h => (step_keeps h).2.2.2 hs ht, fun i s t hs ht h => ?_⟩
  by_cases hi : i = .deviceReset
  · subst hi
    rw [exec_deviceReset h]
    refine ⟨fun p x hx => ?_, fun x hx => absurd hx List.not_mem_nil, fun _ _ hi => absurd rfl hi⟩
    have hx : x ∈ (State.reset.map p).tickets := hx
    rw [reset_map] at hx
    exact absurd hx List.not_mem_nil
  · obtain ⟨hn, hj, hl⟩ := (exec_row hi h).flow hs ht
    refine ⟨hn, fun x hx => (hj x hx).imp_right fun ⟨⟨_, ha⟩, hq⟩ => ⟨ha.1, hq⟩, fun e he _ => ?_⟩
    exact hl e he

/-- Settles O9. -/
theorem generationChangesAtGrant : Obligations.GenerationChangesAtGrant := by
  intro i s t k hi h hne
  rcases (exec_row hi h).gens k with hk | ⟨hg, l, hl, hst, ho⟩
  · exact absurd hk hne
  · refine ⟨hg, l, hl, hst, ho.imp_left ?_⟩
    rintro ⟨⟨rfl, hls⟩, hor⟩
    exact ⟨l.holder, rfl, rfl, hls, hor⟩

/-! ## Channels -/

/-- Slots with different channels are no more than the channels. -/
theorem owners_length {n : Nat} (own : Slot → Option (Fin n))
    (h : ∀ c k j, own k = some c → own j = some c → k = j) :
    ((List.finRange 24).filter fun k => (own k).isSome).length ≤ n := by
  have hnd : (((List.finRange 24).filter fun k => (own k).isSome).filterMap own).Nodup := by
    refine List.Nodup.filterMap (fun k j c hk hj => h c k j hk hj) ((List.nodup_finRange 24).filter _)
  have hlen : (((List.finRange 24).filter fun k => (own k).isSome).filterMap own).length
      = ((List.finRange 24).filter fun k => (own k).isSome).length := by
    generalize hL : ((List.finRange 24).filter fun k => (own k).isSome) = L
    have hall : ∀ k ∈ L, (own k).isSome = true := fun k hk => by
      rw [← hL] at hk
      exact (List.mem_filter.mp hk).2
    clear hL hnd
    induction L with
    | nil => rfl
    | cons a L ih =>
      obtain ⟨c, hc⟩ := Option.isSome_iff_exists.mp (hall a (by simp))
      rw [List.filterMap_cons_some hc, List.length_cons, List.length_cons,
        ih fun k hk => hall k (List.mem_cons_of_mem _ hk)]
  rw [← hlen]
  simpa using hnd.length_le_card

/-- Settles O8: a shared line would make its held-by entry name two slots (R11), and different live leases have
different channels (R12). -/
theorem noTwoLeasesShare : Obligations.NoTwoLeasesShare := by
  intro s hs
  refine ⟨fun j k l m hj hk hjk hl hm => ?_, owners_length _ hs.channels.2.1, owners_length _ hs.channels.2.2.2⟩
  by_contra hne
  obtain ⟨i, hi⟩ : ∃ i : Line, has (l.lines &&& m.lines) i = true := by
    by_contra hno
    refine hne (BitVec.eq_of_getLsbD_eq fun i hi => ?_)
    have := fun h => hno ⟨⟨i, hi⟩, h⟩
    simpa [has] using this
  have both : has l.lines i = true ∧ has m.lines i = true := by
    simpa [has] using hi
  have h₁ : vget s.heldBy i = some j := (hs.held i j).mpr (by rw [holdsLine_some hj, hl, both.1]; rfl)
  have h₂ : vget s.heldBy i = some k := (hs.held i k).mpr (by rw [holdsLine_some hk, hm, both.2]; rfl)
  exact hjk (Option.some.inj (h₁.symm.trans h₂))

end Sys2Proof.Machine

/-! PROOFS. The window as a read sees it, the I2C rows, and device reset: O2, O58, O59 and O60. -/

namespace Sys2Proof.Machine

/-! ## The window bytes (section 10.1) -/

theorem windowByte_arg (s : State) (p : Port) {off : Nat} (h : 4 ≤ off) (h' : off < 0x24) :
    windowByte s p off = argByte (s.window p).args off := by
  unfold windowByte
  dsimp only
  rw [if_neg (by omega), if_neg (by omega), if_neg (by omega), if_neg (by omega), if_pos h']

theorem windowByte_result (s : State) (p : Port) {i : Nat} (h : i < 24) :
    windowByte s p (0x24 + i) = (s.window p).result[i] := by
  unfold windowByte
  dsimp only
  rw [if_neg (by omega), if_neg (by omega), if_neg (by omega), if_neg (by omega), if_neg (by omega),
    dif_pos (by omega)]
  congr 1
  omega

theorem windowByte_info (s : State) (p : Port) : windowByte s p 0x3C = portInfo s p := rfl

theorem windowByte_count (s : State) (p : Port) : windowByte s p 0x3D = BitVec.ofNat 8 (s.map p).count := rfl

theorem windowByte_control (s : State) (p : Port) :
    windowByte s p 0x01 = BitVec.ofNat 8 (s.window p).busy.toNat := rfl

/-- A completed command's result bytes stand from 0x24 on. -/
theorem Answers.byte {s t : State} {p : Port} {st : Status} {r : List Byte} (h : Answers s t p st r) (i : Nat)
    (hi : i < 24) : windowByte t p (0x24 + i) = r.getD i 0#8 := by
  rw [windowByte_result t p hi, h.window]
  simp [padResult, vtab]

theorem copy_windowCopy (s : State) (p : Port) (i : Fin 64) : vget (windowCopy s p) i = windowByte s p i.val := by
  simp [windowCopy]

/-! ## Reset values -/

theorem reset_map_count (p : Port) : (State.reset.map p).count = 0 := by
  rw [reset_map]
  simp [NoticeMap.count, NoticeMap.empty, countLines, linesOf, NoticeMap.slotCount, has]

theorem reset_isQuiet (p : Port) : State.reset.isQuiet p = false := by
  simp [State.isQuiet, reset_portRec, PortRec.quietRemaining]

theorem reset_subjects (p : Port) : (State.reset.map p).subjects = [] := by
  rw [reset_map]
  simp [NoticeMap.subjects, NoticeMap.empty, linesOf, has]

theorem liveHolding_none {s : State} {n : Line} (h : vget s.heldBy n = none) : liveHolding s n = none := by
  simp [liveHolding, holding, h]

theorem reset_windowByte (p : Port) {off : Nat} (h : off < 0x3C) : windowByte State.reset p off = 0#8 := by
  rcases Nat.lt_or_ge off 4 with h4 | h4
  · interval_cases off <;> simp [windowByte, reset_window, Window.reset, Window.busy, Status.code]
  · rcases Nat.lt_or_ge off 0x24 with h24 | h24
    · rw [windowByte_arg _ _ h4 h24, reset_window]
      simp [argByte, Window.reset]
    · obtain ⟨i, rfl⟩ := Nat.exists_eq_add_of_le h24
      rw [windowByte_result _ _ (by omega), reset_window]
      simp [Window.reset]

theorem reset_appliedConfig (n : Line) : appliedConfig State.reset n = .highImpedance := by
  have hl : liveHolding State.reset n = none := liveHolding_none (by simp [State.reset])
  unfold appliedConfig
  rw [hl, reset_profile]
  rfl

theorem reset_attention (p : Port) : attention State.reset p = false := by
  simp [attention, NoticeMap.nonEmpty, reset_map_count]

theorem reset_portInfo (p : Port) : windowByte State.reset p 0x3C = BitVec.ofNat 8 p.val := by
  rw [windowByte_info, portInfo, reset_isQuiet]
  simp [NoticeMap.nonEmpty, reset_map_count]

/-- Settles O2. -/
theorem resetValues : Obligations.ResetValues := by
  refine ⟨fun k => ⟨reset_lease k, by simp [State.reset, State.handle], by simp [State.reset]⟩, fun n => ?_,
    fun c => by simp [State.reset], fun g => by simp [State.reset], fun p => ?_, fun p off => reset_windowByte p,
    fun p => ⟨reset_portInfo p, by rw [windowByte_count, reset_map_count]⟩, by rw [reset_charter]; rfl,
    fun p hp => by rw [reset_charter, if_neg hp]; rfl, rfl, rfl, rfl⟩
  · rw [reset_cell]
    exact ⟨by simp [State.reset], rfl, rfl, rfl, rfl, reset_appliedConfig n, reset_profile n⟩
  · rw [reset_portRec, reset_window, reset_bus]
    exact ⟨rfl, reset_isQuiet p, rfl, reset_subjects p, reset_attention p, rfl, rfl, rfl, rfl⟩

theorem appliedConfig_rstn {s : State} (h : s.rstnAsserted = true) (n : Line) : appliedConfig s n = .highImpedance := by
  simp [appliedConfig, h]

/-- Settles O60. -/
theorem deviceResetAndRelease : Obligations.DeviceResetAndRelease := by
  refine ⟨fun s => ⟨_, rfl, rfl, rfl, rfl, fun n => ?_, fun n => appliedConfig_rstn rfl n, fun p => rfl⟩,
    fun s pads h => ⟨_, rfl, ?_⟩⟩
  · have hc : ({ State.reset with rstnAsserted := true, pending := s.pending } : State).cell n = Cell.reset :=
      reset_cell n
    rw [hc]
    exact ⟨rfl, rfl, rfl, rfl⟩
  · rw [if_pos h]
    refine ⟨rfl, rfl, fun n => ?_, ?_⟩
    · simp only [State.cell, vget_vmap]
    · rw [← h]

/-! ## The bus -/

/-- Writing one port's interface leaves the others and everything else. -/
theorem setBus_only (s : State) (p : Port) (b : Bus) :
    (∀ q, q ≠ p → (s.setBus p b).bus q = s.bus q) ∧ { s.setBus p b with buses := s.buses } = s :=
  ⟨fun q hq => by rw [State.setBus_bus, if_neg hq], rfl⟩

theorem addressMatches_iff (byte : Byte) : addressMatches byte = true ↔ byte = 0x7C#8 ∨ byte = 0x7D#8 := by
  revert byte
  decide

theorem not_waiting_addressed {b : BusState} (h : b ≠ .waiting) : b.addressed = true := by
  cases b <;> simp_all [BusState.addressed]

theorem readBytes_get (s : State) (p : Port) (ptr : BitVec 6) {count i : Nat} (h : i < count) :
    (readBytes (windowCopy s p) ptr count)[i]? = some (windowByte s p ((ptr.toNat + i) % 64)) := by
  simp [readBytes, h, copy_windowCopy, Fin.ofNat]

/-- Settles O58. -/
theorem i2cTransactions : Obligations.I2cTransactions := by
  intro s p
  refine ⟨fun byte => ⟨_, rfl, setBus_only .., ?_⟩, fun byte hb =>
      ⟨s.setBus p { s.bus p with state := .writing, pointer := byte.setWidth 6, stall := 0, acked := true },
        ?_, setBus_only .., ?_⟩,
    ⟨_, rfl, setBus_only .., ?_⟩, fun hb hst =>
      ⟨s.setBus p { s.bus p with state := .waiting, stall := 0, acked := false }, ?_, setBus_only .., ?_⟩,
    fun count _ hr => ⟨_, rfl, setBus_only .., ?_⟩⟩
  · rw [State.setBus_bus, if_pos rfl]
    unfold afterAddress
    have hm := addressMatches_iff byte
    by_cases h : byte = 0x7C#8 ∨ byte = 0x7D#8
    · cases hr : s.rstnAsserted with
      | true => simp
      | false =>
        rcases h with rfl | rfl
        · simp [addressMatches_iff, isReadAddress]
        · simp [addressMatches_iff, isReadAddress, copy_windowCopy]
    · have hf : addressMatches byte = false := by simpa [h] using hm
      rw [not_or] at h
      simp [hf, h.1, h.2]
  · exact congrArg Host.Outcome.next (if_pos hb)
  · rw [State.setBus_bus, if_pos rfl]
    exact ⟨rfl, rfl, by simp⟩
  · rw [State.setBus_bus, if_pos rfl]
    exact ⟨rfl, rfl, rfl⟩
  · exact congrArg Host.Outcome.next (if_pos ⟨not_waiting_addressed hb, hst⟩)
  · rw [State.setBus_bus, if_pos rfl]
    exact ⟨rfl, rfl, rfl⟩
  · rw [State.setBus_bus, if_pos rfl, hr]
    refine ⟨by simp [readBytes], fun i hi => readBytes_get s p _ hi, ?_⟩
    simp [BitVec.toNat_add]

/-! ## Data bytes -/

/-- What a data byte does to its port, and that it leaves everything else alone. -/
theorem dataByte_window (p : Port) (byte : Byte) (s : State) :
    (dataByte p byte s).window p = writeWindow (s.window p) (s.bus p).pointer.toNat byte := by
  change ((s.setWindow p _).setBus p _).window p = _
  rw [State.setBus_window, State.setWindow_window, if_pos rfl]

theorem dataByte_bus (p : Port) (byte : Byte) (s : State) : (dataByte p byte s).bus p =
    { s.bus p with
      pointer := (s.bus p).pointer + 1#6, stall := 0
      acked := dataAcked (s.window p) (s.bus p).pointer.toNat } := by
  change ((s.setWindow p _).setBus p _).bus p = _
  rw [State.setBus_bus, if_pos rfl]

theorem dataByte_others (p : Port) (byte : Byte) (s : State) (q : Port) (h : q ≠ p) :
    (dataByte p byte s).bus q = s.bus q ∧ (dataByte p byte s).window q = s.window q := by
  constructor
  · change ((s.setWindow p _).setBus p _).bus q = _
    rw [State.setBus_bus, if_neg h, State.setWindow_bus]
  · change ((s.setWindow p _).setBus p _).window q = _
    rw [State.setBus_window, State.setWindow_window, if_neg h]

theorem busy_iff (w : Window) : w.busy = true ↔ w.phase ≠ .idle := by simp [Window.busy]

theorem writeWindow_busy {w : Window} (h : w.phase ≠ .idle) (off : Nat) (byte : Byte) : writeWindow w off byte = w := by
  simp [writeWindow, (busy_iff w).mpr h]

theorem writeWindow_control {w : Window} (h : w.busy = false) (byte : Byte) :
    writeWindow w 1 byte = if byte.getLsbD 0 then { w with phase := .pending } else w := by
  unfold writeWindow
  rw [h, if_neg (by decide), if_neg (by decide), if_pos rfl]

theorem go_bit (upper : BitVec 7) : (upper ++ 1#1 : BitVec 8).getLsbD 0 = true := by
  revert upper
  decide

theorem argByte_set (a : Args) {off : Nat} (h : 4 ≤ off ∧ off < 0x24) (byte : Byte) (i : Nat) :
    argByte (a.set (off - 4) byte) i = if i = off then byte else argByte a i := by
  unfold argByte
  by_cases hi : 4 ≤ i ∧ i < 0x24
  · rw [dif_pos hi, dif_pos hi, Vector.getElem_set]
    refine if_congr ?_ rfl rfl
    omega
  · rw [dif_neg hi, dif_neg hi, if_neg]
    rintro rfl
    exact hi h

/-- Settles O59. -/
theorem dataBytes : Obligations.DataBytes := by
  intro s p byte b w off done hw
  have hdone : ∀ i y, exec i s = .next (dataByte p y s) → done i (dataByte p y s) := fun i y hi => by
    refine ⟨hi, ?_, ?_, fun q hq => dataByte_others p y s q hq, rfl⟩
    · rw [dataByte_bus]
    · rw [dataByte_bus]
      exact hw
  refine ⟨⟨dataByte p byte s, hdone _ _ (congrArg Host.Outcome.next (if_pos hw)), fun hb => ?_, fun hb => ?_⟩,
    fun upper ho => ⟨dataByte p (upper ++ 1#1) s, hdone _ _ ?_, fun hb => ?_, fun hb => ?_⟩⟩
  · rw [dataByte_window, dataByte_bus]
    refine ⟨writeWindow_busy hb _ _, ?_⟩
    change (!(s.window p).busy || decide (0x24 ≤ off)) = _
    rw [(busy_iff _).mpr hb]
    rfl
  · have hbusy : (s.window p).busy = false := by
      rw [← Bool.not_eq_true, busy_iff]
      exact not_not.mpr hb
    have hwin : (dataByte p byte s).window p = writeWindow w off byte := dataByte_window p byte s
    have hwb : w.busy = false := hbusy
    rw [hwin, dataByte_bus]
    refine ⟨by simp [dataAcked, hbusy], fun h0 => ?_, fun h1 hg => ?_, fun h1 hg => ?_, fun h4 h24 => ?_, fun h => ?_⟩
    · simp [writeWindow, hwb, h0]
    · rw [h1, writeWindow_control hwb, hg, if_pos rfl]
    · rw [h1, writeWindow_control hwb, hg, if_neg (by decide)]
    · have he : writeWindow w off byte = { w with args := w.args.set (off - 0x04) byte } := by
        unfold writeWindow
        rw [hwb, if_neg (by decide), if_neg (by omega), if_neg (by omega), dif_pos ⟨h4, h24⟩]
      rw [he]
      exact ⟨rfl, argByte_set w.args ⟨h4, h24⟩ byte⟩
    · unfold writeWindow
      rw [hwb, if_neg (by decide), if_neg (by omega), if_neg (by omega), dif_neg (by omega)]
  · refine congrArg Host.Outcome.next (if_pos ⟨hw, ?_⟩)
    exact BitVec.eq_of_toNat_eq ho
  · have hbusy : (s.window p).busy = false := by
      rw [← Bool.not_eq_true, busy_iff]
      exact not_not.mpr hb
    have hwin : (dataByte p (upper ++ 1#1) s).window p = { w with phase := .pending } := by
      rw [dataByte_window]
      change writeWindow w off _ = _
      rw [ho, writeWindow_control hbusy, go_bit, if_pos rfl]
    rw [dataByte_bus, windowByte_control, hwin]
    exact ⟨by simp [dataAcked, hbusy], rfl, rfl⟩
  · rw [dataByte_window, dataByte_bus]
    refine ⟨?_, writeWindow_busy hb _ _⟩
    change (!(s.window p).busy || decide (0x24 ≤ off)) = false
    rw [ho, (busy_iff _).mpr hb]
    rfl

end Sys2Proof.Machine

/-! PROOFS. What commands and engine rows leave alone: RSTN, charters, profiles, channels, windows and bus. O10 to O14. -/

namespace Sys2Proof.Machine

/-- What no work of the lease engine changes. -/
structure Kept (s t : State) : Prop where
  rstn : t.rstnAsserted = s.rstnAsserted
  charters : t.charters = s.charters
  profiles : t.profiles = s.profiles
  patChans : t.patChans = s.patChans
  guardChans : t.guardChans = s.guardChans
  windows : t.windows = s.windows
  buses : t.buses = s.buses
  served : t.lastServed = s.lastServed
  pending : t.pending = s.pending

theorem Kept.refl (s : State) : Kept s s := ⟨rfl, rfl, rfl, rfl, rfl, rfl, rfl, rfl, rfl⟩

theorem Kept.of_eq {s t : State} (h : t = s) : Kept s t := by
  rw [h]
  exact .refl s

theorem Kept.trans {s t u : State} (a : Kept s t) (b : Kept t u) : Kept s u where
  rstn := b.rstn.trans a.rstn
  charters := b.charters.trans a.charters
  profiles := b.profiles.trans a.profiles
  patChans := b.patChans.trans a.patChans
  guardChans := b.guardChans.trans a.guardChans
  windows := b.windows.trans a.windows
  buses := b.buses.trans a.buses
  served := b.served.trans a.served
  pending := b.pending.trans a.pending

theorem forSlots_kept {f : Slot → State → State} (h : ∀ k s, Kept s (f k s)) (s : State) : Kept s (forSlots f s) :=
  forSlots_inv (Kept s) f (fun k _ hu => hu.trans (h k _)) s (.refl s)

theorem forPorts_kept {f : Port → State → State} (h : ∀ k s, Kept s (f k s)) (s : State) : Kept s (forPorts f s) :=
  forPorts_inv (Kept s) f (fun k _ hu => hu.trans (h k _)) s (.refl s)

theorem kept_endStep {s u : State} (b : State) (h : Kept s u) : Kept s (endStep b u) :=
  h.trans (by constructor <;> simp)

theorem kept_endStepScan {s u : State} (b : State) (h : Kept s u) : Kept s (endStepScan b u) :=
  h.trans (by constructor <;> simp)

theorem kept_postSlot (p : Port) (k : Slot) (kd : KindSet) (d : Detail) (s : State) : Kept s (postSlot p k kd d s) := by
  constructor <;> simp

theorem kept_setLease (k : Slot) (l : Lease) (s : State) : Kept s (s.setLease k l) := .mk rfl rfl rfl rfl rfl rfl rfl rfl rfl

theorem kept_setMap (p : Port) (m : NoticeMap) (s : State) : Kept s (s.setMap p m) := .mk rfl rfl rfl rfl rfl rfl rfl rfl rfl

theorem kept_retire (k : Slot) (r : CloseReason) (s : State) : Kept s (retire k r s) := by constructor <;> simp

theorem kept_freeRecord (k : Slot) (s : State) : Kept s (freeRecord k s) := by constructor <;> simp

theorem kept_restartChecks (b s : State) : Kept s (restartChecks b s) := by constructor <;> simp

theorem kept_withdrawOffer (k : Slot) (s : State) : Kept s (withdrawOffer k s) := by constructor <;> simp

/-! ## The bodies of the commands -/

theorem kept_renewLease (k : Slot) (l : Lease) (granted applied : Nat) (s : State) :
    Kept s (renewLease k l granted applied s) := by
  unfold renewLease
  dsimp only
  split
  · constructor <;> simp
  all_goals exact kept_setLease ..

theorem kept_transfer (p : Port) (k : Slot) (l : Lease) (s : State) : Kept s (transfer p k l s) := by
  unfold transfer edgeToNewHolder
  split
  · split <;> constructor <;> simp
  · constructor <;> simp

theorem kept_setArmed (k : Slot) (l : Lease) (spec : GuardSpec) (g : GuardChan) (arm : Bool) (s : State) :
    Kept s (setArmed k l spec g arm s) := by
  unfold setArmed
  dsimp only
  split
  · constructor <;> simp
  · exact kept_setLease ..

theorem kept_replaceLevels (k : Slot) (l : Lease) (t : DriveType) (safe : Option Levels) (lv : Levels) (s : State) :
    Kept s (replaceLevels k l t safe lv s) := by
  constructor <;> simp [replaceLevels]

theorem kept_clearFaults (k : Slot) (l : Lease) (named : LineSet) (s : State) : Kept s (clearFaults k l named s) := by
  constructor <;> simp [clearFaults]

theorem kept_ackEdge (p : Port) (k : Slot) (gen : Byte) (s : State) : Kept s (ackEdge p k gen s) := by
  unfold ackEdge
  split
  · split
    · exact kept_setLease ..
    · exact .refl s
  · exact .refl s

theorem kept_ackRetired (p : Port) (k : Slot) (gen : Byte) (s : State) : Kept s (ackRetired p k gen s) := by
  unfold ackRetired
  split
  · split
    · exact kept_freeRecord ..
    · exact .refl s
  · exact .refl s

theorem kept_ackSlot (p : Port) (k : Slot) (e : SlotNotice) (nm : KindSet) (s : State) : Kept s (ackSlot p k e nm s) := by
  unfold ackSlot
  dsimp only
  refine (kept_setMap p ((s.map p).removeSlot k e.gen nm) s).trans ?_
  split <;> split
  · exact .refl _
  · exact kept_ackEdge ..
  · exact kept_ackRetired ..
  · exact (kept_ackEdge ..).trans (kept_ackRetired ..)

theorem kept_flagRecord (t : Port) (c : Charter) (k : Slot) (s : State) : Kept s (flagRecord t c k s) := by
  unfold flagRecord
  split
  · split
    · exact (kept_setLease ..).trans (kept_postSlot ..)
    · exact .refl s
  · exact .refl s

theorem kept_enqueue (p : Port) (a : Args) (r : Request) (s : State) : Kept s (enqueue p a r s).1 :=
  .mk rfl rfl rfl rfl rfl rfl rfl rfl rfl

theorem kept_directGrant (p : Port) (r : Request) (s : State) : Kept s (directGrant p r s).1 := by
  unfold directGrant
  split
  · constructor <;> simp
  · exact .refl s

theorem kept_requestBody (p : Port) (s : State) : Kept s (requestBody p s).1 := by
  unfold requestBody notNow
  dsimp only
  split
  · exact .refl s
  · split
    · split
      · exact .refl s
      · split
        · exact .refl s
        · exact kept_enqueue ..
    · exact kept_directGrant ..

theorem kept_cancelWaitBody (p : Port) (s : State) : Kept s (cancelWaitBody p s).1 := by
  unfold cancelWaitBody
  dsimp only
  split
  · exact kept_endStep _ (.mk rfl rfl rfl rfl rfl rfl rfl rfl rfl)
  · exact .refl s

theorem kept_renewBody (p : Port) (s : State) : Kept s (renewBody p s).1 := by
  unfold renewBody
  dsimp only
  split
  · exact .refl s
  · split
    · exact .refl s
    · split
      · exact .refl s
      · split
        · exact .refl s
        · exact kept_renewLease ..

theorem kept_releaseBody (p : Port) (s : State) : Kept s (releaseBody p s).1 := by
  unfold releaseBody
  dsimp only
  split
  · exact .refl s
  · split
    · exact kept_endStep _ (kept_retire ..)
    · exact .refl s

theorem kept_revokeBody (p : Port) (s : State) : Kept s (revokeBody p s).1 := by
  unfold revokeBody
  dsimp only
  split
  · exact .refl s
  · split
    · exact .refl s
    · rename_i k l _
      have retired : Kept s (endStep s (postSlot l.holder k SlotKind.revoked .none (retire k .revoked s))) :=
        kept_endStep _ ((kept_retire ..).trans (kept_postSlot ..))
      split
      · exact .refl s
      · refine kept_endStep _ ((?_ : Kept s (dropSlotKinds l.holder k SlotKind.retired s)).trans (kept_freeRecord ..))
        exact kept_setMap ..
      all_goals exact retired

theorem kept_offerBody (p : Port) (s : State) : Kept s (offerBody p s).1 := by
  unfold offerBody
  dsimp only
  split
  · exact .refl s
  · split
    · exact .refl s
    · split
      · exact .refl s
      · exact (kept_setLease ..).trans (kept_postSlot ..)

theorem kept_acceptBody (p : Port) (s : State) : Kept s (acceptBody p s).1 := by
  unfold acceptBody
  dsimp only
  split
  · exact .refl s
  · split
    · exact .refl s
    · exact kept_endStep _ (kept_transfer ..)

theorem kept_declineBody (p : Port) (s : State) : Kept s (declineBody p s).1 := by
  unfold declineBody
  dsimp only
  split
  · exact .refl s
  · split
    · constructor <;> simp
    · exact .refl s

theorem kept_withdrawBody (p : Port) (s : State) : Kept s (withdrawBody p s).1 := by
  unfold withdrawBody
  dsimp only
  split
  · exact .refl s
  · split
    · exact kept_withdrawOffer ..
    all_goals exact .refl s

theorem kept_setGuardBody (p : Port) (s : State) : Kept s (setGuardBody p s).1 := by
  unfold setGuardBody
  dsimp only
  split
  · exact .refl s
  · split
    · exact .refl s
    · split
      · exact kept_setArmed ..
      all_goals exact .refl s

theorem kept_setLevelsBody (p : Port) (s : State) : Kept s (setLevelsBody p s).1 := by
  unfold setLevelsBody
  dsimp only
  split
  · exact .refl s
  · split
    · split
      · exact kept_replaceLevels ..
      all_goals exact .refl s
    · exact .refl s

theorem kept_restartPatternBody (p : Port) (s : State) : Kept s (restartPatternBody p s).1 := by
  unfold restartPatternBody
  dsimp only
  split
  · exact .refl s
  · split
    · split
      · exact .mk rfl rfl rfl rfl rfl rfl rfl rfl rfl
      all_goals exact .refl s
    · exact .refl s

theorem kept_readLevelsBody (p : Port) (s : State) : Kept s (readLevelsBody p s).1 := by
  unfold readLevelsBody
  dsimp only
  split
  · exact .refl s
  · split
    · exact .refl s
    · dsimp only
      split
      · exact .mk rfl rfl rfl rfl rfl rfl rfl rfl rfl
      · exact .refl s

theorem kept_clearFaultBody (p : Port) (s : State) : Kept s (clearFaultBody p s).1 := by
  unfold clearFaultBody
  dsimp only
  split
  · exact .refl s
  · split
    · exact kept_clearFaults ..
    · exact .refl s

theorem kept_ackOn (p : Port) (gen : Byte) (nm : KindSet) (s : State) (x : Subject) : Kept s (ackOn p gen nm s x).1 := by
  cases x with
  | port =>
    simp only [ackOn]
    split
    · exact .refl s
    · exact kept_setMap ..
  | line n =>
    simp only [ackOn]
    split
    · exact kept_setMap ..
    · exact .refl s
  | slot k =>
    simp only [ackOn]
    split
    · exact .refl s
    · split
      · exact .refl s
      · split
        · exact .refl s
        · exact kept_endStep _ (kept_ackSlot ..)
  | ticket t =>
    simp only [ackOn]
    split
    · exact .refl s
    · exact kept_setMap ..

theorem kept_ackNoticeBody (p : Port) (s : State) : Kept s (ackNoticeBody p s).1 := by
  unfold ackNoticeBody
  dsimp only
  split
  · exact .refl s
  · split
    · exact .refl s
    · exact kept_ackOn ..

/-! P0's SET_LINE_PROFILE and SET_CHARTER rewrite a profile and a charter. -/

theorem kept_writeCharter (t : Port) (c : Charter) (s : State) :
    Kept { s with charters := vset s.charters t c } (writeCharter t c s) :=
  (forSlots_kept (kept_flagRecord t c) _).trans (kept_setMap ..)

theorem Kept.charterSet {s t : State} {c : Vector Charter 4} (h : Kept { s with charters := c } t) :
    Kept { s with charters := t.charters } t :=
  ⟨h.rstn, rfl, h.profiles, h.patChans, h.guardChans, h.windows, h.buses, h.served, h.pending⟩

theorem kept_setCharterBody (p : Port) (s : State) :
    Kept { s with charters := (setCharterBody p s).1.charters } (setCharterBody p s).1 := by
  unfold setCharterBody
  dsimp only
  split
  · exact .refl s
  · split
    · split
      · exact .refl s
      · rename_i t policy _ _ _
        exact (kept_endStepScan s (kept_writeCharter t (charterOf (s.args p) policy) s)).charterSet
    all_goals exact .refl s

theorem setCharterBody_other {p : Port} (h : p ≠ 0) (s : State) : setCharterBody p s = refuse s .notAdmin := by
  unfold setCharterBody
  exact if_pos h

theorem kept_setLineProfileBody (p : Port) (s : State) :
    Kept { s with profiles := (setLineProfileBody p s).1.profiles } (setLineProfileBody p s).1 := by
  unfold setLineProfileBody
  dsimp only
  split
  · exact .refl s
  · split
    · split
      · exact .refl s
      · exact ⟨by simp [writeProfile], by simp [writeProfile], rfl, by simp [writeProfile], by simp [writeProfile],
          by simp [writeProfile], by simp [writeProfile], by simp [writeProfile], by simp [writeProfile]⟩
    all_goals exact .refl s

theorem setLineProfileBody_other {p : Port} (h : p ≠ 0) (s : State) :
    setLineProfileBody p s = refuse s .notAdmin := by
  unfold setLineProfileBody
  exact if_pos h

/-! ## Commands taken -/

/-- A command that the arbiter passes is completed in the same step (R170, R172). -/
theorem command_completes {i : Instr} {p : Port} {body : State → State × Reply} {s : State}
    (he : exec i s = command i p body s) (h : takes s i p = true)
    (hk : Kept { s.take p with charters := (body (s.take p)).1.charters, profiles := (body (s.take p)).1.profiles }
      (body (s.take p)).1) :
    ∃ t st result, exec i s = .next t ∧ Answers s t p st result
      ∧ EngineKept { s with profiles := t.profiles, arrivals := t.arrivals } t := by
  refine ⟨_, _, _, by rw [he, command_taken h], answers_complete _ hk.windows hk.served, ?_⟩
  exact ⟨rfl, hk.patChans, hk.guardChans, hk.buses, hk.rstn, rfl, hk.pending⟩

/-- A body that leaves charters and profiles alone is one that may change them. -/
theorem Kept.store {s t : State} (h : Kept s t) :
    Kept { s with charters := t.charters, profiles := t.profiles } t :=
  ⟨h.rstn, rfl, rfl, h.patChans, h.guardChans, h.windows, h.buses, h.served, h.pending⟩

/-- Settles O13: the body of every command leaves the windows and what `EngineKept` names alone (`Kept`). -/
theorem takenCommandCompletes : Obligations.TakenCommandCompletes := by
  intro p s i ht hne
  have charter : Kept { s.take p with
      charters := (setCharterBody p (s.take p)).1.charters, profiles := (setCharterBody p (s.take p)).1.profiles }
      (setCharterBody p (s.take p)).1 := by
    obtain ⟨h₁, -, -, h₂, h₃, h₄, h₅, h₆, h₇⟩ := kept_setCharterBody p (s.take p)
    exact ⟨h₁, rfl, rfl, h₂, h₃, h₄, h₅, h₆, h₇⟩
  have profile : Kept { s.take p with
      charters := (setLineProfileBody p (s.take p)).1.charters
      profiles := (setLineProfileBody p (s.take p)).1.profiles } (setLineProfileBody p (s.take p)).1 := by
    obtain ⟨h₁, -, -, h₂, h₃, h₄, h₅, h₆, h₇⟩ := kept_setLineProfileBody p (s.take p)
    exact ⟨h₁, rfl, rfl, h₂, h₃, h₄, h₅, h₆, h₇⟩
  generalize hi : i = j at ht hne ⊢
  unfold i decodeCommand at hi
  split at hi <;> subst hi
  · exact command_completes (exec_request ..) ht (kept_requestBody ..).store
  · exact command_completes (exec_cancelWait ..) ht (kept_cancelWaitBody ..).store
  · exact command_completes (exec_queryQueue ..) ht (Kept.of_eq (queryQueueBody_state ..)).store
  · exact command_completes (exec_queryLease ..) ht (Kept.of_eq (queryLeaseBody_state ..)).store
  · exact command_completes (exec_lookupLine ..) ht (Kept.of_eq (lookupLineBody_state ..)).store
  · exact command_completes (exec_renew ..) ht (kept_renewBody ..).store
  · exact command_completes (exec_release ..) ht (kept_releaseBody ..).store
  · exact command_completes (exec_revoke ..) ht (kept_revokeBody ..).store
  · exact command_completes (exec_offer ..) ht (kept_offerBody ..).store
  · exact command_completes (exec_accept ..) ht (kept_acceptBody ..).store
  · exact command_completes (exec_decline ..) ht (kept_declineBody ..).store
  · exact command_completes (exec_withdraw ..) ht (kept_withdrawBody ..).store
  · exact command_completes (exec_setGuard ..) ht (kept_setGuardBody ..).store
  · exact command_completes (exec_setLevels ..) ht (kept_setLevelsBody ..).store
  · exact command_completes (exec_restartPattern ..) ht (kept_restartPatternBody ..).store
  · exact command_completes (exec_readLevels ..) ht (kept_readLevelsBody ..).store
  · exact command_completes (exec_clearFault ..) ht (kept_clearFaultBody ..).store
  · exact command_completes (exec_setLineProfile ..) ht profile
  · exact command_completes (exec_setCharter ..) ht charter
  · exact command_completes (exec_readCharter ..) ht (Kept.of_eq (readCharterBody_state ..)).store
  · exact absurd rfl hne
  · exact command_completes (exec_nextNotice ..) ht (Kept.of_eq (nextNoticeBody_state ..)).store
  · exact command_completes (exec_ackNotice ..) ht (kept_ackNoticeBody ..).store
  · exact command_completes (exec_unknownCommand ..) ht (Kept.refl _).store

/-! ## The arbiter (R170) -/

/-- A test of the four ports by its four answers. -/
def portTest (a b c d : Bool) (q : Port) : Bool :=
  match q with
  | 0 => a
  | 1 => b
  | 2 => c
  | 3 => d

theorem portTest_self (f : Port → Bool) : portTest (f 0) (f 1) (f 2) (f 3) = f := by
  funext q
  fin_cases q <;> rfl

/-- Of the ports in cyclic order after `last`, the first that satisfies a test. -/
theorem first_in_turn : ∀ (last p : Port) (a b c d : Bool),
    ([last + 1, last + 2, last + 3, last].find? (portTest a b c d) = some p
      ↔ portTest a b c d p = true ∧ ∀ q, portTest a b c d q = true → p - last - 1 ≤ q - last - 1) := by
  decide

/-- Settles O12. -/
theorem arbiterServesInTurn : Obligations.ArbiterServesInTurn := by
  intro s p
  have h := first_in_turn s.lastServed p ((s.window 0).phase == .pending) ((s.window 1).phase == .pending)
    ((s.window 2).phase == .pending) ((s.window 3).phase == .pending)
  rw [portTest_self fun q => (s.window q).phase == .pending] at h
  simpa only [nextPort, beq_iff_eq] using h

end Sys2Proof.Machine

/-! PROOFS. Who changes charters, profiles and windows (O10, O11), and the common refusals (O14). -/

namespace Sys2Proof.Machine

/-- The charters, the profiles and the windows stay. -/
structure Stored (s t : State) : Prop where
  charters : t.charters = s.charters
  profiles : t.profiles = s.profiles
  windows : t.windows = s.windows

theorem Stored.refl (s : State) : Stored s s := ⟨rfl, rfl, rfl⟩

theorem Stored.trans {s t u : State} (a : Stored s t) (b : Stored t u) : Stored s u :=
  ⟨b.charters.trans a.charters, b.profiles.trans a.profiles, b.windows.trans a.windows⟩

theorem Kept.stored {s t : State} (h : Kept s t) : Stored s t := ⟨h.charters, h.profiles, h.windows⟩

/-! ## The rows of the engine -/

theorem kept_tickQueue (s : State) : Kept s (tickQueue s) := by
  have h : ∀ (es : List QueueEntry) (u : State),
      Kept u (es.foldl (fun s (e : QueueEntry) => waitExpiryStep e.port e.ticket s) u) := fun es => by
    induction es with
    | nil => exact fun u => .refl u
    | cons e es ih => exact fun u => Kept.trans (by constructor <;> simp) (ih _)
  have h₀ : Kept s (countWaits s) := .mk rfl rfl rfl rfl rfl rfl rfl rfl rfl
  exact h₀.trans (h _ (countWaits s))

theorem kept_tick (s : State) : Kept s (forPorts tickQuiet (tickQueue (forSlots tickSlot s))) := by
  have h₁ : ∀ k u, Kept u (tickSlot k u) := fun k u => by constructor <;> simp
  have h₂ : ∀ p u, Kept u (tickQuiet p u) := fun p u => by constructor <;> simp [tickQuiet]
  exact ((forSlots_kept h₁ s).trans (kept_tickQueue _)).trans (forPorts_kept h₂ _)

theorem kept_edgeEffect (h : Handle) (n : Line) (v : Level) (s : State) : Kept s (edgeEffect h n v s) := by
  unfold edgeEffect
  split
  · split
    · dsimp only
      split
      · exact (kept_setLease ..).trans (kept_postSlot ..)
      · exact kept_setLease ..
    · exact .refl s
  · exact .refl s

theorem kept_faultEffect (h : Handle) (n : Line) (s : State) : Kept s (faultEffect h n s) := by
  unfold faultEffect
  split
  · split
    · dsimp only
      split
      · exact ((kept_setLease ..).trans (kept_postSlot ..)).trans (kept_retire ..)
      · exact (kept_setLease ..).trans (kept_postSlot ..)
    · exact .refl s
  · exact .refl s

theorem kept_cancelWaits (t : Port) (s : State) : Kept s (cancelWaits t s) := by
  have h : ∀ (es : List QueueEntry) (u : State),
      Kept u (es.foldl (fun s e => postTicket e TicketKind.waitCancelled s) u) := fun es => by
    induction es with
    | nil => exact fun u => .refl u
    | cons e es ih => exact fun u => Kept.trans (kept_setMap ..) (ih _)
  have h₀ : Kept s (dropWaits t s) := .mk rfl rfl rfl rfl rfl rfl rfl rfl rfl
  exact h₀.trans (h _ (dropWaits t s))

theorem kept_recallSlot (t : Port) (k : Slot) (s : State) : Kept s (recallSlot t k s) := by
  unfold recallSlot
  split
  · split
    · exact kept_retire ..
    · exact .refl s
  · exact .refl s

theorem kept_cancelOffersTo (t : Port) (s : State) : Kept s (cancelOffersTo t s) := by constructor <;> simp

theorem kept_makeQuiet (t : Port) (time : Nat) (s : State) : Kept s (makeQuiet t time s) := by
  unfold makeQuiet
  split
  · exact .mk rfl rfl rfl rfl rfl rfl rfl rfl rfl
  · exact .refl s

theorem kept_recallPort (t : Port) (time : Nat) (s : State) : Kept s (recallPort t time s) :=
  ((((forSlots_kept (kept_recallSlot t) s).trans (kept_cancelOffersTo ..)).trans (kept_cancelWaits ..)).trans
    (kept_makeQuiet ..)).trans (kept_setMap ..)

theorem kept_fireEffect (h : Handle) (carried : Bool) (s : State) : Kept s (fireEffect h carried s) := by
  unfold fireEffect
  split
  · split
    · split
      · exact (kept_recallPort ..).trans (kept_postSlot ..)
      all_goals exact kept_postSlot ..
    all_goals exact kept_postSlot ..
  · exact .refl s

theorem kept_settleEffect (h : Handle) (s : State) : Kept s (settleEffect h s) := by
  unfold settleEffect
  split
  · split
    · constructor <;> simp
    all_goals exact .refl s
  · exact .refl s

theorem kept_patternDoneEffect (h : Handle) (s : State) : Kept s (patternDoneEffect h s) := by
  unfold patternDoneEffect
  split
  · split
    · exact kept_postSlot ..
    · exact .refl s
  · exact .refl s

theorem kept_reports (s : State) (r : List Report) : Kept s { s with reports := r } :=
  .mk rfl rfl rfl rfl rfl rfl rfl rfl rfl

theorem kept_resetSlot (t : Port) (k : Slot) (s : State) : Kept s (resetSlot t k s) := by
  have live : ∀ l : Lease, Kept s (if l.term.isNone then
      withdrawOffer k (s.setLease k { l with params := l.params.setChanged 0#16 }) else retire k .portReset s) :=
    fun l => by
      split
      · exact (kept_setLease ..).trans (kept_withdrawOffer ..)
      · exact kept_retire ..
  unfold resetSlot
  split
  · split
    · split
      · exact kept_freeRecord ..
      · exact .refl s
      all_goals exact live _
    · exact .refl s
  · exact .refl s

/-- The work of a port reset, its window apart. -/
theorem kept_resetWork (t : Port) (s : State) :
    Kept s ((dropWaits t (cancelOffersTo t (forSlots (resetSlot t) s))).setMap t NoticeMap.empty) := by
  have h : ∀ u : State, Kept u (dropWaits t u) := fun u => .mk rfl rfl rfl rfl rfl rfl rfl rfl rfl
  exact (((forSlots_kept (kept_resetSlot t) s).trans (kept_cancelOffersTo ..)).trans (h _)).trans (kept_setMap ..)

theorem resetPortEffect_eq (t : Port) (s : State) : resetPortEffect t s
    = clearWindow t ((dropWaits t (cancelOffersTo t (forSlots (resetSlot t) s))).setMap t NoticeMap.empty) := rfl

/-! ## The tick -/

/-- A drive fault may set rest-fault flags; nothing else of the line bank, the channels or the bus touches what is
stored. -/
structure RestOnly (s t : State) : Prop where
  charters : t.charters = s.charters
  windows : t.windows = s.windows
  profiles : ∀ n, { t.profile n with restFault := (s.profile n).restFault } = s.profile n

theorem Stored.restOnly {s t : State} (h : Stored s t) : RestOnly s t :=
  ⟨h.charters, h.windows, fun n => by simp [State.profile, h.profiles]⟩

theorem RestOnly.trans {s t u : State} (a : RestOnly s t) (b : RestOnly t u) : RestOnly s u :=
  ⟨b.charters.trans a.charters, b.windows.trans a.windows, fun n => by
    have h := congrArg (fun f : Profile => { f with restFault := (s.profile n).restFault }) (b.profiles n)
    exact h.trans (a.profiles n)⟩

theorem restOnly_driveFaultEnd (n : Line) (s : State) : RestOnly s (driveFaultEnd n s) := by
  refine ⟨by simp, by simp, fun m => ?_⟩
  unfold driveFaultEnd
  split
  · dsimp only
    split
    · rfl
    · change { ((s.setCell n _).setProfile n _).profile m with restFault := (s.profile m).restFault } = s.profile m
      rw [State.setProfile_profile]
      split
      · rename_i e
        rw [e]
        rfl
      · rfl
  · rfl

theorem restOnly_tickPart (pads : Levels) (scl : SclTick) (x : State × List GuardChan) (part : TickPart) :
    RestOnly x.1 (tickPart pads scl x part).1 := by
  cases part with
  | sample n =>
    have h₁ : Stored x.1 (debounceSample n (has pads n) x.1) := ⟨by simp, by simp, by simp⟩
    have h₂ : ∀ u : State, RestOnly u (compareSample n (has pads n) u) := fun u => by
      have count : ∀ c, RestOnly u (u.setCell n c) := fun c => Stored.restOnly ⟨rfl, rfl, rfl⟩
      unfold compareSample
      dsimp only
      split <;> exact (count _).trans (restOnly_driveFaultEnd ..)
    exact h₁.restOnly.trans (h₂ _)
  | pattern c => exact Stored.restOnly ⟨by simp [tickPart], by simp [tickPart], by simp [tickPart]⟩
  | guard g =>
    simp only [tickPart]
    split
    · exact (Stored.refl _).restOnly
    · exact Stored.restOnly ⟨by simp, by simp, by simp⟩
  | settle k => exact Stored.restOnly ⟨by simp [tickPart], by simp [tickPart], by simp [tickPart]⟩
  | bus p => exact Stored.restOnly ⟨by simp [tickPart], by simp [tickPart], by simp [tickPart]⟩

theorem restOnly_tickParts (pads : Levels) (scl : SclTick) (parts : List TickPart) (x : State × List GuardChan) :
    RestOnly x.1 (parts.foldl (tickPart pads scl) x).1 := by
  induction parts generalizing x with
  | nil => exact (Stored.refl _).restOnly
  | cons a parts ih => exact (restOnly_tickPart pads scl x a).trans (ih _)

/-! ## Every row -/

/-- Which rows may change the charters, the profiles and a window. -/
structure StoredBy (i : Instr) (s t : State) : Prop where
  charters : t.charters = s.charters ∨ i = .setCharter 0 ∨ i = .deviceReset
  profiles : t.profiles = s.profiles ∨ i = .setLineProfile 0 ∨ i = .deviceReset
    ∨ (((∃ n, i = .driveFault n) ∨ ∃ pads scl order, i = .msTick pads scl order)
      ∧ ∀ n, { t.profile n with restFault := (s.profile n).restFault } = s.profile n)
  windows : ∀ q, t.window q = s.window q ∨ (∃ code, i = decodeCommand q code) ∨ (∃ byte, i = .windowWrite q byte)
    ∨ (∃ upper, i = .controlGo q upper) ∨ i = .resetPort 0 ∨ i = .deviceReset

theorem Stored.by {i : Instr} {s t : State} (h : Stored s t) : StoredBy i s t :=
  ⟨.inl h.charters, .inl h.profiles, fun q => .inl (by simp [State.window, h.windows])⟩

theorem stored_next {i : Instr} {s t u : State}
    (h : (Host.Outcome.next u : Host.Outcome State Fault Refusal) = .next t) (r : Stored s u) : StoredBy i s t := by
  obtain rfl := Host.Outcome.next.inj h
  exact r.by

/-- A command of a port touches that port's window alone. -/
theorem command_storedBy {i : Instr} {p : Port} {body : State → State × Reply} {s t : State} {code : Byte}
    (hi : i = decodeCommand p code) (h : command i p body s = .next t)
    (hc : (body (s.take p)).1.charters = s.charters ∨ i = .setCharter 0)
    (hp : (body (s.take p)).1.profiles = s.profiles ∨ i = .setLineProfile 0)
    (hw : (body (s.take p)).1.windows = (s.take p).windows) : StoredBy i s t := by
  unfold command at h
  split at h
  · obtain rfl := Host.Outcome.next.inj h
    refine ⟨hc.imp_right .inl, hp.imp_right .inl, fun q => ?_⟩
    by_cases hq : q = p
    · exact .inr (.inl ⟨code, hq ▸ hi⟩)
    · refine .inl ?_
      rw [State.complete_window, if_neg hq, State.window, hw]
      exact (State.take_window ..).trans (if_neg hq)
  · obtain rfl := Host.Outcome.next.inj h
    exact (Stored.refl s).by

theorem command_kept_storedBy {i : Instr} {p : Port} {body : State → State × Reply} {s t : State} {code : Byte}
    (hi : i = decodeCommand p code) (h : command i p body s = .next t)
    (hk : Kept (s.take p) (body (s.take p)).1) : StoredBy i s t :=
  command_storedBy hi h (.inl hk.charters) (.inl hk.profiles) hk.windows

theorem clearWindow_window (t q : Port) (s : State) (h : q ≠ t) : (clearWindow t s).window q = s.window q := by
  unfold clearWindow
  rw [State.setWindow_window, if_neg h]

theorem resetPort_storedBy {p : Port} {s t : State} (h : exec (.resetPort p) s = .next t) :
    StoredBy (.resetPort p) s t := by
  rw [exec_resetPort] at h
  split at h
  · obtain rfl := Host.Outcome.next.inj h
    have own : ∀ q, q = p → (∃ code, Instr.resetPort p = decodeCommand q code) := fun q hq => ⟨0x3A#8, by rw [hq]; rfl⟩
    have done : ∀ (u : State) (r : Reply), StoredBy (.resetPort p) s u → StoredBy (.resetPort p) s (u.complete p r) :=
      fun u r hu => ⟨hu.charters, hu.profiles, fun q => by
        by_cases hq : q = p
        · exact .inr (.inl (own q hq))
        · rw [State.complete_window, if_neg hq]
          exact hu.windows q⟩
    have taken : StoredBy (.resetPort p) s (s.take p) := ⟨.inl rfl, .inl rfl, fun q => by
      by_cases hq : q = p
      · exact .inr (.inl (own q hq))
      · exact .inl ((State.take_window ..).trans (if_neg hq))⟩
    unfold resetPortStep
    split
    · exact done _ _ taken
    · rename_i r hr
      split
      · exact done _ _ taken
      · rename_i hadmin
        have hk := kept_resetWork r (s.take p)
        have reset : StoredBy (.resetPort p) s (endStepScan (s.take p) (resetPortEffect r (s.take p))) := by
          rw [resetPortEffect_eq]
          generalize (dropWaits r (cancelOffersTo r (forSlots (resetSlot r) (s.take p)))).setMap r NoticeMap.empty = u at hk
          refine ⟨.inl ((endStepScan_frame ..).2.2.1.trans hk.charters), .inl ((endStepScan_frame ..).2.2.2.1.trans hk.profiles),
            fun q => ?_⟩
          have hwin : (endStepScan (s.take p) (clearWindow r u)).window q = (clearWindow r u).window q := by
            simp [State.window]
          by_cases hq : q = p
          · exact .inr (.inl (own q hq))
          · by_cases hr0 : p = 0
            · exact .inr (.inr (.inr (.inr (.inl (by rw [hr0])))))
            · have hrp : r = p := by
                by_contra hne
                exact hadmin ⟨hne, hr0⟩
              refine .inl ?_
              rw [hwin, clearWindow_window r q u (fun e => hq (e.trans hrp)), State.window, hk.windows]
              exact (State.take_window ..).trans (if_neg hq)
        dsimp only
        split
        · exact reset
        · exact done _ _ reset
  · obtain rfl := Host.Outcome.next.inj h
    exact (Stored.refl s).by

theorem reports_storedBy {i : Instr} {s t : State}
    (hi : (∃ n, i = .edgeReport n ∨ i = .faultReport n ∨ i = .restFaultReport n)
      ∨ ∃ k, i = .settleComplete k ∨ i = .patternDoneReport k ∨ i = .fireReport k)
    (h : exec i s = .next t) : StoredBy i s t := by
  rcases hi with ⟨n, rfl | rfl | rfl⟩ | ⟨k, rfl | rfl | rfl⟩
  · simp only [exec, execEdgeReport] at h
    split at h
    · exact stored_next h ((kept_reports s _).trans (kept_edgeEffect ..)).stored
    all_goals exact stored_next h (.refl s)
  · simp only [exec, execFaultReport] at h
    split at h
    · exact stored_next h ((kept_reports s _).trans (kept_endStep _ (kept_faultEffect ..))).stored
    all_goals exact stored_next h (.refl s)
  · simp only [exec, execRestFaultReport] at h
    split at h
    · exact stored_next h ((kept_reports s _).trans (kept_setMap ..)).stored
    all_goals exact stored_next h (.refl s)
  · simp only [exec, execSettleComplete] at h
    split at h
    · exact stored_next h ((kept_reports s _).trans (kept_settleEffect ..)).stored
    all_goals exact stored_next h (.refl s)
  · simp only [exec, execPatternDoneReport] at h
    split at h
    · exact stored_next h ((kept_reports s _).trans (kept_patternDoneEffect ..)).stored
    all_goals exact stored_next h (.refl s)
  · simp only [exec, execFireReport] at h
    split at h
    · exact stored_next h ((kept_reports s _).trans (kept_endStep _ (kept_fireEffect ..))).stored
    all_goals exact stored_next h (.refl s)

theorem dataByte_storedBy {i : Instr} {p : Port} {byte : Byte} {s : State}
    (hi : (∃ byte, i = .windowWrite p byte) ∨ ∃ upper, i = .controlGo p upper) :
    StoredBy i s (dataByte p byte s) := by
  refine ⟨.inl rfl, .inl rfl, fun q => ?_⟩
  by_cases hq : q = p
  · subst hq
    exact .inr (.inr (hi.imp_right .inl))
  · exact .inl (dataByte_others p byte s q hq).2

theorem exec_storedBy {i : Instr} {s t : State} (h : exec i s = .next t) : StoredBy i s t := by
  cases i with
  | request p => exact command_kept_storedBy (code := 0x01#8) rfl h (kept_requestBody ..)
  | cancelWait p => exact command_kept_storedBy (code := 0x02#8) rfl h (kept_cancelWaitBody ..)
  | queryQueue p => exact command_kept_storedBy (code := 0x03#8) rfl h (.of_eq (queryQueueBody_state ..))
  | queryLease p => exact command_kept_storedBy (code := 0x08#8) rfl h (.of_eq (queryLeaseBody_state ..))
  | lookupLine p => exact command_kept_storedBy (code := 0x09#8) rfl h (.of_eq (lookupLineBody_state ..))
  | renew p => exact command_kept_storedBy (code := 0x10#8) rfl h (kept_renewBody ..)
  | release p => exact command_kept_storedBy (code := 0x11#8) rfl h (kept_releaseBody ..)
  | revoke p => exact command_kept_storedBy (code := 0x12#8) rfl h (kept_revokeBody ..)
  | offer p => exact command_kept_storedBy (code := 0x18#8) rfl h (kept_offerBody ..)
  | accept p => exact command_kept_storedBy (code := 0x19#8) rfl h (kept_acceptBody ..)
  | decline p => exact command_kept_storedBy (code := 0x1A#8) rfl h (kept_declineBody ..)
  | withdraw p => exact command_kept_storedBy (code := 0x1B#8) rfl h (kept_withdrawBody ..)
  | setGuard p => exact command_kept_storedBy (code := 0x20#8) rfl h (kept_setGuardBody ..)
  | setLevels p => exact command_kept_storedBy (code := 0x28#8) rfl h (kept_setLevelsBody ..)
  | restartPattern p => exact command_kept_storedBy (code := 0x29#8) rfl h (kept_restartPatternBody ..)
  | readLevels p => exact command_kept_storedBy (code := 0x2A#8) rfl h (kept_readLevelsBody ..)
  | clearFault p => exact command_kept_storedBy (code := 0x2B#8) rfl h (kept_clearFaultBody ..)
  | setLineProfile p =>
    by_cases hp : p = 0
    · have hk := kept_setLineProfileBody p (s.take p)
      exact command_storedBy (code := 0x30#8) rfl h (.inl hk.charters) (.inr (by rw [hp])) hk.windows
    · exact command_kept_storedBy (code := 0x30#8) rfl h (.of_eq (by rw [setLineProfileBody_other hp]; rfl))
  | setCharter p =>
    by_cases hp : p = 0
    · have hk := kept_setCharterBody p (s.take p)
      exact command_storedBy (code := 0x38#8) rfl h (.inr (by rw [hp])) (.inl hk.profiles) hk.windows
    · exact command_kept_storedBy (code := 0x38#8) rfl h (.of_eq (by rw [setCharterBody_other hp]; rfl))
  | readCharter p => exact command_kept_storedBy (code := 0x39#8) rfl h (.of_eq (readCharterBody_state ..))
  | resetPort p => exact resetPort_storedBy h
  | nextNotice p => exact command_kept_storedBy (code := 0x40#8) rfl h (.of_eq (nextNoticeBody_state ..))
  | ackNotice p => exact command_kept_storedBy (code := 0x41#8) rfl h (kept_ackNoticeBody ..)
  | unknownCommand p =>
    exact command_kept_storedBy (code := 0x00#8) rfl (exec_unknownCommand p s ▸ h) (.refl _)
  | termTick => exact stored_next h (kept_endStep _ (kept_tick s)).stored
  | termEnd k => exact stored_next h ⟨by simp, by simp, by simp⟩
  | graceEnd k => exact stored_next h ⟨by simp, by simp, by simp⟩
  | offerLapse k => exact stored_next h ⟨by simp, by simp, by simp⟩
  | waitExpiry p n => exact stored_next h ⟨by simp, by simp, by simp⟩
  | quietEnd p =>
    refine stored_next h ?_
    split
    · exact ⟨by simp, by simp, by simp⟩
    · exact .refl s
  | edgeReport n => exact reports_storedBy (.inl ⟨n, .inl rfl⟩) h
  | faultReport n => exact reports_storedBy (.inl ⟨n, .inr (.inl rfl)⟩) h
  | restFaultReport n => exact reports_storedBy (.inl ⟨n, .inr (.inr rfl)⟩) h
  | settleComplete k => exact reports_storedBy (.inr ⟨k, .inl rfl⟩) h
  | patternDoneReport k => exact reports_storedBy (.inr ⟨k, .inr (.inl rfl)⟩) h
  | fireReport k => exact reports_storedBy (.inr ⟨k, .inr (.inr rfl)⟩) h
  | msTick pads scl order =>
    obtain rfl := Host.Outcome.next.inj h
    split
    · exact (Stored.refl s).by
    · have r := restOnly_tickParts pads scl (tickParts order) (s, [])
      exact ⟨.inl r.charters, .inr (.inr (.inr ⟨.inr ⟨pads, scl, order, rfl⟩, r.profiles⟩)),
        fun q => .inl (by simp [State.window, r.windows])⟩
  | debouncedChange n =>
    refine stored_next h ?_
    split
    · exact ⟨by simp, by simp, by simp⟩
    · exact .refl s
  | driveFault n =>
    obtain rfl := Host.Outcome.next.inj h
    have r := restOnly_driveFaultEnd n s
    exact ⟨.inl r.charters, .inr (.inr (.inr ⟨.inl ⟨n, rfl⟩, r.profiles⟩)),
      fun q => .inl (congrArg (vget · q) r.windows)⟩
  | settleCountdownEnd k => exact stored_next h ⟨by simp, by simp, by simp⟩
  | stepEnd c => exact stored_next h ⟨by simp, by simp, by simp⟩
  | guardFire g => exact stored_next h ⟨by simp, by simp, by simp⟩
  | pulseEnd g => exact stored_next h ⟨by simp, by simp, by simp⟩
  | patternSetup c => exact stored_next h ⟨by simp, by simp, by simp⟩
  | patternPause c => exact stored_next h ⟨by simp, by simp, by simp⟩
  | patternResume c => exact stored_next h ⟨by simp, by simp, by simp⟩
  | patternRestart c => exact stored_next h ⟨by simp, by simp, by simp⟩
  | patternFree c => exact stored_next h ⟨by simp, by simp, by simp⟩
  | guardSetup g => exact stored_next h ⟨by simp, by simp, by simp⟩
  | guardArm g => exact stored_next h ⟨by simp, by simp, by simp⟩
  | guardDisarm g => exact stored_next h ⟨by simp, by simp, by simp⟩
  | guardSuspend g => exact stored_next h ⟨by simp, by simp, by simp⟩
  | guardUnsuspend g => exact stored_next h ⟨by simp, by simp, by simp⟩
  | guardFree g => exact stored_next h ⟨by simp, by simp, by simp⟩
  | i2cAddress p byte => exact stored_next h ⟨rfl, rfl, rfl⟩
  | i2cOffset p byte =>
    refine stored_next h ?_
    split
    · exact ⟨rfl, rfl, rfl⟩
    · exact .refl s
  | windowWrite p byte =>
    obtain rfl := Host.Outcome.next.inj h
    split
    · exact dataByte_storedBy (.inl ⟨byte, rfl⟩)
    · exact (Stored.refl s).by
  | controlGo p upper =>
    obtain rfl := Host.Outcome.next.inj h
    split
    · exact dataByte_storedBy (.inr ⟨upper, rfl⟩)
    · exact (Stored.refl s).by
  | i2cRead p count => exact stored_next h ⟨rfl, rfl, rfl⟩
  | i2cStallTimeout p => exact stored_next h ⟨by simp, by simp, by simp⟩
  | deviceReset =>
    exact ⟨.inr (.inr rfl), .inr (.inr (.inl rfl)), fun q => .inr (.inr (.inr (.inr (.inr rfl))))⟩
  | rstnRelease pads =>
    refine stored_next h ?_
    split
    · exact ⟨rfl, rfl, rfl⟩
    · exact .refl s
  | i2cStop p => exact stored_next h ⟨rfl, rfl, rfl⟩

/-- Settles O10. -/
theorem chartersAndProfilesChangeByAdmin : Obligations.ChartersAndProfilesChangeByAdmin := fun _ _ _ h =>
  ⟨fun hne => (exec_storedBy h).charters.resolve_left hne, fun hne => (exec_storedBy h).profiles.resolve_left hne⟩

/-- Settles O11. -/
theorem windowChangesByOwnPort : Obligations.WindowChangesByOwnPort := fun _ _ _ q h hne =>
  ((exec_storedBy h).windows q).resolve_left hne

end Sys2Proof.Machine

/-! PROOFS. The refusals that commands have in common (O14). -/

namespace Sys2Proof.Machine

/-- A holder command refuses what the four checks of R3 refuse. -/
def HolderBody (p : Port) (body : State → State × Reply) : Prop :=
  ∀ u e, checkHolder u p (argByte (u.args p) 0x04) (argByte (u.args p) 0x05) = .error e → body u = refuse u e

/-- ACCEPT, DECLINE and P0's REVOKE refuse what the first three checks of R3 refuse. -/
def HandleBody (p : Port) (body : State → State × Reply) : Prop :=
  ∀ u e, checkHandle u (argByte (u.args p) 0x04) (argByte (u.args p) 0x05) = .error e → body u = refuse u e

theorem renew_holder (p : Port) : HolderBody p (renewBody p) := fun u e h => by simp only [renewBody, h]
theorem release_holder (p : Port) : HolderBody p (releaseBody p) := fun u e h => by simp only [releaseBody, h]
theorem offer_holder (p : Port) : HolderBody p (offerBody p) := fun u e h => by simp only [offerBody, h]
theorem withdraw_holder (p : Port) : HolderBody p (withdrawBody p) := fun u e h => by simp only [withdrawBody, h]
theorem setGuard_holder (p : Port) : HolderBody p (setGuardBody p) := fun u e h => by simp only [setGuardBody, h]
theorem setLevels_holder (p : Port) : HolderBody p (setLevelsBody p) := fun u e h => by simp only [setLevelsBody, h]
theorem restartPattern_holder (p : Port) : HolderBody p (restartPatternBody p) := fun u e h => by
  simp only [restartPatternBody, h]
theorem readLevels_holder (p : Port) : HolderBody p (readLevelsBody p) := fun u e h => by simp only [readLevelsBody, h]
theorem clearFault_holder (p : Port) : HolderBody p (clearFaultBody p) := fun u e h => by simp only [clearFaultBody, h]
theorem accept_handle (p : Port) : HandleBody p (acceptBody p) := fun u e h => by simp only [acceptBody, h]
theorem decline_handle (p : Port) : HandleBody p (declineBody p) := fun u e h => by simp only [declineBody, h]
theorem revoke_handle : HandleBody 0 (revokeBody 0) := fun u e h => by
  simp only [revokeBody, ne_eq, not_true_eq_false, if_false, h]

/-- The handle checks of a command that asks the first three checks of R3. -/
theorem HandleBody.refuses {p : Port} {i : Instr} {body : State → State × Reply} {s : State} (h : HandleBody p body)
    (he : exec i s = command i p body s) (ht : takes s i p = true) :
    (slotOf (argByte (s.args p) 0x04) = none → Refuses i s p .badArgument)
      ∧ ∀ k, slotOf (argByte (s.args p) 0x04) = some k →
        (s.lease k = none ∨ (s.handle k).gen ≠ argByte (s.args p) 0x05) → Refuses i s p .badHandle := by
  refine ⟨fun hn => Machine.refuses he ht (h _ _ ?_), fun k hk hs => Machine.refuses he ht (h _ _ ?_)⟩
  · exact checkHandle_noSlot (by rw [State.take_args]; exact hn)
  · exact checkHandle_stale (k := k) (by rw [State.take_args]; exact hk) (by rw [State.take_args]; exact hs)

/-- The handle checks of a holder command. -/
theorem HolderBody.refuses {p : Port} {i : Instr} {body : State → State × Reply} {s : State} (h : HolderBody p body)
    (he : exec i s = command i p body s) (ht : takes s i p = true) :
    (slotOf (argByte (s.args p) 0x04) = none → Refuses i s p .badArgument)
      ∧ ∀ k, slotOf (argByte (s.args p) 0x04) = some k →
        (s.lease k = none ∨ (s.handle k).gen ≠ argByte (s.args p) 0x05 ∨ ∃ l, s.lease k = some l ∧ l.holder ≠ p) →
        Refuses i s p .badHandle := by
  refine ⟨fun hn => Machine.refuses he ht (h _ _ ?_), fun k hk hs => Machine.refuses he ht (h _ _ ?_)⟩
  · exact checkHolder_error (checkHandle_noSlot (by rw [State.take_args]; exact hn))
  · exact checkHolder_stale (k := k) (by rw [State.take_args]; exact hk) (by rw [State.take_args]; exact hs)

theorem revoke_other {p : Port} (h : p ≠ 0) (s : State) : revokeBody p s = refuse s .notAdmin := by
  unfold revokeBody
  exact if_pos h

/-- Settles O14. -/
theorem commonRefusals : Obligations.CommonRefusals := by
  intro p s holderCommands
  refine ⟨fun ht => refuses (exec_unknownCommand p s) ht rfl, fun i hi hp ht => ?_, fun i hi ht => ?_⟩
  · simp only [List.mem_cons, List.not_mem_nil, or_false] at hi
    rcases hi with rfl | rfl | rfl
    · exact refuses (exec_revoke p s) ht (revoke_other hp _)
    · exact refuses (exec_setLineProfile p s) ht (setLineProfileBody_other hp _)
    · exact refuses (exec_setCharter p s) ht (setCharterBody_other hp _)
  · have drop : ∀ (k : Slot),
        (s.lease k = none ∨ (s.handle k).gen ≠ argByte (s.args p) 0x05
          ∨ (i ∈ holderCommands ∧ ∃ l, s.lease k = some l ∧ l.holder ≠ p)) →
        (s.lease k = none ∨ (s.handle k).gen ≠ argByte (s.args p) 0x05 ∨ ∃ l, s.lease k = some l ∧ l.holder ≠ p) :=
      fun k h => h.imp_right (.imp_right And.right)
    by_cases hm : i ∈ holderCommands
    · suffices h : ∃ body, HolderBody p body ∧ exec i s = command i p body s by
        obtain ⟨body, hb, he⟩ := h
        obtain ⟨h₁, h₂⟩ := hb.refuses he ht
        exact ⟨h₁, fun k hk hs => h₂ k hk (drop k hs)⟩
      simp only [holderCommands, List.mem_cons, List.not_mem_nil, or_false] at hm
      rcases hm with rfl | rfl | rfl | rfl | rfl | rfl | rfl | rfl | rfl
      · exact ⟨_, renew_holder p, exec_renew p s⟩
      · exact ⟨_, release_holder p, exec_release p s⟩
      · exact ⟨_, offer_holder p, exec_offer p s⟩
      · exact ⟨_, withdraw_holder p, exec_withdraw p s⟩
      · exact ⟨_, setGuard_holder p, exec_setGuard p s⟩
      · exact ⟨_, setLevels_holder p, exec_setLevels p s⟩
      · exact ⟨_, restartPattern_holder p, exec_restartPattern p s⟩
      · exact ⟨_, readLevels_holder p, exec_readLevels p s⟩
      · exact ⟨_, clearFault_holder p, exec_clearFault p s⟩
    · suffices h : ∃ body, HandleBody p body ∧ exec i s = command i p body s by
        obtain ⟨body, hb, he⟩ := h
        obtain ⟨h₁, h₂⟩ := hb.refuses he ht
        exact ⟨h₁, fun k hk hs => h₂ k hk (hs.imp_right fun h => h.resolve_right fun x => hm x.1)⟩
      rcases hi with hi | rfl | rfl | ⟨rfl, rfl⟩
      · exact absurd hi hm
      · exact ⟨_, accept_handle p, exec_accept p s⟩
      · exact ⟨_, decline_handle p, exec_decline p s⟩
      · exact ⟨_, revoke_handle, exec_revoke 0 s⟩

end Sys2Proof.Machine

/-! PROOFS. REQUEST as its statements give it: O15 to O18. -/

namespace Sys2Proof.Machine

/-! ## The outcomes of REQUEST -/

theorem Admitted.take {s : State} {p : Port} (h : Admitted s p) : Admitted (s.take p) p where
  notQuiet := h.notQuiet
  wellFormed := by rw [State.take_args]; exact h.wellFormed
  permitted := by rw [State.take_args]; exact h.permitted
  below := h.below

/-- An admitted request comes to step 5. -/
theorem requestBody_admitted {s : State} {p : Port} (h : Admitted s p) : requestBody p s =
    match stepFiveRefusal s (Req.read (s.args p)) with
    | some refusal => notNow p (s.args p) (Req.read (s.args p)) refusal s
    | none => directGrant p (Req.read (s.args p)) s := by
  obtain ⟨h₁, h₂, h₃, h₄⟩ := h
  have hf : firstFailure
      [ (s.isQuiet p, Reply.bare .portQuiet),
        ((Req.faults p (s.args p)).any id, Reply.bare .badArgument),
        (!permits (s.charter p) (Req.read (s.args p)), Reply.bare .notPermitted),
        (decide ((s.charter p).leaseLimit ≤ (s.portRec p).occupied),
          { status := .portLimit, result := b1 1 : Reply }) ] = none := by
    rw [firstFailure_none_iff]
    simp [h₁, h₂, h₃, Nat.not_le.mpr h₄]
  unfold requestBody
  dsimp only
  rw [hf] <;> rfl

theorem grantTerm_fst (c : Charter) (r : Request) :
    (grantTerm c r).1 = if r.term = 0 then c.maxTerm else min r.term c.maxTerm := by
  unfold grantTerm clampTerm
  split <;> rfl

theorem grantTerm_snd (c : Charter) (r : Request) : (grantTerm c r).2 = decide (c.maxTerm < r.term) := by
  unfold grantTerm clampTerm
  split
  · rename_i h
    simp [h]
  · rfl

theorem nextGen_eq (g : Byte) : nextGen g = if g = 255#8 then 1#8 else g + 1#8 := rfl

/-- The result of a REQUEST that is granted slot `k`, as the model computes it. -/
def grantReply (p : Port) (k : Slot) (s : State) : List Byte :=
  let r := Req.read (s.args p)
  bHandle ((grantInto k p r none (s.take p)).handle k) ++ b2 (if r.pinned then (0, false) else grantTerm (s.charter p) r).1
    ++ bFlag (if r.pinned then (0, false) else grantTerm (s.charter p) r).2

/-- The state after a REQUEST that is granted slot `k`. -/
def granted (p : Port) (k : Slot) (s : State) : State :=
  (restartChecks (s.take p) (grantInto k p (Req.read (s.args p)) none (s.take p))).complete p
    (Reply.ok (grantReply p k s))

theorem exec_request_granted {p : Port} {s : State} {k : Slot} (ht : takes s (.request p) p = true)
    (ha : Admitted s p) (hl : LinesFree s (Req.read (s.args p))) (hk : LowestFree s k)
    (hc : channelFree s (Req.read (s.args p)) = true) : exec (.request p) s = .next (granted p k s) := by
  have h5 : stepFiveRefusal (s.take p) (Req.read ((s.take p).args p)) = none := by
    rw [State.take_args, stepFiveRefusal_none_iff]
    exact ⟨hl, ⟨k, freeSlot_lowest.mpr hk⟩, hc⟩
  have hf : freeSlot? (s.take p) = some k := freeSlot_lowest.mpr hk
  rw [exec_request, command_taken ht, requestBody_admitted ha.take, h5]
  dsimp only
  rw [directGrant_eq hf, State.take_args]
  rfl

theorem granted_lease (p : Port) (k j : Slot) (s : State) : (granted p k s).lease j
    = if j = k then some (grantRecord s p (Req.read (s.args p)) none) else s.lease j := by
  simp only [granted, State.complete_lease, restartChecks_lease, grantInto_lease, State.take_lease]
  rfl

theorem granted_handle (p : Port) (k j : Slot) (s : State) : (granted p k s).handle j
    = { slot := j, gen := if j = k then nextGen (s.handle k).gen else (s.handle j).gen } := by
  simp only [granted, State.complete_handle, restartChecks_handle, grantInto_handle, State.take_handle]

theorem granted_same (p : Port) (k : Slot) (s : State) : Same (grantInto k p (Req.read (s.args p)) none (s.take p))
    (granted p k s) := (same_restartChecks ..).trans (same_complete ..)

theorem granted_heldBy (p : Port) (k : Slot) (s : State) (n : Line) : vget (granted p k s).heldBy n
    = if has (Req.read (s.args p)).lines n then some k else vget s.heldBy n := by
  rw [(granted_same p k s).heldBy, grantInto_heldBy, State.take_heldBy]

theorem granted_portRec (p : Port) (k : Slot) (s : State) (q : Port) : (granted p k s).portRec q
    = if q = p then { s.portRec p with occupied := (s.portRec p).occupied + 1 } else s.portRec q := by
  simp only [granted, State.complete_portRec, restartChecks_portRec, grantInto_portRec, State.take_portRec]

theorem granted_kept (p : Port) (k : Slot) (s : State) :
    Kept (s.take p) (restartChecks (s.take p) (grantInto k p (Req.read (s.args p)) none (s.take p))) := by
  constructor <;> simp

theorem granted_answers (p : Port) (k : Slot) (s : State) :
    Answers s (granted p k s) p .ok (grantReply p k s) :=
  answers_complete (Reply.ok (grantReply p k s)) (granted_kept p k s).windows (granted_kept p k s).served

theorem grantReply_eq (p : Port) (k : Slot) (s : State) :
    let r := Req.read (s.args p)
    grantReply p k s = [BitVec.ofNat 8 k.val, ((granted p k s).handle k).gen]
      ++ b2 (if r.pinned then 0 else if r.term = 0 then (s.charter p).maxTerm else min r.term (s.charter p).maxTerm)
      ++ bFlag (!r.pinned && decide ((s.charter p).maxTerm < r.term)) := by
  dsimp only
  rw [grantReply, (granted_same p k s).handle]
  cases h : (Req.read (s.args p)).pinned
  · simp only [Bool.false_eq_true, if_false, grantTerm_fst, grantTerm_snd]
    rfl
  · rfl

theorem granted_engineKept (p : Port) (k : Slot) (s : State) : EngineKept s (granted p k s) :=
  ⟨by simp [granted], by simp [granted], by simp [granted], by simp [granted], by simp [granted], by simp [granted],
    by simp [granted]⟩

/-- Settles O15. -/
theorem requestGranted : Obligations.RequestGranted := by
  intro p s k r c term ht ha hl hk hc
  refine ⟨granted p k s, grantRecord s p r none, exec_request_granted ht ha hl hk hc, ?_, ?_, ?_, rfl, rfl, rfl, ?_, rfl,
    rfl, rfl, rfl, rfl, rfl, granted_heldBy p k s, granted_portRec p k s, fun j hj _ => ?_, ?_, ?_, ?_, ?_, ?_, ?_⟩
  · rw [← grantReply_eq]
    exact granted_answers p k s
  · rw [granted_lease, if_pos rfl]
  · rw [granted_handle]
    simp only [if_true]
    exact nextGen_eq _
  · simp only [grantRecord, grantTerm_fst]
    rfl
  · rw [granted_lease, granted_handle, if_neg hj, if_neg hj]
    exact ⟨rfl, rfl⟩
  · exact granted_engineKept p k s
  · simp [granted]
  · simp [granted]
  · simp [granted]
  · simp [granted]
  · simp [granted]

end Sys2Proof.Machine

/-! PROOFS. What a line shows and what restarts its checks; O16 to O18. -/

namespace Sys2Proof.Machine

/-! ## What a line shows (R123, R133) -/

/-- Everything that the choice of a line's configuration looks at is the same. -/
structure SameLine (s t : State) (n : Line) : Prop where
  rstn : t.rstnAsserted = s.rstnAsserted
  profile : t.profile n = s.profile n
  live : liveHolding t n = liveHolding s n
  assigned : (t.cell n).assigned = (s.cell n).assigned

theorem SameLine.applied {s t : State} {n : Line} (h : SameLine s t n) : appliedConfig s n = appliedConfig t n := by
  unfold appliedConfig
  rw [h.rstn, h.profile, h.live, h.assigned]

theorem SameLine.checked {s t : State} {n : Line} (h : SameLine s t n) : checkedLevel s n = checkedLevel t n := by
  unfold checkedLevel
  rw [h.applied, h.profile, h.live]

/-- The checks of a line whose configuration stays go on. -/
theorem restartChecks_cell_same {b s : State} {n : Line} (h : SameLine b s n) :
    (restartChecks b s).cell n = s.cell n := by
  simp only [restartChecks, State.cell, vget_vmap]
  exact if_pos ⟨h.applied, h.checked⟩

theorem restartChecks_rest (b s : State) (n : Line) :
    ((restartChecks b s).cell n).assigned = (s.cell n).assigned
      ∧ ((restartChecks b s).cell n).debounced = (s.cell n).debounced
      ∧ ((restartChecks b s).cell n).stability = (s.cell n).stability
      ∧ ((restartChecks b s).cell n).settle = (s.cell n).settle := by
  rcases restartChecks_cell b s n with h | h <;> rw [h] <;> exact ⟨rfl, rfl, rfl, rfl⟩

theorem restartChecks_mismatch {b s : State} {n : Line} (h : (s.cell n).mismatch = 0) :
    ((restartChecks b s).cell n).mismatch = 0 := by
  rcases restartChecks_cell b s n with e | e <;> rw [e]
  exact h

theorem liveHolding_congr {s t : State} {n : Line} (hb : vget t.heldBy n = vget s.heldBy n)
    (hl : ∀ k, vget s.heldBy n = some k → t.lease k = s.lease k) : liveHolding t n = liveHolding s n := by
  unfold liveHolding holding
  rw [hb]
  cases h : vget s.heldBy n with
  | none => rfl
  | some k =>
    dsimp only
    rw [hl k h]

/-- In a state in which the tables agree, a held line's slot holds a record. -/
theorem Safe.holder_lease {s : State} (h : Safe s) {n : Line} {k : Slot} (hn : vget s.heldBy n = some k) :
    ∃ l, s.lease k = some l ∧ l.state.isClosed = false ∧ has l.lines n = true := by
  have hh := (h.held n k).mp hn
  unfold holdsLine at hh
  split at hh
  · rename_i l hl
    rw [Bool.and_eq_true, Bool.not_eq_true'] at hh
    exact ⟨l, hl, hh.1, hh.2⟩
  · cases hh

/-! ## What a granted REQUEST sets up -/

theorem SetsUpKind.congr {s t u : State} {k : Slot} {r : Request} {params : KindParams} (h : SetsUpKind s t k r params)
    (hc : ∀ n, (u.cell n).assigned = (t.cell n).assigned ∧ ((t.cell n).mismatch = 0 → (u.cell n).mismatch = 0))
    (hp : u.patTaken = t.patTaken) (hg : u.guardTaken = t.guardTaken) (hpi : u.patInbox = t.patInbox)
    (hgi : u.guardInbox = t.guardInbox) (hk : u.handle k = t.handle k) : SetsUpKind s u k r params := by
  unfold SetsUpKind at h ⊢
  rw [hp, hg, hpi, hgi, hk]
  refine ⟨fun n hn => (hc n).2 (h.1 n hn), ?_⟩
  have h₂ := h.2
  split at h₂
  · exact ⟨h₂.1, fun n hn => (hc n).1.trans (h₂.2 n hn)⟩
  · obtain ⟨c, e₁, e₂, e₃, e₄, e₅, e₆⟩ := h₂
    exact ⟨c, e₁, e₂, e₃, e₄, e₅, fun n hn => (hc n).1.trans (e₆ n hn)⟩
  · exact ⟨h₂.1, fun n hn => (hc n).1.trans (h₂.2 n hn)⟩
  · obtain ⟨c, e₁, e₂, e₃, e₄, e₅, e₆⟩ := h₂
    exact ⟨c, e₁, e₂, e₃, e₄, e₅, fun n hn => (hc n).1.trans (e₆ n hn)⟩

theorem granted_cell (p : Port) (k : Slot) (s : State) (n : Line) : (granted p k s).cell n
    = (restartChecks (s.take p) (grantInto k p (Req.read (s.args p)) none (s.take p))).cell n := rfl

theorem granted_setsUp {p : Port} {k : Slot} {s : State} (hc : channelFree s (Req.read (s.args p)) = true) :
    SetsUpKind s (granted p k s) k (Req.read (s.args p)) (grantParams s (Req.read (s.args p))) := by
  have h : SetsUpKind s (grantInto k p (Req.read (s.args p)) none (s.take p)) k (Req.read (s.args p))
      (grantParams s (Req.read (s.args p))) := grantInto_setsUp (s := s.take p) none hc
  refine h.congr (fun n => ?_) (granted_same p k s).patTaken (granted_same p k s).guardTaken ?_ ?_
    ((granted_same p k s).handle k)
  · rw [granted_cell]
    exact ⟨(restartChecks_rest ..).1, restartChecks_mismatch⟩
  · simp [granted]
  · simp [granted]

theorem granted_otherChannels (p : Port) (k : Slot) (s : State) :
    OtherChannelsKept s (granted p k s) (grantParams s (Req.read (s.args p))) := by
  have h : OtherChannelsKept s (grantInto k p (Req.read (s.args p)) none (s.take p))
      (grantParams s (Req.read (s.args p))) := grantInto_otherChannels (s := s.take p) none
  unfold OtherChannelsKept at h ⊢
  simpa [granted] using h

/-- Settles O16: the configuration of a line outside the request stays, for its held-by entry names a slot that already
holds a record. -/
theorem grantSetsUpKind : Obligations.GrantSetsUpKind := by
  intro p s k r hs ht ha hl hk hc
  refine ⟨granted p k s, grantRecord s p r none, exec_request_granted ht ha hl hk hc, ?_, granted_setsUp hc,
    granted_otherChannels p k s, fun n => ?_, fun n hn => ?_⟩
  · rw [granted_lease, if_pos rfl]
  · obtain ⟨-, h₁, h₂, -⟩ := restartChecks_rest (s.take p) (grantInto k p r none (s.take p)) n
    rw [granted_cell, h₁, h₂, grantInto_cell]
    split <;> exact ⟨rfl, rfl⟩
  · have hcell : (grantInto k p r none (s.take p)).cell n = (s.take p).cell n := by
      rw [grantInto_cell, if_neg (by simp [hn])]
    have hheld : vget (grantInto k p r none (s.take p)).heldBy n = vget (s.take p).heldBy n := by
      rw [grantInto_heldBy, if_neg (by simp [hn])]
    rw [granted_cell, restartChecks_cell_same, hcell]
    · rfl
    · refine ⟨by simp, by simp, liveHolding_congr hheld fun j hj => ?_, by rw [hcell]⟩
      obtain ⟨l, hj, -⟩ := hs.holder_lease hj
      rw [grantInto_lease, if_neg]
      rintro rfl
      rw [hk.1] at hj
      cases hj

end Sys2Proof.Machine

/-! PROOFS. A REQUEST that is queued, and one that is refused: O17 and O18. -/

namespace Sys2Proof.Machine

section
variable {p : Port} {s : State}

theorem stepFive_fails {r : Request} (h : ¬LinesFree s r ∨ (∀ k, (s.lease k).isSome) ∨ channelFree s r = false) :
    ∃ refusal, stepFiveRefusal s r = some refusal := by
  rw [← Option.ne_none_iff_exists', ne_eq, stepFiveRefusal_none_iff]
  rintro ⟨hl, ⟨k, hk⟩, hc⟩
  rcases h with h | h | h
  · exact h hl
  · have := h k
    rw [freeSlot_none hk] at this
    cases this
  · rw [hc] at h
    cases h

/-- An admitted REQUEST that fails step 5 comes to its wait. -/
theorem exec_request_notNow (ht : takes s (.request p) p = true) (ha : Admitted s p) {refusal : Reply}
    (h5 : stepFiveRefusal s (Req.read (s.args p)) = some refusal) : exec (.request p) s =
      .next ((notNow p (s.args p) (Req.read (s.args p)) refusal (s.take p)).1.complete p
        (notNow p (s.args p) (Req.read (s.args p)) refusal (s.take p)).2) := by
  have h5' : stepFiveRefusal (s.take p) (Req.read ((s.take p).args p)) = some refusal := by
    rw [State.take_args]
    exact h5
  rw [exec_request, command_taken ht, requestBody_admitted ha.take, h5']
  dsimp only
  rw [State.take_args]

theorem notNow_queued {a : Args} {r : Request} {refusal : Reply} (hw : 0 < r.waitLimit) (hq : s.queue.length < 8)
    (hb : waitBudget s p < 3) : notNow p a r refusal s = enqueue p a r s := by
  unfold notNow
  rw [if_neg hw.ne']
  have hf : firstFailure
      [ (decide (Config.queueSize ≤ s.queue.length), Reply.bare .queueFull),
        (decide (Config.waitBudget ≤ waitBudget s p), { status := .portLimit, result := b1 2 : Reply }) ] = none := by
    rw [firstFailure_none_iff]
    simp [Config.queueSize, Config.waitBudget, Nat.not_le.mpr hq, Nat.not_le.mpr hb]
  rw [hf]

theorem nextGen_iterate_ne_zero (j : Nat) (t : Byte) : nextGen^[j + 1] t ≠ 0#8 := by
  rw [Function.iterate_succ_apply']
  exact nextGen_ne_zero _

end

/-- Joining the queue touches the queue, the asker's ticket counter and the stamp alone. -/
theorem enqueue_only {s u : State} {p : Port} {a : Args} {r : Request} (reply : Reply)
    (h : { u with windows := s.windows, lastServed := s.lastServed } = s) :
    OnlyWindow s { (enqueue p a r u).1.complete p reply with
      queue := s.queue, portRecs := s.portRecs, arrivals := s.arrivals } := by
  have hq : u.queue = s.queue := by rw [← h]
  have hp : u.portRecs = s.portRecs := by rw [← h]
  have ha : u.arrivals = s.arrivals := by rw [← h]
  rw [← hq, ← hp, ← ha]
  exact h

/-- Settles O17. -/
theorem requestQueued : Obligations.RequestQueued := by
  intro p s r next ht ha hw h5 hq hb
  have hnext : next = nextGen := rfl
  clear_value next
  subst hnext
  obtain ⟨refusal, h5⟩ := stepFive_fails h5
  obtain ⟨j, hj, hticket, hin, hfresh⟩ := nextTicket_spec hb
  have hexec := exec_request_notNow ht ha h5
  rw [notNow_queued (s := s.take p) hw hq hb] at hexec
  have hans : Answers s ((enqueue p (s.args p) r (s.take p)).1.complete p (enqueue p (s.args p) r (s.take p)).2) p .queued
      ([nextTicket s p] ++ b1 s.queue.length ++ b2 r.waitLimit) := answers_complete _ rfl rfl
  have hz : nextTicket s p ≠ 0#8 := by
    rw [hticket]
    exact nextGen_iterate_ne_zero _ _
  refine ⟨_, newEntry p (s.args p) r (s.take p), hexec, ?_, ?_, ?_, ?_, ?_, hz, hfresh,
    ⟨j, by omega, hticket, hin⟩, ?_, ?_, hans, ?_, ?_⟩
  · rfl
  · rfl
  · rfl
  · rfl
  · rfl
  · rfl
  · rfl
  · exact enqueue_portRec (s := s.take p) (a := s.args p) (r := r)
  · exact enqueue_only _ rfl

/-! ## Refusals -/

section
variable {p : Port} {s : State}

/-- A command that only answers. -/
def AnswersOnly (i : Instr) (s : State) (p : Port) (st : Status) (result : List Byte) : Prop :=
  ∃ t, exec i s = .next t ∧ Answers s t p st result ∧ OnlyWindow s t

theorem answersOnly_command {i : Instr} {body : State → State × Reply} {r : Reply}
    (he : exec i s = command i p body s) (ht : takes s i p = true) (hb : body (s.take p) = (s.take p, r)) :
    AnswersOnly i s p r.status r.result := by
  obtain ⟨t, h₁, h₂, h₃⟩ := repliesOnly he ht hb
  exact ⟨t, h₁, h₃, h₂⟩

/-- The first of the checks of R21 that fails answers the REQUEST. -/
theorem request_firstFailure (ht : takes s (.request p) p = true) {reply : Reply}
    (hf : firstFailure
      [ (s.isQuiet p, Reply.bare .portQuiet),
        ((Req.faults p (s.args p)).any id, Reply.bare .badArgument),
        (!permits (s.charter p) (Req.read (s.args p)), Reply.bare .notPermitted),
        (decide ((s.charter p).leaseLimit ≤ (s.portRec p).occupied), { status := .portLimit, result := b1 1 }) ]
      = some reply) : AnswersOnly (.request p) s p reply.status reply.result := by
  refine answersOnly_command (exec_request p s) ht ?_
  unfold requestBody
  dsimp only
  rw [State.take_args]
  have hf' : firstFailure
      [ ((s.take p).isQuiet p, Reply.bare .portQuiet),
        ((Req.faults p (s.args p)).any id, Reply.bare .badArgument),
        (!permits ((s.take p).charter p) (Req.read (s.args p)), Reply.bare .notPermitted),
        (decide (((s.take p).charter p).leaseLimit ≤ ((s.take p).portRec p).occupied),
          { status := .portLimit, result := b1 1 }) ] = some reply := hf
  rw [hf']

theorem request_refusal (ht : takes s (.request p) p = true) (ha : Admitted s p) {refusal reply : Reply}
    (h5 : stepFiveRefusal s (Req.read (s.args p)) = some refusal)
    (hn : notNow p (s.args p) (Req.read (s.args p)) refusal (s.take p) = (s.take p, reply)) :
    AnswersOnly (.request p) s p reply.status reply.result := by
  refine answersOnly_command (exec_request p s) ht ?_
  have h5' : stepFiveRefusal (s.take p) (Req.read ((s.take p).args p)) = some refusal := by
    rw [State.take_args]
    exact h5
  rw [requestBody_admitted ha.take, h5']
  dsimp only
  rw [State.take_args]
  exact hn

theorem notNow_refused {a : Args} {r : Request} {refusal : Reply} (hw : r.waitLimit = 0) :
    notNow p a r refusal s = (s, refusal) := by
  unfold notNow
  exact if_pos hw

/-- The first line of a set that satisfies a test. -/
theorem find?_linesOf {ls : LineSet} {g : Line → Bool} {n : Line} (hn : has ls n = true) (hg : g n = true)
    (hlow : ∀ m, m < n → has ls m = true → g m = false) : (linesOf ls).find? g = some n := by
  unfold linesOf
  rw [List.find?_filter, List.find?_eq_some_iff_getElem]
  refine ⟨by simp [hn, hg], n.val, by simp, by simp, fun j hj => ?_⟩
  have := hlow ⟨j, by omega⟩ hj
  rw [List.getElem_finRange]
  cases h : has ls ⟨j, by omega⟩ with
  | false => simp [h]
  | true => simp [h, this h]

/-- The lowest line that is held or named gives the refusal of step 5. -/
theorem stepFiveRefusal_line {r : Request} {n : Line} (hn : has r.lines n = true)
    (hlow : ∀ m, m < n → has r.lines m = true →
      vget s.heldBy m = none ∧ ∀ e ∈ s.queue, has e.request.lines m = false)
    (hbusy : lineHeld s n = true ∨ (naming s.queue n).isEmpty = false) : stepFiveRefusal s r
      = some
        { status := .linesBusy
          result := b1 n.val ++
            match vget s.heldBy n with
            | some k => b1 0 ++ bHandle (s.handle k)
            | none => b1 1 ++ bHandle? none } := by
  have hfind : ((linesOf r.lines).find? fun m => lineHeld s m || !(naming s.queue m).isEmpty) = some n := by
    refine find?_linesOf hn (by simpa using hbusy) fun m hm hl => ?_
    obtain ⟨h₁, h₂⟩ := hlow m hm hl
    simpa [lineHeld, naming, h₁] using h₂
  unfold stepFiveRefusal
  rw [hfind] <;> rfl

theorem stepFiveRefusal_slot {r : Request} (hl : LinesFree s r) (hk : ∀ k, (s.lease k).isSome) :
    stepFiveRefusal s r = some (Reply.bare .tableFull) := by
  unfold stepFiveRefusal
  rw [(linesFree_iff s r).mpr hl, (freeSlot_eq_none s).mpr hk]
  rfl

theorem stepFiveRefusal_channel {r : Request} (hl : LinesFree s r) (hk : ∃ k, s.lease k = none)
    (hc : channelFree s r = false) : stepFiveRefusal s r = some (Reply.bare .noChannel) := by
  have hf : (freeSlot? s).isNone = false := by
    rw [Bool.eq_false_iff, ne_eq, Option.isNone_iff_eq_none, freeSlot_eq_none]
    obtain ⟨k, hk⟩ := hk
    intro h
    have := h k
    rw [hk] at this
    cases this
  unfold stepFiveRefusal
  rw [(linesFree_iff s r).mpr hl]
  simp [firstFailure, hf, hc]

end

/-! ## Malformed arguments (R22) -/

theorem faults_common {p : Port} {a : Args} (h : (Req.commonFaults a).any id = true) : (Req.faults p a).any id = true := by
  rw [Req.faults, List.any_append, h, Bool.true_or]

theorem faults_kind (p : Port) (a : Args) : (Req.faults p a).any id = ((Req.commonFaults a).any id
    || match Req.kindCode a with
      | 0 => (Req.driveFaults a).any id
      | 1 => (Req.patternFaults a).any id
      | 2 => (Req.watchFaults a).any id
      | _ => (Req.guardFaults p a).any id) := by
  rw [Req.faults, List.any_append]
  generalize Req.kindCode a = c
  rcases c with _ | _ | _ | c <;> rfl

/-- Some of the bounds of R22, at their edges. -/
theorem faults_bounds (p : Port) (a : Args) :
    (4 ≤ argNat a 0x04 / 16 → (Req.faults p a).any id = true)
      ∧ (6000 < argWord a 0x0A → (Req.faults p a).any id = true)
      ∧ (6000 < argWord a 0x08 → (argByte a 0x04).getLsbD 0 = false → (Req.faults p a).any id = true)
      ∧ (argNat a 0x04 / 16 < 3 → argSet a 0x06 = 0#16 → (Req.faults p a).any id = true)
      ∧ (argNat a 0x04 / 16 = 0 → argWord a 0x0A ≤ 6000 →
          (argWord a 0x08 ≤ 6000 ∨ (argByte a 0x04).getLsbD 0 = true) → argSet a 0x06 ≠ 0#16 →
          argNat a 0x05 ≤ 1 → (Req.faults p a).any id = false)
      ∧ (argNat a 0x04 / 16 = 1 → (argNat a 0x0C = 0 ∨ 6 < argNat a 0x0C) → (Req.faults p a).any id = true)
      ∧ (argNat a 0x04 / 16 = 2 → 2 < argNat a 0x05 → (Req.faults p a).any id = true)
      ∧ (argNat a 0x04 / 16 = 3 → (argWord a 0x0C = 0 ∨ 1000 < argWord a 0x0C ∨ argNat a 0x0E = 0
          ∨ 4 < argNat a 0x0E) → (Req.faults p a).any id = true)
      ∧ (argNat a 0x04 / 16 = 3 → (argByte a 0x04).getLsbD 3 = true →
          (argNat a 0x11 = p.val ∨ 3 < argNat a 0x11 ∨ 6000 < argWord a 0x12) → (Req.faults p a).any id = true) := by
  have drive_none : ∀ b : Byte, b.toNat ≤ 1 → (driveTypeOf b).isNone = false := by decide
  have pull_none : ∀ b : Byte, 2 < b.toNat → (pullOf b).isNone = true := by decide
  refine ⟨fun h => ?_, fun h => ?_, fun h hp => ?_, fun h hl => ?_, fun h hw ht hl hd => ?_, fun h hc => ?_,
    fun h hc => ?_, fun h hc => ?_, fun h hr hc => ?_⟩
  · exact faults_common (by simp [Req.commonFaults, Req.kindCode, h])
  · exact faults_common (by simp [Req.commonFaults, Req.waitLimit, Config.maxUnits, h])
  · have hp : Req.pinned a = false := hp
    exact faults_common (by simp [Req.commonFaults, hp, Req.term, Config.maxUnits, h])
  · rw [faults_kind]
    have hlines : Req.lines a = 0#16 := hl
    change Req.kindCode a < 3 at h
    generalize Req.kindCode a = c at h
    interval_cases c <;> simp [Req.driveFaults, Req.patternFaults, Req.watchFaults, hlines]
  · have hk : Req.kindCode a = 0 := h
    rw [faults_kind, hk]
    have hcommon : (Req.commonFaults a).any id = false := by
      simp only [Req.commonFaults, hk, Req.pinned, Req.term, Req.waitLimit, Config.maxUnits, List.any_cons, List.any_nil,
        id_eq, Bool.or_false, Bool.or_eq_false_iff, Bool.and_eq_false_iff, Bool.not_eq_false']
      exact ⟨by decide, ht.symm.imp_right fun h => decide_eq_false (Nat.not_lt.mpr h),
        decide_eq_false (Nat.not_lt.mpr hw)⟩
    have hlines : Req.lines a ≠ 0#16 := hl
    simp [hcommon, Req.driveFaults, hlines, drive_none _ hd]
  · have hk : Req.kindCode a = 1 := h
    rw [faults_kind, hk]
    rcases hc with hc | hc <;> simp [Req.patternFaults, Req.stepCount, hc]
  · have hk : Req.kindCode a = 2 := h
    rw [faults_kind, hk]
    simp [Req.watchFaults, pull_none _ hc]
  · have hk : Req.kindCode a = 3 := h
    rw [faults_kind, hk]
    rcases hc with hc | hc | hc | hc <;>
      simp [Req.guardFaults, Req.hold, Req.conditionCount, Config.maxHold, hc]
  · have hk : Req.kindCode a = 3 := h
    have hp : Req.recallPresent a = true := hr
    rw [faults_kind, hk]
    rcases hc with hc | hc | hc <;>
      simp [Req.guardFaults, hp, Req.recallTarget, Req.quietTime, Config.maxUnits, hc]

/-- Settles O18. -/
theorem requestRefused : Obligations.RequestRefused := by
  refine ⟨?_, faults_bounds⟩
  intro p s r refused ht
  refine ⟨fun h => ?_, fun h₁ h₂ => ?_, fun h₁ h₂ h₃ => ?_, fun h₁ h₂ h₃ h₄ => ?_,
    fun ha hw n hn hlow => ⟨fun k hk => ?_, fun hk hq => ?_⟩, fun ha hw hl hk => ?_, fun ha hw hl hk hc => ?_,
    fun ha hw h5 => ⟨fun hq => ?_, fun hq hb => ?_⟩⟩
  · exact request_firstFailure ht (reply := Reply.bare .portQuiet) (by simp [firstFailure, h])
  · exact request_firstFailure ht (reply := Reply.bare .badArgument) (by simp only [firstFailure, h₁, h₂]; rfl)
  · have h₃ : permits (s.charter p) (Req.read (s.args p)) = false := h₃
    exact request_firstFailure ht (reply := Reply.bare .notPermitted) (by simp only [firstFailure, h₁, h₂, h₃]; rfl)
  · have h₃ : permits (s.charter p) (Req.read (s.args p)) = true := h₃
    exact request_firstFailure ht (reply := { status := .portLimit, result := b1 1 })
      (by simp only [firstFailure, h₁, h₂, h₃, decide_eq_true h₄]; rfl)
  · have h5 := stepFiveRefusal_line hn hlow (.inl (by simp [lineHeld, hk]))
    rw [hk] at h5
    exact request_refusal ht ha h5 (notNow_refused hw)
  · have hname : (naming s.queue n).isEmpty = false := by
      obtain ⟨e, he, hen⟩ := hq
      rw [Bool.eq_false_iff, ne_eq, List.isEmpty_iff]
      exact List.ne_nil_of_mem (List.mem_filter.mpr ⟨he, hen⟩)
    have h5 := stepFiveRefusal_line hn hlow (.inr hname)
    rw [hk] at h5
    exact request_refusal ht ha h5 (notNow_refused hw)
  · exact request_refusal ht ha (stepFiveRefusal_slot hl hk) (notNow_refused hw)
  · exact request_refusal ht ha (stepFiveRefusal_channel hl hk hc) (notNow_refused hw)
  · obtain ⟨refusal, h5⟩ := stepFive_fails h5
    refine request_refusal ht ha h5 (reply := Reply.bare .queueFull) ?_
    unfold notNow
    rw [if_neg hw.ne']
    have hq : decide (Config.queueSize ≤ (s.take p).queue.length) = true := decide_eq_true hq
    simp only [firstFailure, hq, if_true]
  · obtain ⟨refusal, h5⟩ := stepFive_fails h5
    refine request_refusal ht ha h5 (reply := { status := .portLimit, result := b1 2 }) ?_
    unfold notNow
    rw [if_neg hw.ne']
    have hq : decide (Config.queueSize ≤ (s.take p).queue.length) = false := decide_eq_false (Nat.not_le.mpr hq)
    have hb : decide (Config.waitBudget ≤ waitBudget (s.take p) p) = true := decide_eq_true hb
    simp only [firstFailure, hq, hb, if_true, Bool.false_eq_true, if_false]

end Sys2Proof.Machine

/-! PROOFS. The grants of a queue scan, and a waiting entry that is cancelled; O19 and O20. -/

namespace Sys2Proof.Machine

/-! ## What the examinations after a grant leave alone -/

/-- What later examinations keep of a state: also what the channels taken before have been told. -/
structure Later (g u : State) : Prop where
  examined : Examined g u
  pat : ∀ c, vget g.patTaken c = true → vget u.patInbox c = vget g.patInbox c
  guard : ∀ c, vget g.guardTaken c = true → vget u.guardInbox c = vget g.guardInbox c

theorem Later.refl (g : State) : Later g g := ⟨.refl g, fun _ _ => rfl, fun _ _ => rfl⟩

theorem Later.trans {g u t : State} (a : Later g u) (b : Later u t) : Later g t where
  examined := a.examined.trans b.examined
  pat c h := (b.pat c (a.examined.fuller.pat c h)).trans (a.pat c h)
  guard c h := (b.guard c (a.examined.fuller.guard c h)).trans (a.guard c h)

theorem refuse_later (e : QueueEntry) (kd : KindSet) (q : List QueueEntry) (u : State) :
    Later u (postTicket e kd { u with queue := q }) where
  examined := refuse_examined e kd q u
  pat c _ := by simp
  guard c _ := by simp

/-- A grant tells the channels that it does not take nothing. -/
theorem scanGrant_otherChannels {s : State} {e : QueueEntry} {k : Slot} (h : freeSlot? s = some k) :
    OtherChannelsKept s (scanGrant e s) (grantParams s e.request) := by
  have := grantInto_otherChannels (k := k) (p := e.port) (r := e.request) (s := s) (some ⟨e.port, e.ticket⟩)
  unfold OtherChannelsKept at *
  simpa [scanGrant_eq h] using this

theorem grant_later {e : QueueEntry} {older q : List QueueEntry} {u : State}
    (h : blockedBy u older e.port e.request = none) : Later u (scanGrant e { u with queue := q }) := by
  obtain ⟨-, -, -, hc⟩ := (blockedBy_none_iff u older e.port e.request).mp h
  obtain ⟨k, hk⟩ : ∃ k, freeSlot? u = some k := (blockedBy_none h).2.1
  obtain ⟨hp, hg⟩ := scanGrant_otherChannels (s := { u with queue := q }) (e := e) hk
  refine ⟨grant_examined h, fun c hcc => (hp c fun hpar => ?_).2, fun c hcc => (hg c fun hpar => ?_).2⟩
  · have := (freePat_spec (grantParams_pat (s := u) hc hpar)).1
    simp [hcc] at this
  · have := (freeGuard_spec (grantParams_guard (s := u) hc hpar)).1
    simp [hcc] at this

/-- What a grant has set up stands through the later examinations. -/
theorem SetsUpKind.later {s g t : State} {k : Slot} {r : Request} {params : KindParams} (h : SetsUpKind s g k r params)
    (hk : (g.lease k).isSome = true) (hl : ∀ n, has r.lines n = true → vget g.heldBy n = some k) (a : Later g t) :
    SetsUpKind s t k r params := by
  obtain ⟨hm, hkind⟩ := h
  have hcell : ∀ n, has r.lines n = true → t.cell n = g.cell n := fun n hn =>
    (a.examined.keeps.held n k (hl n hn)).2
  have hassigned : ∀ {n : Line} {x : Option Level}, has r.lines n = true → (g.cell n).assigned = x →
      (t.cell n).assigned = x := fun hn hx => by rw [hcell _ hn, hx]
  refine ⟨fun n hn => by rw [hcell n hn, hm n hn], ?_⟩
  rw [a.examined.keeps.handle k hk]
  cases hr : r.kind with
  | drive dt lv safe =>
    rw [hr] at hkind
    exact ⟨hkind.1, fun n hn => hassigned hn (hkind.2 n hn)⟩
  | pattern spec =>
    rw [hr] at hkind
    obtain ⟨c, e₁, e₂, e₃, e₄, e₅, e₆⟩ := hkind
    exact ⟨c, e₁, e₂, a.examined.fuller.pat c e₃, e₄, (a.pat c e₃).trans e₅, fun n hn => hassigned hn (e₆ n hn)⟩
  | watch pull rising falling =>
    rw [hr] at hkind
    exact ⟨hkind.1, fun n hn => hassigned hn (hkind.2 n hn)⟩
  | guard spec armed =>
    rw [hr] at hkind
    obtain ⟨c, e₁, e₂, e₃, e₄, e₅, e₆⟩ := hkind
    exact ⟨c, e₁, e₂, a.examined.fuller.guard c e₃, e₄, (a.guard c e₃).trans e₅, fun n hn => hassigned hn (e₆ n hn)⟩

/-! ## An entry that nothing keeps waiting -/

/-- Where the scan stands before and after it examines `e`, in front of which `older` wait: before, nothing has
changed; after, it goes on from the grant `g`. -/
def Around (s g : State) (older younger : List QueueEntry) (seen : List QueueEntry) (u : State) : Prop :=
  (u = s ∧ seen.length ≤ older.length)
    ∨ ((∃ more, seen = older ++ more) ∧ (∃ rest, u.queue = older ++ rest ∧ rest.Sublist younger)
        ∧ Later g u ∧ (younger = [] → u = g))

/-- An entry that is free to be granted, behind entries that wait, is granted before anything else changes (R30, R36). -/
theorem scan_around {s : State} {older younger : List QueueEntry} {e : QueueEntry}
    (hq : s.queue = older ++ e :: younger) (ho : WaitsInOrder s older)
    (hp : permits (s.charter e.port) e.request = true) (hb : blockedBy s older e.port e.request = none) :
    let g := scanGrant e { s with queue := older ++ younger }
    (∃ rest, (scan s).queue = older ++ rest ∧ rest.Sublist younger) ∧ Later g (scan s) ∧ (younger = [] → scan s = g) := by
  intro g
  have front : ∀ {seen rest : List QueueEntry} {x : QueueEntry}, s.queue = seen ++ x :: rest → seen.length ≤ older.length →
      (∃ back, older = seen ++ x :: back) ∨ (seen = older ∧ x = e ∧ rest = younger) := by
    intro seen rest x hs hlen
    rw [hq] at hs
    rcases List.append_eq_append_iff.mp hs with ⟨a, ha, hb⟩ | ⟨a, ha, hb⟩
    · obtain rfl : a = [] := List.eq_nil_of_length_eq_zero (by have := congrArg List.length ha; simp at this; omega)
      simp at ha hb
      exact .inr ⟨ha, hb.1.symm, hb.2.symm⟩
    · cases a with
      | nil =>
        simp at ha hb
        exact .inr ⟨ha.symm, hb.1, hb.2⟩
      | cons y back =>
        simp only [List.cons_append, List.cons.injEq] at hb
        exact .inl ⟨back, by rw [ha, hb.1]⟩
  have after : ∀ {seen rest more tail : List QueueEntry} {x : QueueEntry} {u : State}, u.queue = seen ++ x :: rest →
      seen = older ++ more → u.queue = older ++ tail → tail.Sublist younger →
      younger ≠ [] ∧ (∃ tail', seen ++ rest = older ++ tail' ∧ tail'.Sublist younger) := by
    rintro seen rest more tail x u hu rfl ht hsub
    rw [hu, List.append_assoc, List.append_cancel_left_eq] at ht
    subst ht
    refine ⟨?_, more ++ rest, by simp, (middle_sublist ..).trans hsub⟩
    rintro rfl
    simp at hsub
  have key := scan_induct (Around s g older younger)
    (fun seen x rest u hu hx h => ?_) (fun seen x rest u hu hx hxb h => ?_) (fun seen x rest u hu hx hxb h => ?_)
    s (.inl ⟨rfl, by simp⟩)
  · rcases key with ⟨h, hlen⟩ | ⟨-, h⟩
    · rw [h, hq] at hlen
      simp at hlen
    · exact h
  · rcases h with ⟨rfl, hlen⟩ | ⟨⟨more, hm⟩, ⟨tail, ht, hsub⟩, hl, hg⟩
    · rcases front hu hlen with ⟨back, hback⟩ | ⟨-, rfl, -⟩
      · simp [(ho seen x back hback).1] at hx
      · simp [hp] at hx
    · obtain ⟨hne, tail', e', hs'⟩ := after hu hm ht hsub
      exact .inr ⟨⟨more, hm⟩, ⟨tail', by simpa using e', hs'⟩, hl.trans (refuse_later ..), fun h => absurd h hne⟩
  · rcases h with ⟨rfl, hlen⟩ | ⟨⟨more, hm⟩, ⟨tail, ht, hsub⟩, hl, hg⟩
    · rcases front hu hlen with ⟨back, hback⟩ | ⟨rfl, rfl, rfl⟩
      · have := (waits_iff_blocked u seen x).mp (ho seen x back hback).2
        simp [hxb] at this
      · exact .inr ⟨⟨[], by simp⟩, ⟨rest, by simp, .refl _⟩, .refl _, fun _ => rfl⟩
    · obtain ⟨hne, tail', e', hs'⟩ := after hu hm ht hsub
      exact .inr ⟨⟨more, hm⟩, ⟨tail', by simpa using e', hs'⟩, hl.trans (grant_later hxb), fun h => absurd h hne⟩
  · rcases h with ⟨rfl, hlen⟩ | ⟨⟨more, hm⟩, ht, hl, hg⟩
    · rcases front hu hlen with ⟨back, hback⟩ | ⟨rfl, rfl, rfl⟩
      · exact .inl ⟨rfl, by rw [hback]; simp⟩
      · simp [hb] at hxb
    · exact .inr ⟨⟨more ++ [x], by rw [hm]; simp⟩, ht, hl, hg⟩

/-! ### The grant itself -/

section
variable {s : State} {e : QueueEntry} {k : Slot} (q : List QueueEntry) (hf : freeSlot? s = some k)
include hf

theorem scanGrant_at : scanGrant e { s with queue := q } = postSlot e.port k SlotKind.granted (.origin e.ticket)
    (grantInto k e.port e.request (some { port := e.port, number := e.ticket }) { s with queue := q }) :=
  scanGrant_eq (s := { s with queue := q }) hf

theorem scanGrant_lease (j : Slot) : (scanGrant e { s with queue := q }).lease j
    = if j = k then some (grantRecord s e.port e.request (some { port := e.port, number := e.ticket })) else s.lease j := by
  rw [scanGrant_at q hf, postSlot_lease, grantInto_lease]
  rfl

theorem scanGrant_gen : ((scanGrant e { s with queue := q }).handle k).gen = nextGen (s.handle k).gen := by
  rw [scanGrant_at q hf, postSlot_handle, grantInto_handle]
  exact if_pos rfl

theorem scanGrant_slots (j : Slot) (hj : j ≠ k) :
    vget (scanGrant e { s with queue := q }).slots j = vget s.slots j := by
  rw [scanGrant_at q hf, (postSlot_frame ..).2.1, grantInto_slots, vget_vset, if_neg hj]

theorem scanGrant_heldBy (n : Line) : vget (scanGrant e { s with queue := q }).heldBy n
    = if has e.request.lines n then some k else vget s.heldBy n := by
  rw [scanGrant_at q hf, (postSlot_frame ..).2.2.1, grantInto_heldBy]

theorem scanGrant_cell (n : Line) (hn : has e.request.lines n = false) :
    (scanGrant e { s with queue := q }).cell n = s.cell n := by
  rw [scanGrant_at q hf, postSlot_cell, grantInto_cell, if_neg (by simp [hn])]
  rfl

theorem scanGrant_portRec (p : Port) : (scanGrant e { s with queue := q }).portRec p
    = if p = e.port then { s.portRec p with occupied := (s.portRec p).occupied + 1 } else s.portRec p := by
  rw [scanGrant_at q hf, postSlot_portRec, grantInto_portRec]
  split
  · rename_i h
    rw [h]
    rfl
  · rfl

theorem scanGrant_map (p : Port) : (scanGrant e { s with queue := q }).map p
    = if p = e.port then (s.map p).postSlot k (nextGen (s.handle k).gen) SlotKind.granted (.origin e.ticket)
      else s.map p := by
  have hg := scanGrant_gen (e := e) q hf
  rw [scanGrant_at q hf] at hg ⊢
  rw [postSlot_handle] at hg
  rw [postSlot_map, grantInto_map, grantInto_map]
  split
  · rename_i h
    rw [h, hg]
    rfl
  · rfl

theorem scanGrant_setsUp (hc : channelFree s e.request = true) :
    SetsUpKind s (scanGrant e { s with queue := q }) k e.request (grantParams s e.request) := by
  have h : SetsUpKind s (grantInto k e.port e.request (some { port := e.port, number := e.ticket })
      { s with queue := q }) k e.request (grantParams s e.request) :=
    grantInto_setsUp (s := { s with queue := q }) _ hc
  refine h.congr (fun n => ?_) ?_ ?_ ?_ ?_ ?_ <;> rw [scanGrant_at q hf] <;> simp

end

/-- A grant moves one entry of the port's wait budget out of the queue (R32). -/
theorem scanGrant_waitBudget {s : State} {e : QueueEntry} {older : List QueueEntry} (hq : s.queue = older ++ [e]) :
    waitBudget (scanGrant e { s with queue := older }) e.port + 1 = waitBudget s e.port := by
  obtain ⟨-, h₂, h₃⟩ := scanGrant_quiet e { s with queue := older }
  have h₄ : (({ s with queue := older } : State).map e.port) = s.map e.port := rfl
  unfold waitBudget waitingOf
  rw [h₂, h₃, hq, h₄]
  simp
  omega

/-! ## What the scan does to the entries -/

theorem and_eq_zero_of_has {a b : LineSet} (h : ∀ n, has a n = true → has b n = false) : a &&& b = 0#16 := by
  ext i hi
  have := h ⟨i, hi⟩
  simp only [has, BitVec.getLsbD_eq_getElem hi] at this
  simp only [BitVec.getElem_and, BitVec.getElem_zero]
  cases ha : a[i]
  · rfl
  · rw [this ha]; rfl

/-- What becomes of an entry in a scan (R36). -/
def Settled (s t : State) (e : QueueEntry) : Prop :=
  e ∈ t.queue ∨ (permits (s.charter e.port) e.request = false ∧ HoldsTicket t e.port e.ticket TicketKind.waitRefused)
    ∨ GrantedIn s t e

theorem scan_settled (s : State) : ∀ e ∈ s.queue, Settled s (scan s) e := by
  have keep : ∀ {older rest : List QueueEntry} {e x : QueueEntry} {u t : State}, u.queue = older ++ e :: rest →
      t.queue = older ++ rest → ScanKeeps u t → Settled s u x → x ≠ e → Settled s t x := by
    intro older rest e x u t hu ht hk hx hne
    rcases hx with hx | ⟨hp, y, hy, h₁, h₂⟩ | ⟨k, l, h₁, h₂⟩
    · refine .inl ?_
      rw [hu] at hx
      rw [ht]
      simpa [hne] using hx
    · obtain ⟨z, hz, e₁, e₂⟩ := hk.tickets _ y hy
      exact .inr (.inl ⟨hp, z, hz, e₁.trans h₁, by rw [← h₂, ← BitVec.and_assoc, BitVec.and_comm z.kinds, e₂]⟩)
    · exact .inr (.inr ⟨k, l, h₁, h₂.keeps hk⟩)
  refine (scan_invariant (fun _ u => ∀ e ∈ s.queue, Settled s u e) (fun e he => .inl he)
    (fun older e rest u he _ hq hp hu x hx => ?_) (fun older e rest u he _ hq hp hb hu x hx => ?_)
    fun _ _ _ _ _ _ _ _ _ hu => hu).1
  · by_cases hxe : x = e
    · subst hxe
      refine .inr (.inl ⟨hp, ?_⟩)
      unfold HoldsTicket
      rw [postTicket_map, if_pos rfl]
      exact insertTicket_self ⟨x.ticket, TicketKind.waitRefused, x.arrival⟩ _
    · exact keep hq (by simp) (refuse_examined ..).keeps (hu x hx) hxe
  · by_cases hxe : x = e
    · subst hxe
      obtain ⟨k, hf⟩ : ∃ k, freeSlot? u = some k := (blockedBy_none hb).2.1
      refine .inr (.inr ⟨k, _, ?_, scanGrant_granted (s := { u with queue := older ++ rest }) hf⟩)
      by_contra hne
      have hsome := Option.isSome_iff_ne_none.mpr hne
      have := he.keeps.lease k hsome
      rw [freeSlot_none hf] at this
      rw [← this] at hsome
      cases hsome
    · exact keep hq (by simp) (grant_examined hb).keeps (hu x hx) hxe

/-- The examined entries `pre`, of which `seen` stay: an entry that is gone was refused or holds its lines, and it has
taken no line from an entry before it. -/
structure InTurn (s : State) (pre seen : List QueueEntry) (u : State) : Prop where
  gone : ∀ x ∈ pre, permits (s.charter x.port) x.request = true → x ∈ seen
    ∨ ∀ n, has x.request.lines n = true → (vget u.heldBy n).isSome = true
  apart : ∀ older e younger, pre = older ++ e :: younger → permits (s.charter e.port) e.request = true → e ∈ seen
    ∨ ∀ x ∈ older, permits (s.charter x.port) x.request = true → x.request.lines &&& e.request.lines = 0#16

theorem InTurn.snoc {s u t : State} {pre seen seen' : List QueueEntry} {e : QueueEntry} (h : InTurn s pre seen u)
    (hs : ∀ x ∈ seen, x ∈ seen') (hf : Fuller u t)
    (he : permits (s.charter e.port) e.request = true → e ∈ seen'
      ∨ (∀ n, has e.request.lines n = true → (vget t.heldBy n).isSome = true)
        ∧ ∀ x ∈ pre, permits (s.charter x.port) x.request = true → x.request.lines &&& e.request.lines = 0#16) :
    InTurn s (pre ++ [e]) seen' t where
  gone x hx hp := by
    rcases List.mem_append.mp hx with hx | hx
    · exact (h.gone x hx hp).imp (hs x) fun hl n hn => hf.held n (hl n hn)
    · obtain rfl := List.mem_singleton.mp hx
      exact (he hp).imp id And.left
  apart older x younger hpre hp := by
    rcases List.eq_nil_or_concat younger with rfl | ⟨y, z, rfl⟩
    · obtain ⟨rfl, hx⟩ := List.append_inj' hpre rfl
      obtain rfl : e = x := by simpa using hx
      exact (he hp).imp id And.right
    · have hpre : pre ++ [e] = (older ++ x :: y) ++ [z] := by simpa using hpre
      obtain ⟨rfl, -⟩ := List.append_inj' hpre rfl
      exact (h.apart older x y rfl hp).imp (hs x) id

/-- No entry is granted lines that an older entry still waits for (R30). -/
theorem scan_inTurn (s : State) : InTurn s s.queue (scan s).queue (scan s) := by
  have key := scan_invariant (s := s)
    (fun seen u => ∃ pre rest, s.queue = pre ++ rest ∧ u.queue = seen ++ rest ∧ InTurn s pre seen u)
    ⟨[], s.queue, rfl, rfl, ⟨fun _ hx => absurd hx (by simp), fun _ _ _ h => absurd h (by simp)⟩⟩
    (fun older e rest u he _ hq hp hu => ?_) (fun older e rest u he _ hq hp hb hu => ?_)
    fun older e rest u he _ hq hp hb hu => ?_
  · obtain ⟨⟨pre, rest, hs, ht, h⟩, -⟩ := key
    obtain rfl : rest = [] := by simpa using ht
    rw [hs, List.append_nil]
    exact h
  all_goals
    obtain ⟨pre, rest', hs, hu', h⟩ := hu
    obtain rfl : e :: rest = rest' := by rwa [hq, List.append_cancel_left_eq] at hu'
    refine ⟨pre ++ [e], rest, by simpa using hs, by simp [hq], ?_⟩
  · exact h.snoc (fun _ => id) (refuse_examined ..).fuller fun hpe => by simp [hp] at hpe
  · obtain ⟨hfree, -⟩ := (blockedBy_none_iff ..).mp hb
    obtain ⟨k, hf⟩ : ∃ k, freeSlot? u = some k := (blockedBy_none hb).2.1
    refine h.snoc (fun _ => id) (grant_examined hb).fuller fun _ => .inr ⟨fun n hn => ?_, fun x hx hxp => ?_⟩
    · rw [scanGrant_heldBy _ hf, if_pos hn]
      rfl
    · refine and_eq_zero_of_has fun n hn => ?_
      by_contra hen
      obtain ⟨hnone, hnot⟩ := hfree n (by simpa using hen)
      rcases h.gone x hx hxp with hx | hx
      · simp [hnot x hx] at hn
      · have := hx n hn
        simp [hnone] at this
  · exact h.snoc (fun x hx => by simp [hx]) (.refl u) fun _ => .inl (by simp)

/-- Settles O19. An entry is granted when the scan comes to it, the entries in front of it having changed nothing; what
the scan does to the entries is read off its run. -/
theorem scanGrants : Obligations.ScanGrants := by
  refine ⟨?_, ?_⟩
  · intro s older younger e k r c t term hq ho hp hl hk hlim hc
    have hf : freeSlot? s = some k := freeSlot_lowest.mpr hk
    have hb : blockedBy s older e.port e.request = none := (blockedBy_none_iff ..).mpr ⟨hl, ⟨k, hk.1⟩, hlim, hc⟩
    obtain ⟨hrest, hlater, hlast⟩ := scan_around hq ho hp hb
    have hkept := hlater.examined.keeps
    have hgrant := scanGrant_granted (s := { s with queue := older ++ younger }) (e := e) hf
    have hsome : ((scanGrant e { s with queue := older ++ younger }).lease k).isSome = true := by
      rw [hgrant.record]
      rfl
    have hgen : (t.handle k).gen = nextGen (s.handle k).gen :=
      (congrArg Handle.gen (hkept.handle k hsome)).trans (scanGrant_gen _ hf)
    refine ⟨_, hgrant.keeps hkept, hgen.trans (nextGen_eq _), ?_, rfl, rfl, rfl, rfl, rfl, ?_, hrest, ?_, fun h0 => ?_, ?_⟩
    · simp only [grantRecord, grantTerm_fst]
      rfl
    · exact (scanGrant_setsUp _ hf hc).later hsome hgrant.held hlater
    · refine lt_of_lt_of_le ?_ (hlater.examined.fuller.occupied e.port)
      rw [scanGrant_portRec _ hf, if_pos rfl]
      exact Nat.lt_succ_self _
    · rw [hgen] at h0 ⊢
      have hentry : vget (t.map e.port).slots k = vget ((scanGrant e { s with queue := older ++ younger }).map e.port).slots k :=
        hkept.entry e.port k hsome
      rw [scanGrant_map _ hf, if_pos rfl] at hentry
      rw [kindsFor, hentry, ← kindsFor, kindsFor_postSlot, h0]
      simp
    · rintro rfl
      have ht : t = scanGrant e { s with queue := older } := by simpa using hlast rfl
      rw [ht]
      refine ⟨(scanGrant_quiet ..).2.1, scanGrant_heldBy _ hf, scanGrant_cell _ hf, scanGrant_portRec _ hf,
        scanGrant_waitBudget hq, ⟨?_, fun j hj => ?_⟩, fun p hne => ?_, scanGrant_slots _ hf, ?_⟩
      · rw [scanGrant_map _ hf, if_pos rfl]
        rfl
      · rw [scanGrant_map _ hf, if_pos rfl]
        exact slots_postSlot_ne _ _ _ _ hj
      · rw [scanGrant_map _ hf, if_neg hne]
      · exact scanGrant_otherChannels (s := { s with queue := older }) hf
  · intro s t
    refine ⟨scan_settled s, fun older e younger hq hp he x hx hxt => ?_, scan_queue s, scan_waits s,
      fun j hj => ⟨(scan_keeps s).lease j hj, (scan_keeps s).handle j hj⟩, fun q => ?_, ?_, ?_, by simp [t], by simp [t]⟩
    · have hxp : permits (s.charter x.port) x.request = true := by
        obtain ⟨l₁, l₂, hl⟩ := List.append_of_mem hxt
        have := (scan_waits s l₁ x l₂ hl).1
        rwa [scan_charter] at this
      exact ((scan_inTurn s).apart older e younger hq hp).resolve_left he x hx hxp
    · exact ⟨((scan_keeps s).records q).1, ((scan_keeps s).records q).2, ((scan_keeps s).subjects q).1,
        ((scan_keeps s).subjects q).2⟩
    · simp [EngineKept, t]
    · simp [HostSideKept, t]

/-! ## Commands that change the table -/

theorem command_next {i : Instr} {p : Port} {body : State → State × Reply} {s u : State} {r : Reply}
    (he : exec i s = command i p body s) (ht : takes s i p = true) (hb : body (s.take p) = (u, r)) :
    exec i s = .next (u.complete p r) := by
  rw [he, command_taken ht, hb]

/-- What a state change that a command has made leaves alone, and the answer the command gives. -/
theorem Kept.answers {s u : State} {p : Port} (h : Kept (s.take p) u) (r : Reply) :
    Answers s (u.complete p r) p r.status r.result :=
  answers_complete r h.windows h.served

theorem Kept.engineKept {s u : State} {p : Port} (h : Kept (s.take p) u) (ha : u.arrivals = s.arrivals) (r : Reply) :
    EngineKept s (u.complete p r) :=
  ⟨h.profiles, h.patChans, h.guardChans, h.buses, h.rstn, ha, h.pending⟩

/-! ## CANCEL_WAIT -/

theorem find?_insertTicket (e : TicketNotice) (tk : Byte) (L : List TicketNotice) (h : e.ticket ≠ tk) :
    (insertTicket e L).find? (fun x => x.ticket = tk) = L.find? fun x => x.ticket = tk := by
  induction L with
  | nil => simp [insertTicket, h]
  | cons x L ih =>
    unfold insertTicket
    split
    · rename_i hx
      simp [hx, h]
    · split
      · simp [h]
      · simp only [List.find?_cons, ih]

/-- A ticket that no waiting entry of the port has is not posted for by a scan. -/
theorem scan_ticket (s : State) {p : Port} {tk : Byte} (h : ∀ x ∈ s.queue, x.port = p → x.ticket ≠ tk) :
    ((scan s).map p).ticket? tk = (s.map p).ticket? tk := by
  refine (scan_invariant (fun _ u => (u.map p).ticket? tk = (s.map p).ticket? tk) rfl
    (fun older e rest u _ hs hq _ hu => ?_) (fun older e rest u _ _ _ _ _ hu => ?_) fun _ _ _ _ _ _ _ _ _ hu => hu).1
  · have hne : e.port = p → e.ticket ≠ tk := h e (hs.subset (by simp [hq]))
    rw [postTicket_map]
    split
    · rename_i hp
      refine (find?_insertTicket _ _ _ (hne hp.symm)).trans ?_
      rw [← hp]
      exact hu
    · exact hu
  · rw [NoticeMap.ticket?, (scanGrant_quiet ..).2.2]
    exact hu

theorem endStep_ticket (b s : State) {p : Port} {tk : Byte} (h : ∀ x ∈ s.queue, x.port = p → x.ticket ≠ tk) :
    ((endStep b s).map p).ticket? tk = (s.map p).ticket? tk := by
  unfold endStep
  rw [(same_restartChecks ..).map]
  split
  · exact scan_ticket s h
  · rfl

/-- Settles O20. -/
theorem cancelWait : Obligations.CancelWait := by
  intro p s ht
  refine ⟨fun ⟨e, he, hp, hk⟩ => ?_, fun hnone => ?_⟩
  · have hb : cancelWaitBody p (s.take p) = (endStep (s.take p) (removeEntry p (argByte (s.args p) 0x04) (s.take p)),
        Reply.ok []) := by
      have hany : ((waitingOf (s.take p) p).any fun e => e.ticket = argByte ((s.take p).args p) 0x04) = true := by
        rw [State.take_args, List.any_eq_true]
        exact ⟨e, List.mem_filter.mpr ⟨he, by simpa using hp⟩, by simpa using hk⟩
      unfold cancelWaitBody
      dsimp only
      rw [if_pos hany, State.take_args]
    have hkept := kept_cancelWaitBody p (s.take p)
    rw [hb] at hkept
    have hend := endStep_keeps (s.take p) (removeEntry p (argByte (s.args p) 0x04) (s.take p))
    refine ⟨_, command_next (exec_cancelWait p s) ht hb, hkept.answers _, ?_, ?_, fun k hk => ?_,
      hkept.engineKept (by simp) _, ?_, by simp⟩
    · simpa [removeEntry] using hend.queue
    · rw [State.complete_map, endStep_ticket]
      · rfl
      · intro x hx hxp hxt
        simp [removeEntry, hxp, hxt] at hx
    · simp only [State.complete_lease, State.complete_handle]
      exact ⟨hend.lease k hk, hend.handle k hk⟩
    · exact hkept.charters
  · have hb : cancelWaitBody p (s.take p) = (s.take p, Reply.bare .noSuchTicket) := by
      have hany : ¬ ((waitingOf (s.take p) p).any fun e => e.ticket = argByte ((s.take p).args p) 0x04) = true := by
        rw [State.take_args, List.any_eq_true]
        rintro ⟨e, he, hk⟩
        obtain ⟨he, hp⟩ := List.mem_filter.mp he
        exact hnone e he (by simpa using hp) (by simpa using hk)
      unfold cancelWaitBody
      dsimp only
      rw [if_neg hany]
      rfl
    exact answersOnly_command (exec_cancelWait p s) ht hb

end Sys2Proof.Machine

/-! PROOFS. RENEW: the term it sets, and the return from GRACE; O24 and O25. -/

namespace Sys2Proof.Machine

theorem renewBody_passed {p : Port} {s : State} {k : Slot} {l : Lease} {granted : Nat} {left : Option Nat}
    (h : Names s p k l) (hp : l.holder = p) (ha : argWord (s.args p) 0x06 ≤ 6000) (hl : l.state.live = true)
    (ht : l.term = some { granted := granted, remaining := left }) (hout : l.outOfCharter = false) :
    let wanted := if argWord (s.args p) 0x06 = 0 then granted else argWord (s.args p) 0x06
    let applied := min wanted (s.charter p).maxTerm
    renewBody p (s.take p) = (renewLease k l granted applied (s.take p),
      Reply.ok (b2 applied ++ bFlag (decide ((s.charter p).maxTerm < wanted)))) := by
  have hmax : ¬ Config.maxUnits < argWord (s.args p) 0x06 := Nat.not_lt.mpr ha
  simp [renewBody, checkHolder_names h hp, firstFailure, hmax, hl, ht, hout, renewTerm, clampTerm]

theorem renewLease_only (k : Slot) (l : Lease) (granted applied : Nat) (s : State) :
    { renewLease k l granted applied s with
      slots := s.slots, cells := s.cells, patInbox := s.patInbox, guardInbox := s.guardInbox } = s := by
  unfold renewLease leaveGrace tellActive
  cases l.state
  case grace g => cases l.params <;> rfl
  all_goals rfl

theorem renewLease_lease (k j : Slot) (l : Lease) (granted applied : Nat) (s : State) :
    (renewLease k l granted applied s).lease j = if j = k then some { l with
        term := some { granted := granted, remaining := some applied }
        termLow := false
        state := if l.state.isGrace then .active else l.state }
      else s.lease j := by
  unfold renewLease
  cases h : l.state <;> simp [leaveGrace, LeaseState.isGrace]

/-- Settles O24. -/
theorem renewSetsTerm : Obligations.RenewSetsTerm := by
  intro p s k l granted left arg wanted applied ht hname hp harg hterm hout hlive
  have hb := renewBody_passed hname hp harg hlive hterm hout
  have hkept := kept_renewBody p (s.take p)
  rw [hb] at hkept
  refine ⟨_, command_next (exec_renew p s) ht hb, hkept.answers _, ?_, fun j hj => ?_, fun j => ?_, ?_, fun hg => ?_⟩
  · rw [State.complete_lease, renewLease_lease, if_pos rfl]
  · rw [State.complete_lease, renewLease_lease, if_neg hj]
    rfl
  · rw [State.complete_handle, (calm_renewLease (s := s.take p) _ _ hname.lease).still.handle]
    rfl
  · exact congrArg (fun u => { u with windows := s.windows, lastServed := s.lastServed })
      (renewLease_only k l granted applied (s.take p))
  · have hs : renewLease k l granted applied (s.take p)
        = (s.take p).setLease k { l with term := some { granted := granted, remaining := some applied }, termLow := false } := by
      unfold renewLease
      cases h : l.state <;> simp_all [LeaseState.isGrace]
    rw [hs]
    exact ⟨rfl, rfl, rfl⟩

/-! ## The return from GRACE (R54) -/

theorem combination_congr {s t : State} (h : ∀ n, (t.cell n).debounced = (s.cell n).debounced) (cs : List Condition) :
    combination t cs = combination s cs := by
  have hc : Condition.holds t = Condition.holds s := funext fun c => by simp only [Condition.holds, h]
  rw [combination, combination, hc]

theorem writeLevels_cell (lines : LineSet) (level : Line → Option Level) (s : State) (n : Line) :
    (writeLevels lines level s).cell n
      = if has lines n then { s.cell n with assigned := (level n).or (s.cell n).assigned, mismatch := 0 }
        else s.cell n := by
  simp [writeLevels]

theorem leaveGrace_cell (k : Slot) (l : Lease) (s : State) (n : Line) : (leaveGrace k l s).cell n
    = if has l.lines n then { s.cell n with
          assigned := (activeLevel s (s.handle k) l.params n).or (s.cell n).assigned, mismatch := 0 }
      else s.cell n := by
  have ha : activeLevel (s.setLease k { l with state := .active })
      ((s.setLease k { l with state := .active }).handle k) l.params n = activeLevel s (s.handle k) l.params n := by
    rw [State.setLease_handle]
    rfl
  unfold leaveGrace
  rw [tellActive_cell, writeLevels_cell, ha]
  rfl

/-- What a channel is told at the return from GRACE. -/
theorem leaveGrace_tells (k : Slot) (l : Lease) (s : State) :
    match l.params with
    | .pattern _ c => vget (leaveGrace k l s).patInbox c = vget s.patInbox c ++ [.resume]
    | .guard spec armed g => vget (leaveGrace k l s).guardInbox g
        = vget s.guardInbox g ++ [.unsuspend armed (combination s spec.conditions)]
    | .drive _ _ _ | .watch _ _ _ _ =>
      (leaveGrace k l s).patInbox = s.patInbox ∧ (leaveGrace k l s).guardInbox = s.guardInbox := by
  cases hp : l.params with
  | drive _ _ _ | watch _ _ _ _ => simp [leaveGrace, hp, tellActive]
  | pattern _ c => simp [leaveGrace, hp, tellActive]
  | guard spec armed g =>
    have hd : ∀ ls f m, combination (writeLevels ls f (s.setLease k m)) spec.conditions = combination s spec.conditions :=
      fun ls f m => combination_congr (fun n => by rw [writeLevels_cell]; split <;> rfl) _
    simp [leaveGrace, hp, tellActive, hd]

/-- Settles O25. -/
theorem renewFromGrace : Obligations.RenewFromGrace := by
  intro p s k l granted left g ht hname hp harg hterm hout hs
  have hlive : l.state.live = true := by rw [hs]; rfl
  have hb := renewBody_passed hname hp harg hlive hterm hout
  dsimp only at hb
  generalize hap : min (if argWord (s.args p) 0x06 = 0 then granted else argWord (s.args p) 0x06) (s.charter p).maxTerm
    = applied at hb
  have hlease : renewLease k l granted applied (s.take p) = restartChecks (s.take p) (leaveGrace k
      { l with term := some { granted := granted, remaining := some applied }, termLow := false } (s.take p)) := by
    simp [renewLease, hs]
  rw [hlease] at hb
  generalize hm : ({ l with term := some { granted := granted, remaining := some applied }, termLow := false } : Lease)
    = m at hb
  have hlines : m.lines = l.lines := by rw [← hm]
  have hparams : m.params = l.params := by rw [← hm]
  have hcell : ∀ n, ((restartChecks (s.take p) (leaveGrace k m (s.take p))).cell n).assigned
      = if has l.lines n then (activeLevel (s.take p) (s.handle k) l.params n).or (s.cell n).assigned
        else (s.cell n).assigned := fun n => by
    rw [(restartChecks_rest ..).1, leaveGrace_cell, hlines, hparams]
    split <;> rfl
  have htell := leaveGrace_tells k m (s.take p)
  rw [hparams] at htell
  refine ⟨_, command_next (exec_renew p s) ht hb, fun n hn => ?_, ?_⟩
  · rw [State.complete_cell, hcell, if_neg (by simp [hn])]
  · cases hpar : l.params with
    | drive dt lv safe =>
      intro n hn
      rw [State.complete_cell, hcell, if_pos hn, hpar]
      rfl
    | pattern spec c =>
      simp only [hpar] at htell
      simpa using htell
    | watch pull r f ch =>
      simp only [hpar] at htell
      refine ⟨by simpa using htell.1, by simpa using htell.2, fun n => ?_⟩
      rw [State.complete_cell, hcell, hpar]
      split <;> rfl
    | guard spec armed gc =>
      simp only [hpar] at htell
      refine ⟨?_, fun a ha n hn => ?_⟩
      · simp only [State.complete_guardInbox, restartChecks_frame]
        exact htell
      · rw [State.complete_cell, hcell, if_pos hn, hpar, activeLevel, ha]
        rfl

end Sys2Proof.Machine

/-! PROOFS. Facts about maps, FREE slots and applied configurations that the commands on a record use. -/

namespace Sys2Proof.Machine

/-! ## Kinds of an entry (R153, R158) -/

theorem and_not_and_self (a b : KindSet) : a &&& ~~~b &&& b = 0#16 := by
  ext i hi
  simp

theorem kindsFor_removeSlot (m : NoticeMap) (k : Slot) (gen : Byte) (kinds : KindSet) :
    kindsFor (m.removeSlot k gen kinds) k gen = kindsFor m k gen &&& ~~~kinds := by
  unfold NoticeMap.removeSlot kindsFor
  cases he : vget m.slots k with
  | none => simp [he]
  | some e =>
    dsimp only
    by_cases hg : e.gen = gen
    · rw [if_pos hg, vget_vset_self, if_pos hg]
      unfold SlotNotice.remove
      dsimp only
      by_cases hl : e.kinds &&& ~~~kinds = 0#16
      · rw [if_pos hl, hl]
      · rw [if_neg hl]
        simp [hg]
    · rw [if_neg hg, he, if_neg hg]
      simp [hg]

theorem slots_removeSlot_ne (m : NoticeMap) {j k : Slot} (gen : Byte) (kinds : KindSet) (h : j ≠ k) :
    vget (m.removeSlot k gen kinds).slots j = vget m.slots j := by
  unfold NoticeMap.removeSlot
  split
  · split
    · exact vget_vset_ne _ _ h
    · rfl
  · rfl

theorem dropSlotKinds_map (p q : Port) (k : Slot) (kinds : KindSet) (s : State) : (dropSlotKinds p k kinds s).map q
    = if q = p then (s.map p).removeSlot k (s.handle k).gen kinds else s.map q := by
  simp [dropSlotKinds]

/-! ## A FREE slot in a scan -/

theorem nextGen_ne (g : Byte) : nextGen g ≠ g := by
  unfold nextGen
  split
  · rename_i h
    rw [h]
    decide
  · bv_omega

/-- A FREE slot after a scan: still FREE with its entries as they were, or granted with the next generation, the entry
of the new holder being the new record's. -/
def FreeOrGranted (s t : State) (k : Slot) : Prop :=
  (t.lease k = none ∧ t.handle k = s.handle k ∧ ∀ q, vget (t.map q).slots k = vget (s.map q).slots k)
    ∨ ∃ l, t.lease k = some l ∧ (t.handle k).gen = nextGen (s.handle k).gen
        ∧ Holds t l.holder k (t.handle k).gen SlotKind.granted ∧ kindsFor (t.map l.holder) k (s.handle k).gen = 0#16
        ∧ ∀ q, q ≠ l.holder → vget (t.map q).slots k = vget (s.map q).slots k

theorem FreeOrGranted.kept {s u t : State} {k : Slot} (h : FreeOrGranted s u k)
    (hl : t.lease k = u.lease k) (hh : t.handle k = u.handle k)
    (hm : ∀ q, vget (t.map q).slots k = vget (u.map q).slots k) : FreeOrGranted s t k := by
  rcases h with ⟨h₁, h₂, h₃⟩ | ⟨l, h₁, h₂, h₃, h₄, h₅⟩
  · exact .inl ⟨hl.trans h₁, hh.trans h₂, fun q => (hm q).trans (h₃ q)⟩
  · refine .inr ⟨l, hl.trans h₁, by rw [hh, h₂], ?_, ?_, fun q hq => (hm q).trans (h₅ q hq)⟩
    · unfold Holds kindsFor at *
      rw [hm, hh]
      exact h₃
    · unfold kindsFor at *
      rw [hm]
      exact h₄

theorem kindsFor_stale {m : NoticeMap} {k : Slot} {gen : Byte} {e : SlotNotice} (h : vget m.slots k = some e)
    (hg : e.gen ≠ gen) : kindsFor m k gen = 0#16 := by
  simp [kindsFor, h, hg]

theorem scanGrant_freeOrGranted {s u : State} {k j : Slot} {e : QueueEntry} (q : List QueueEntry)
    (hf : freeSlot? u = some j) (h : FreeOrGranted s u k) : FreeOrGranted s (scanGrant e { u with queue := q }) k := by
  by_cases hkj : k = j
  · subst hkj
    rcases h with ⟨-, h₂, h₃⟩ | ⟨l, h₁, -⟩
    · have hgen := scanGrant_gen (e := e) q hf
      rw [h₂] at hgen
      have hmap := scanGrant_map (e := e) q hf e.port
      rw [if_pos rfl, h₂] at hmap
      refine .inr ⟨_, (scanGrant_lease q hf k).trans (if_pos rfl), hgen, ?_, ?_, fun p hp => ?_⟩
      · unfold Holds
        rw [hgen]
        simp only [grantRecord]
        rw [hmap, kindsFor_postSlot]
        exact or_and_self _ _
      · simp only [grantRecord]
        rw [hmap]
        obtain ⟨x, hx, hg, -⟩ := slots_postSlot (u.map e.port) k (nextGen (s.handle k).gen) SlotKind.granted
          (.origin e.ticket)
        exact kindsFor_stale hx (by rw [hg]; exact nextGen_ne _)
      · rw [scanGrant_map q hf, if_neg (show p ≠ e.port from hp)]
        exact h₃ p
    · rw [freeSlot_none hf] at h₁
      cases h₁
  · refine h.kept ?_ ?_ fun p => ?_
    · rw [scanGrant_lease q hf, if_neg hkj]
    · simp only [State.handle, scanGrant_slots q hf k hkj]
    · rw [scanGrant_map q hf]
      split
      · exact slots_postSlot_ne _ _ _ _ hkj
      · rfl

theorem scan_freeSlot {s : State} {k : Slot} (hk : s.lease k = none) : FreeOrGranted s (scan s) k := by
  refine (scan_invariant (fun _ u => FreeOrGranted s u k) (.inl ⟨hk, rfl, fun _ => rfl⟩)
    (fun older e rest u _ _ hq _ hu => ?_) (fun older e rest u _ _ _ _ hb hu => ?_)
    fun _ _ _ _ _ _ _ _ _ hu => hu).1
  · refine hu.kept (by simp [State.lease]) (refuse_handle ..) fun p => ?_
    rw [postTicket_map]
    split
    · rename_i h
      rw [h]
      rfl
    · rfl
  · obtain ⟨j, hj⟩ : ∃ k, freeSlot? u = some k := (blockedBy_none hb).2.1
    exact scanGrant_freeOrGranted _ hj hu

theorem endStep_freeSlot {b s : State} {k : Slot} (hk : s.lease k = none) : FreeOrGranted s (endStep b s) k := by
  have h : FreeOrGranted s (if scanTriggered b s then scan s else s) k := by
    split
    · exact scan_freeSlot hk
    · exact .inl ⟨hk, rfl, fun _ => rfl⟩
  have hs := same_restartChecks b (if scanTriggered b s then scan s else s)
  exact h.kept (hs.lease k) (hs.handle k) fun q => by rw [endStep, hs.map]

/-- The generation that the slot had has no record after the scan. -/
theorem FreeOrGranted.freed {s t : State} {k : Slot} (h : FreeOrGranted s t k) :
    t.lease k = none ∨ (t.handle k).gen ≠ (s.handle k).gen := by
  rcases h with ⟨h, -⟩ | ⟨l, -, h, -⟩
  · exact .inl h
  · exact .inr (by rw [h]; exact nextGen_ne _)

/-- The kinds of the old generation stay in a map, or the slot's new lease has taken the entry. -/
theorem FreeOrGranted.kinds {s t : State} {k : Slot} (h : FreeOrGranted s t k) (q : Port) :
    kindsFor (t.map q) k (s.handle k).gen = kindsFor (s.map q) k (s.handle k).gen
      ∨ kindsFor (t.map q) k (s.handle k).gen = 0#16
        ∧ ∃ l, t.lease k = some l ∧ l.holder = q ∧ (t.handle k).gen ≠ (s.handle k).gen
          ∧ Holds t q k (t.handle k).gen SlotKind.granted := by
  have same : vget (t.map q).slots k = vget (s.map q).slots k →
      kindsFor (t.map q) k (s.handle k).gen = kindsFor (s.map q) k (s.handle k).gen := fun e => by
    unfold kindsFor
    rw [e]
  rcases h with ⟨-, -, h⟩ | ⟨l, h₁, h₂, h₃, h₄, h₅⟩
  · exact .inl (same (h q))
  · by_cases hq : q = l.holder
    · subst hq
      exact .inr ⟨h₄, l, h₁, rfl, by rw [h₂]; exact nextGen_ne _, h₃⟩
    · exact .inl (same (h₅ q hq))

/-! ## Configurations that stay (R123, R133) -/

/-- Line by line, what a line shows and the level that is checked are the same. -/
def SameShown (s t : State) : Prop :=
  ∀ n, appliedConfig s n = appliedConfig t n ∧ checkedLevel s n = checkedLevel t n

theorem restartChecks_cells {b s : State} (h : SameShown b s) : (restartChecks b s).cells = s.cells := by
  refine vext fun n => ?_
  simp only [restartChecks, vget_vmap]
  exact if_pos (h n)

/-- The record of one slot is rewritten. -/
structure RecordChanged (s t : State) (k : Slot) (l m : Lease) : Prop where
  before : s.lease k = some l
  after : t.lease k = some m
  others : ∀ j, j ≠ k → t.lease j = s.lease j
  live : m.state.live = l.state.live

theorem RecordChanged.liveHolding {s t : State} {k : Slot} {l m : Lease} (h : RecordChanged s t k l m)
    (hb : t.heldBy = s.heldBy) (n : Line) : Machine.liveHolding s n = Machine.liveHolding t n
      ∨ Machine.liveHolding s n = some (k, l) ∧ Machine.liveHolding t n = some (k, m) := by
  unfold Machine.liveHolding holding
  rw [hb]
  cases hn : vget s.heldBy n with
  | none => exact .inl rfl
  | some j =>
    by_cases hj : j = k
    · subst hj
      dsimp only
      rw [h.before, h.after]
      simp only [Option.map_some, Option.filter_some, h.live]
      cases l.state.live
      · exact .inl rfl
      · exact .inr ⟨rfl, rfl⟩
    · dsimp only
      rw [h.others j hj]
      exact .inl rfl

theorem RecordChanged.isSome {s t : State} {k : Slot} {l m : Lease} (h : RecordChanged s t k l m)
    (hb : t.heldBy = s.heldBy) (n : Line) : (Machine.liveHolding t n).isSome = (Machine.liveHolding s n).isSome := by
  rcases h.liveHolding hb n with e | ⟨e₁, e₂⟩
  · rw [e]
  · rw [e₁, e₂]
    rfl

/-- With the same configuration, the level that is checked is the same. -/
theorem RecordChanged.checked {s t : State} {k : Slot} {l m : Lease} (h : RecordChanged s t k l m)
    (hb : t.heldBy = s.heldBy) {n : Line} (hp : t.profile n = s.profile n) (ha : appliedConfig s n = appliedConfig t n) :
    checkedLevel s n = checkedLevel t n := by
  unfold checkedLevel
  rw [ha, hp, h.isSome hb]

/-- One line: the record's faults and kind, and the assigned level, as far as they are looked at. -/
theorem RecordChanged.applied {s t : State} {k : Slot} {l m : Lease} (h : RecordChanged s t k l m)
    (hr : t.rstnAsserted = s.rstnAsserted) (hb : t.heldBy = s.heldBy) {n : Line} (hp : t.profile n = s.profile n)
    (hf : has m.faults n = has l.faults n) (hk : ∀ v, kindConfig l.params v = kindConfig m.params v)
    (hc : (t.cell n).assigned = (s.cell n).assigned) : appliedConfig s n = appliedConfig t n := by
  unfold appliedConfig
  rw [hr, hp, hc]
  rcases h.liveHolding hb n with e | ⟨e₁, e₂⟩
  · rw [e]
  · rw [e₁, e₂]
    simp only [hf, hk]

/-- A record is rewritten so that its lines show what they showed. -/
structure Rewritten (s t : State) (k : Slot) (l m : Lease) : Prop extends RecordChanged s t k l m where
  faults : m.faults = l.faults
  config : ∀ v, kindConfig l.params v = kindConfig m.params v

theorem Rewritten.sameShown {s t : State} {k : Slot} {l m : Lease} (h : Rewritten s t k l m)
    (hr : t.rstnAsserted = s.rstnAsserted) (hb : t.heldBy = s.heldBy) (hp : t.profiles = s.profiles)
    (hc : ∀ n, (t.cell n).assigned = (s.cell n).assigned) : SameShown s t := by
  intro n
  have hprof : t.profile n = s.profile n := by simp [State.profile, hp]
  have ha := h.toRecordChanged.applied hr hb hprof (by rw [h.faults]) h.config (hc n)
  exact ⟨ha, h.toRecordChanged.checked hb hprof ha⟩

theorem scan_empty {s : State} (h : s.queue = []) : scan s = s := by
  unfold scan scanCounted
  rw [h]
  simp only [scanList]
  rw [← h]

end Sys2Proof.Machine

/-! PROOFS. RELEASE and REVOKE, OFFER and ACCEPT; O26 and O28 to O30. -/

namespace Sys2Proof.Machine

/-! ## Leases that end by a command (R56, R57) -/

theorem releaseBody_named {p : Port} {s : State} {k : Slot} {l : Lease} (h : Names s p k l) (hp : l.holder = p) :
    releaseBody p (s.take p) = if l.state.live then (endStep (s.take p) (retire k .released (s.take p)), Reply.ok [])
      else refuse (s.take p) .wrongState := by
  simp [releaseBody, checkHolder_names h hp]

theorem revokeBody_live {s : State} {k : Slot} {l : Lease} (h : Names s 0 k l) (hl : l.state.live = true) :
    revokeBody 0 (s.take 0) = (endStep (s.take 0)
      (postSlot l.holder k SlotKind.revoked .none (retire k .revoked (s.take 0))), Reply.ok []) := by
  cases hs : l.state <;> simp_all [revokeBody, checkHandle_names h, LeaseState.live]

/-- A command that retires a lease and ends its step. -/
theorem retires {i : Instr} {p : Port} {body : State → State × Reply} {s v : State} {k : Slot} {l : Lease}
    {r : CloseReason} (he : exec i s = command i p body s) (ht : takes s i p = true)
    (hb : body (s.take p) = (endStep (s.take p) v, Reply.ok [])) (hk : Kept (s.take p) v)
    (ha : v.arrivals = s.arrivals) (hrep : v.reports = s.reports) (hv : Retired (s.take p) v k l r)
    (ho : ∀ j, j ≠ k → v.lease j = s.lease j) (hh : ∀ j, v.handle j = s.handle j) :
    ∃ t, exec i s = .next t ∧ Answers s t p .ok [] ∧ Retired s t k l r ∧ OthersKept s t k ∧ EngineKept s t
      ∧ t.charters = s.charters ∧ t.reports = s.reports
      ∧ ∀ q kind, Holds v q k (s.handle k).gen kind → Holds t q k (s.handle k).gen kind := by
  have hend := endStep_keeps (s.take p) v
  have hkept := kept_endStep (s.take p) hk
  have hret := ((hv.endKeeps hend).to_eq (u := (endStep (s.take p) v).complete p (Reply.ok []))
    (by simp) (by simp) (by simp) (by simp) (by simp) (by simp) (by simp)).from_eq (s := s) (by simp) (by simp)
  refine ⟨_, command_next he ht hb, hkept.answers _, hret, fun j hj hi => ?_, hkept.engineKept (by simp [ha]) _,
    hkept.charters, by simp [hrep], fun q kind h => ?_⟩
  · rw [State.complete_lease, State.complete_handle]
    exact hend.othersKept ho hh j hj hi
  · unfold Holds
    rw [State.complete_map]
    exact hend.holds (by rw [hv.record]; rfl) h

/-- Settles O26. -/
theorem releaseAndRevoke : Obligations.ReleaseAndRevoke := by
  intro s k l hs
  refine ⟨fun p ht hn hp hl => ?_, fun p ht hn hp hl => ?_, fun ht hn hl => ?_, fun r ht hn hr => ?_⟩
  · have hb := releaseBody_named hn hp
    rw [if_pos hl] at hb
    obtain ⟨t, h₁, h₂, h₃, h₄, h₅, h₆, h₇, -⟩ := retires (exec_release p s) ht hb (kept_retire ..) (by simp) (by simp)
      (retire_retired (s := s.take p) hn.lease hl (hs.lines hn.lease hl) .released) (fun j hj => retire_lease_ne _ _ hj)
      (fun j => retire_handle ..)
    exact ⟨t, h₁, h₂, h₃, h₄, h₅, h₆, h₇⟩
  · have hb := releaseBody_named hn hp
    rw [if_neg (by simp [hl])] at hb
    exact refuses (exec_release p s) ht hb
  · have hret := retire_retired (s := s.take 0) hn.lease hl (hs.lines hn.lease hl) .revoked
    obtain ⟨t, h₁, h₂, h₃, h₄, h₅, h₆, h₇, h₈⟩ := retires (exec_revoke 0 s) ht (revokeBody_live hn hl)
      ((kept_retire ..).trans (kept_postSlot ..)) (by simp) (by simp) (hret.post l.holder SlotKind.revoked .none)
      (fun j hj => (postSlot_lease ..).trans (retire_lease_ne _ _ hj))
      (fun j => (postSlot_handle ..).trans (retire_handle ..))
    refine ⟨t, h₁, h₂, h₃, h₈ _ _ ?_, h₄, h₅, h₆, h₇⟩
    unfold Holds
    rw [postSlot_map, if_pos rfl, show (retire k .revoked (s.take 0)).handle k = s.handle k from hret.handle,
      kindsFor_postSlot, or_and_self]
  · refine refuses (exec_revoke 0 s) ht ?_
    simp [revokeBody, checkHandle_names hn, hr]

/-! ## OFFER (R67, R68) -/

/-- A command whose work is to rewrite the record of slot `k` and to post `kind` to port `q`. -/
theorem rewritesAndPosts {i : Instr} {p q : Port} {body : State → State × Reply} {s : State} {k : Slot} {m : Lease}
    {kind : KindSet} (he : exec i s = command i p body s) (h : takes s i p = true)
    (hb : body (s.take p) = (postSlot q k kind .none ((s.take p).setLease k m), Reply.ok [])) :
    ∃ t, exec i s = .next t ∧ Answers s t p .ok [] ∧ t.lease k = some m ∧ PostedTo s t q k kind
      ∧ (∀ j, j ≠ k → t.lease j = s.lease j) ∧ (∀ j, t.handle j = s.handle j) ∧ MapKept s t q k
      ∧ (∀ r, r ≠ q → t.map r = s.map r) ∧ OnlyWindow s { t with slots := s.slots, maps := s.maps } := by
  have hrun := command_next he h hb
  refine ⟨_, hrun, answers_complete (Reply.ok []) rfl rfl, ?record, postedTo_postSlot ?_ ?_ (State.complete_map _ _ _ q),
    fun j hj => ?otherRecords, fun j => ?handles, mapKept_postSlot ?_ (State.complete_map _ _ _ q),
    fun r hr => ?otherMaps, rfl⟩
  case otherMaps => simp [hr]
  case otherRecords => simp [hj]
  all_goals simp

theorem offerBody_named {p target : Port} {s : State} {k : Slot} {l : Lease} (h : Names s p k l) (hp : l.holder = p)
    (ht : portOf (argByte (s.args p) 0x06) = some target) (hne : target ≠ p) (hs : l.state = .active)
    (hc : l.params.code ≠ 3) : offerBody p (s.take p) = (postSlot target k SlotKind.offerReceived .none
      ((s.take p).setLease k { l with state := .handover target 200 }), Reply.ok []) := by
  simp [offerBody, checkHolder_names h hp, ht, firstFailure, hp, hne, hs, hc, LeaseState.isActive, Config.offerWindow]

/-- Settles O28. -/
theorem offerOpensHandover : Obligations.OfferOpensHandover := by
  intro p target s k l ht hn hp harg hne hs hc
  refine rewritesAndPosts (exec_offer p s) ht (offerBody_named hn hp (portOf_eq_some ?_) hne hs hc)
  rw [harg]
  simp
  omega

/-! ## ACCEPT (R70 to R72) -/

section
variable (p : Port) (k : Slot) (l : Lease) (s : State)

theorem edgeToNewHolder_only : { edgeToNewHolder p k l s with maps := s.maps } = s := by
  unfold edgeToNewHolder
  split
  · split <;> rfl
  · rfl

/-- A transfer rewrites one record, counts and maps. -/
theorem transfer_only : { transfer p k l s with slots := s.slots, portRecs := s.portRecs, maps := s.maps } = s := by
  unfold transfer
  exact congrArg (fun u => { u with slots := s.slots, portRecs := s.portRecs, maps := s.maps })
    (edgeToNewHolder_only p k l (postSlot l.holder k SlotKind.handedOver .none
      (raiseCount p (lowerCount l.holder (s.setLease k (handedOver (s.charter p) p l))))))

/-- What a transfer leaves alone, field by field. -/
theorem transfer_frame : let t := transfer p k l s
    t.rstnAsserted = s.rstnAsserted ∧ t.heldBy = s.heldBy ∧ t.queue = s.queue ∧ t.arrivals = s.arrivals
      ∧ t.profiles = s.profiles ∧ t.cells = s.cells ∧ t.patInbox = s.patInbox ∧ t.guardInbox = s.guardInbox := by
  have h := transfer_only p k l s
  exact ⟨(congrArg State.rstnAsserted h :), (congrArg State.heldBy h :), (congrArg State.queue h :),
    (congrArg State.arrivals h :), (congrArg State.profiles h :), (congrArg State.cells h :),
    (congrArg State.patInbox h :), (congrArg State.guardInbox h :)⟩

theorem edgeToNewHolder_rest :
    (edgeToNewHolder p k l s).slots = s.slots ∧ (edgeToNewHolder p k l s).portRecs = s.portRecs := by
  unfold edgeToNewHolder
  split
  · split <;> simp
  · simp

theorem transfer_slots : (transfer p k l s).slots = (s.setLease k (handedOver (s.charter p) p l)).slots := by
  unfold transfer
  rw [(edgeToNewHolder_rest ..).1]
  simp

theorem transfer_lease (j : Slot) : (transfer p k l s).lease j
    = if j = k then some (handedOver (s.charter p) p l) else s.lease j := by
  rw [State.lease, transfer_slots]
  exact State.setLease_lease ..

theorem transfer_handle (j : Slot) : (transfer p k l s).handle j = s.handle j := by
  rw [State.handle, transfer_slots]
  exact State.setLease_handle ..

theorem transfer_portRec (q : Port) (h : l.holder ≠ p) : ((transfer p k l s).portRec q).occupied
    = if q = p then (s.portRec q).occupied + 1 else if q = l.holder then (s.portRec q).occupied - 1
      else (s.portRec q).occupied := by
  have hrec : (transfer p k l s).portRec q
      = (raiseCount p (lowerCount l.holder (s.setLease k (handedOver (s.charter p) p l)))).portRec q := by
    unfold transfer State.portRec
    rw [(edgeToNewHolder_rest ..).2]
    simp
  rw [hrec]
  by_cases hq : q = p
  · subst hq
    simp [raiseCount, lowerCount, Ne.symm h]
  · by_cases hq' : q = l.holder
    · simp [raiseCount, lowerCount, hq', h]
    · simp [raiseCount, lowerCount, hq, hq']

/-- HANDED_OVER stands in the old holder's map, and the new holder's entry has EDGE as the changed set says. -/
theorem transfer_kinds (h : l.holder ≠ p) :
    Holds (transfer p k l s) l.holder k (s.handle k).gen SlotKind.handedOver
      ∧ (l.params.isWatch = true → l.params.changed ≠ 0#16 →
          Holds (transfer p k l s) p k (s.handle k).gen SlotKind.edge)
      ∧ (l.params.isWatch = true → l.params.changed = 0#16 →
          kindsFor ((transfer p k l s).map p) k (s.handle k).gen &&& SlotKind.edge = 0#16) := by
  unfold Holds transfer edgeToNewHolder
  dsimp only
  generalize hu : raiseCount p (lowerCount l.holder (s.setLease k (handedOver (s.charter p) p l))) = u
  have hg : (postSlot l.holder k SlotKind.handedOver .none u).handle k = s.handle k := by
    rw [postSlot_handle, ← hu]
    simp
  have hposted : kindsFor ((postSlot l.holder k SlotKind.handedOver .none u).map l.holder) k (s.handle k).gen
      &&& SlotKind.handedOver = SlotKind.handedOver := by
    rw [postSlot_map, if_pos rfl, ← hg, postSlot_handle, kindsFor_postSlot, or_and_self]
  generalize postSlot l.holder k SlotKind.handedOver .none u = v at *
  refine ⟨?_, fun hw hc => ?_, fun hw hc => ?_⟩
  · split
    · split
      · rw [dropSlotKinds_map, if_neg h]
        exact hposted
      · rw [postSlot_map, if_neg h]
        exact hposted
    · exact hposted
  · rw [if_pos hw, if_neg hc, postSlot_map, if_pos rfl, hg, kindsFor_postSlot, or_and_self]
  · rw [if_pos hw, if_pos hc, dropSlotKinds_map, if_pos rfl, hg, kindsFor_removeSlot, and_not_and_self]

end

/-- The term that an ACCEPT applies and whether it is clamped (R71). -/
def acceptReply (c : Charter) (l : Lease) : List Byte :=
  b2 ((l.term.map fun x => min x.granted c.maxTerm).getD 0)
    ++ bFlag ((l.term.map fun x => decide (c.maxTerm < x.granted)).getD false)

/-- The checks of ACCEPT after those of the handle, in their order (R70). -/
def acceptRefusal (s : State) (p : Port) (l : Lease) : Option Status :=
  firstFailure
    [ (!offeredToPort l p, Status.notOffered),
      (s.isQuiet p, .portQuiet),
      (!(subset l.lines (s.charter p).lines && (l.term.isSome || (s.charter p).mayPin)), .notPermitted),
      (decide ((s.charter p).leaseLimit ≤ (s.portRec p).occupied), .portLimit) ]

section
variable {p : Port} {s : State} {k : Slot} {l : Lease} (h : Names s p k l)
include h

theorem acceptBody_refused {e : Status} (he : acceptRefusal s p l = some e) :
    acceptBody p (s.take p) = refuse (s.take p) e := by
  replace he : acceptRefusal (s.take p) p l = some e := he
  unfold acceptRefusal at he
  simp only [acceptBody, State.take_args, checkHandle_names h, he]

theorem acceptBody_passed (he : acceptRefusal s p l = none) : acceptBody p (s.take p)
    = (endStep (s.take p) (transfer p k l (s.take p)), Reply.ok (acceptReply (s.charter p) l)) := by
  replace he : acceptRefusal (s.take p) p l = none := he
  unfold acceptRefusal at he
  simp only [acceptBody, State.take_args, checkHandle_names h, he]
  cases ht : l.term <;> rw [acceptReply, ht] <;> rfl

end

theorem subset_iff (a b : LineSet) : subset a b = true ↔ a &&& b = a := by simp [subset]

theorem acceptRefusal_none {s : State} {p : Port} {l : Lease} {left : Nat} (hs : l.state = .handover p left)
    (hq : s.isQuiet p = false) (hl : l.lines &&& (s.charter p).lines = l.lines)
    (ht : l.term = none → (s.charter p).mayPin = true) (ho : (s.portRec p).occupied < (s.charter p).leaseLimit) :
    acceptRefusal s p l = none := by
  have h₁ : offeredToPort l p = true := (offeredToPort_iff l p).mpr ⟨left, hs⟩
  have h₂ : (l.term.isSome || (s.charter p).mayPin) = true := by
    cases hterm : l.term with
    | none => simpa using ht hterm
    | some x => rfl
  rw [acceptRefusal, firstFailure_none_iff]
  simp [h₁, hq, (subset_iff _ _).mpr hl, h₂, ho]

theorem transfer_kept (p : Port) (k : Slot) (l : Lease) (s : State) (hq : s.queue = []) (hk : s.lease k = some l)
    (hl : l.state.live = true) : endStep s (transfer p k l s) = transfer p k l s := by
  obtain ⟨hr, hb, hqueue, -, hp, hcells, -⟩ := transfer_frame p k l s
  have hscan : (if scanTriggered s (transfer p k l s) then scan (transfer p k l s) else transfer p k l s)
      = transfer p k l s := by
    split
    · exact scan_empty (hqueue.trans hq)
    · rfl
  have hrec : Rewritten s (transfer p k l s) k l (handedOver (s.charter p) p l) :=
    { before := hk
      after := by rw [transfer_lease, if_pos rfl]
      others := fun j hj => by rw [transfer_lease, if_neg hj]
      live := hl.symm
      faults := rfl
      config := fun _ => rfl }
  have hshown : SameShown s (transfer p k l s) := hrec.sameShown hr hb hp fun n => by rw [State.cell, hcells]; rfl
  rw [endStep, hscan]
  have := restartChecks_cells hshown
  unfold restartChecks at *
  dsimp only at this
  rw [this]

/-- Settles O29. -/
theorem acceptHandsOver : Obligations.AcceptHandsOver := by
  intro p s k l left c ht hn hs hne hq hl hterm hocc
  have hb := acceptBody_passed hn (acceptRefusal_none hs hq hl hterm hocc)
  have hkept := kept_acceptBody p (s.take p)
  rw [hb] at hkept
  have hend := endStep_keeps (s.take p) (transfer p k l (s.take p))
  have hafter : (transfer p k l (s.take p)).lease k = some (handedOver c p l) := by
    rw [transfer_lease, if_pos rfl]
    rfl
  have hsome : ((transfer p k l (s.take p)).lease k).isSome = true := by rw [hafter]; rfl
  obtain ⟨h₁, h₂, h₃⟩ := transfer_kinds p k l (s.take p) hne
  have hentry : ∀ q, kindsFor ((endStep (s.take p) (transfer p k l (s.take p))).map q) k (s.handle k).gen
      = kindsFor ((transfer p k l (s.take p)).map q) k (s.handle k).gen := fun q => by
    unfold kindsFor
    rw [hend.entry q k hsome]
  refine ⟨_, command_next (exec_accept p s) ht hb, hkept.answers _, ?_, ?_, ?_, fun hw hc => ?_, fun hw hc => ?_,
    fun hqueue => ?_, fun j hj hi => ?_, hkept.engineKept ?_ _⟩
  · rw [State.complete_lease, hend.lease k hsome, hafter]
    rfl
  · rw [State.complete_handle, hend.handle k hsome, transfer_handle]
    rfl
  · unfold Holds
    rw [State.complete_map, hentry]
    exact h₁
  · unfold Holds
    rw [State.complete_map, hentry]
    exact h₂ hw hc
  · rw [State.complete_map, hentry]
    exact h₃ hw hc
  · have hlive : l.state.live = true := by rw [hs]; rfl
    rw [transfer_kept p k l (s.take p) hqueue hn.lease hlive]
    obtain ⟨-, h₁, -, -, -, h₂, h₃, h₄⟩ := transfer_frame p k l (s.take p)
    refine ⟨h₁, h₂, h₃, h₄, fun q => ?_⟩
    rw [State.complete_portRec, transfer_portRec p k l _ q hne]
    rfl
  · rw [State.complete_lease, State.complete_handle]
    exact hend.othersKept (s := s.take p) (fun j hj => by rw [transfer_lease, if_neg hj])
      (fun j => transfer_handle ..) j hj hi
  · exact (endStep_frame ..).2.1.trans (transfer_frame p k l (s.take p)).2.2.2.1

/-! ## What RENEW, OFFER and ACCEPT refuse -/

/-- Settles O30. -/
theorem renewOfferAcceptRefused : Obligations.RenewOfferAcceptRefused := by
  intro p s k l c target term hn
  refine ⟨fun ht hp => ?renew, fun ht hp => ?offer, fun ht => ?accept⟩
  case renew =>
    have he := exec_renew p s
    have hmax : term ≤ 6000 → ¬ Config.maxUnits < argWord (s.args p) 0x06 := fun h => Nat.not_lt.mpr h
    refine ⟨fun h => refuses he ht ?_, fun h hl => refuses he ht ?_, fun h hl hterm => refuses he ht ?_,
      fun h hl hterm hout => refuses he ht ?_⟩
    · have : Config.maxUnits < argWord (s.args p) 0x06 := h
      simp [renewBody, checkHolder_names hn hp, firstFailure, this]
    · simp [renewBody, checkHolder_names hn hp, firstFailure, hmax h, hl]
    · simp [renewBody, checkHolder_names hn hp, firstFailure, hmax h, hl, hterm]
    · obtain ⟨x, hx⟩ := Option.ne_none_iff_exists'.mp hterm
      simp [renewBody, checkHolder_names hn hp, firstFailure, hmax h, hl, hx, hout]
  case offer =>
    have he := exec_offer p s
    have hport : ∀ h : target ≤ 3, portOf (argByte (s.args p) 0x06) = some ⟨target, by omega⟩ := fun _ =>
      portOf_eq_some rfl
    refine ⟨fun h => refuses he ht ?_, fun h hne hs => refuses he ht ?_, fun h hne hs hc => refuses he ht ?_⟩
    · by_cases habove : 3 < target
      · have : portOf (argByte (s.args p) 0x06) = none := portOf_above habove
        simp [offerBody, checkHolder_names hn hp, this]
      · have hself : (⟨target, by omega⟩ : Port) = l.holder := by
          rw [hp]
          exact Fin.ext (h.resolve_left habove)
        simp [offerBody, checkHolder_names hn hp, hport (by omega), firstFailure, hself]
    all_goals have hother : (⟨target, by omega⟩ : Port) ≠ l.holder := fun e => hne (by rw [← hp, ← e])
    · have : l.state.isActive = false := by cases h' : l.state <;> simp_all [LeaseState.isActive]
      simp [offerBody, checkHolder_names hn hp, hport h, firstFailure, hother, this]
    · simp [offerBody, checkHolder_names hn hp, hport h, firstFailure, hother, hs, LeaseState.isActive, hc]
  case accept =>
    have he := exec_accept p s
    refine ⟨fun h => refuses he ht (acceptBody_refused hn ?_), fun left hs => ?_⟩
    · have : offeredToPort l p = false := by
        rw [← Bool.not_eq_true, offeredToPort_iff]
        simpa using h
      simp [acceptRefusal, firstFailure, this]
    · have hoff : offeredToPort l p = true := (offeredToPort_iff l p).mpr ⟨left, hs⟩
      refine ⟨fun h => refuses he ht (acceptBody_refused hn ?_), fun h hbad => refuses he ht (acceptBody_refused hn ?_),
        fun h hl hterm hocc => refuses he ht (acceptBody_refused hn ?_)⟩
      · simp [acceptRefusal, firstFailure, hoff, h]
      · have : (subset l.lines (s.charter p).lines && (l.term.isSome || (s.charter p).mayPin)) = false := by
          rcases hbad with hl | ⟨h₁, h₂⟩
          · have : subset l.lines (s.charter p).lines = false := by simpa [subset] using hl
            rw [this]
            rfl
          · rw [h₁, show (s.charter p).mayPin = false from h₂, Bool.and_comm]
            rfl
        simp only [acceptRefusal, firstFailure, hoff, h, this]
        rfl
      · have h₂ : (l.term.isSome || (s.charter p).mayPin) = true := by
          cases hx : l.term with
          | none => simpa using hterm hx
          | some x => rfl
        have h₁ : subset l.lines (s.charter p).lines = true := (subset_iff _ _).mpr hl
        have h₃ : (s.charter p).leaseLimit ≤ (s.portRec p).occupied := hocc
        simp only [acceptRefusal, firstFailure, hoff, h, h₁, h₂, h₃]
        rfl

end Sys2Proof.Machine

/-! PROOFS. Result bytes, steps that trigger no scan, and ACK_NOTICE; O27, O41 and O42. -/

namespace Sys2Proof.Machine

/-! ## Result bytes (R172, R175) -/

/-- A two-byte field reads as the number it was written from. -/
theorem word_b2 (n : Nat) : BitVec.ofNat 8 (n / 256) ++ BitVec.ofNat 8 n = BitVec.ofNat 16 n := by
  apply BitVec.eq_of_toNat_eq
  rw [BitVec.toNat_append, ← Nat.shiftLeft_add_eq_or_of_lt (BitVec.isLt _), Nat.shiftLeft_eq]
  simp only [BitVec.toNat_ofNat]
  omega

theorem word_bSet (ls : LineSet) : BitVec.ofNat 8 (ls.toNat / 256) ++ BitVec.ofNat 8 ls.toNat = ls := by
  rw [word_b2]
  simp

theorem subset_seven (a : KindSet) : subset a 0x0007#16 = true ↔ a.toNat ≤ 7 := by
  rw [subset, beq_iff_eq, BitVec.toNat_eq, BitVec.toNat_and]
  rw [show (0x0007#16).toNat = 2 ^ 3 - 1 from rfl, Nat.and_two_pow_sub_one_eq_mod]
  omega

theorem subset_one (a : KindSet) : subset a 0x0001#16 = true ↔ a.toNat ≤ 1 := by
  rw [subset, beq_iff_eq, BitVec.toNat_eq, BitVec.toNat_and]
  rw [show (0x0001#16).toNat = 2 ^ 1 - 1 from rfl, Nat.and_two_pow_sub_one_eq_mod]
  omega

theorem subset_all (a : KindSet) : subset a 0xFFFF#16 = true := by
  rw [subset, beq_iff_eq, show 0xFFFF#16 = BitVec.allOnes 16 from rfl, BitVec.and_allOnes]

/-! ## Steps that trigger no scan (R35) -/

theorem Still.notTriggered {s t : State} (h : Still s t) (hq : ∀ p, s.isQuiet p = true → t.isQuiet p = true) :
    scanTriggered s t = false := by
  have hlease : ∀ k, (s.lease k).isSome = true → t.lease k ≠ none := fun k hk =>
    Option.isSome_iff_ne_none.mp (by rw [(h.lease k).isSome]; exact hk)
  have hlen : ¬ t.queue.length < s.queue.length := by rw [h.queue.length_eq]; exact lt_irrefl _
  simp only [scanTriggered, lineHeld, h.heldBy, h.patTaken, h.guardTaken, h.occupied, Bool.or_eq_false_iff,
    List.any_eq_false, decide_eq_false_iff_not, Bool.and_eq_true, not_and, Bool.not_eq_true, Bool.not_eq_true',
    Bool.not_eq_false]
  refine ⟨⟨⟨⟨⟨⟨fun k _ hk => ?_, fun _ _ => id⟩, fun _ _ => id⟩, fun _ _ => id⟩, hlen⟩, fun p _ => by simp⟩,
    fun p _ => hq p⟩
  exact Option.isNone_eq_false_iff.mpr (Option.isSome_iff_ne_none.mpr (hlease k hk))

/-- A step that triggers no scan and changes no configuration ends as it stands. -/
theorem endStep_still {s t : State} (h : Still s t) (hq : ∀ p, s.isQuiet p = true → t.isQuiet p = true)
    (hs : SameShown s t) : endStep s t = t := by
  have hc := restartChecks_cells hs
  rw [endStep, h.notTriggered hq, if_neg (by simp)]
  unfold restartChecks at *
  dsimp only at hc
  rw [hc]

/-! ## The subject and the kinds (R157) -/

section
variable {p : Port} {s : State}

theorem ackSubject_bad {a : Args}
    (h : 3 < argNat a 0x04 ∨ (argNat a 0x04 = 1 ∧ 15 < argNat a 0x05) ∨ (argNat a 0x04 = 2 ∧ 23 < argNat a 0x05)) :
    ackSubject a = none := by
  unfold argNat at h
  unfold ackSubject argNat lineOf slotOf
  split
  · omega
  · rw [dif_neg (by omega)]
    rfl
  · rw [dif_neg (by omega)]
    rfl
  · omega
  · rfl

theorem ackNoticeBody_bad (h : ackSubject (s.args p) = none) : ackNoticeBody p s = refuse s .badArgument := by
  simp [ackNoticeBody, h]

theorem ackNoticeBody_kinds {x : Subject × KindSet} (h : ackSubject (s.args p) = some x)
    (hk : argSet (s.args p) 0x07 = 0#16 ∨ subset (argSet (s.args p) 0x07) x.2 = false) :
    ackNoticeBody p s = refuse s .badArgument := by
  obtain ⟨subject, kinds⟩ := x
  have : argSet (s.args p) 0x07 = 0#16 ∨ (!subset (argSet (s.args p) 0x07) kinds) = true := by simpa using hk
  simp only [ackNoticeBody, h]
  rw [if_pos this]

theorem ackNoticeBody_empty (h : argSet (s.args p) 0x07 = 0#16) : ackNoticeBody p s = refuse s .badArgument := by
  cases hx : ackSubject (s.args p) with
  | none => exact ackNoticeBody_bad hx
  | some x => exact ackNoticeBody_kinds hx (.inl h)

theorem ackNoticeBody_on {subject : Subject} {kinds : KindSet} (h : ackSubject (s.args p) = some (subject, kinds))
    (hn : argSet (s.args p) 0x07 ≠ 0#16) (hk : subset (argSet (s.args p) 0x07) kinds = true) :
    ackNoticeBody p s = ackOn p (argByte (s.args p) 0x06) (argSet (s.args p) 0x07) s subject := by
  have : ¬ (argSet (s.args p) 0x07 = 0#16 ∨ (!subset (argSet (s.args p) 0x07) kinds) = true) := by simp [hn, hk]
  simp only [ackNoticeBody, h]
  rw [if_neg this]

theorem ackSubject_port {a : Args} (h : argNat a 0x04 = 0) : ackSubject a = some (.port, 0x0007#16) := by
  simp [ackSubject, h, PortKind.all]

theorem ackSubject_line {a : Args} {n : Line} (h : argNat a 0x04 = 1) (hn : lineOf (argByte a 0x05) = some n) :
    ackSubject a = some (.line n, 0x0001#16) := by
  simp [ackSubject, h, hn, LineKind.all]

theorem ackSubject_slot {a : Args} {k : Slot} (h : argNat a 0x04 = 2) (hk : slotOf (argByte a 0x05) = some k) :
    ackSubject a = some (.slot k, 0xFFFF#16) := by
  simp [ackSubject, h, hk, SlotKind.all]

theorem ackSubject_ticket {a : Args} (h : argNat a 0x04 = 3) :
    ackSubject a = some (.ticket (argByte a 0x05), 0x0007#16) := by
  simp [ackSubject, h, TicketKind.all]

end

theorem ne_zero_of_toNat {a : KindSet} (h : 1 ≤ a.toNat) : a ≠ 0#16 := by
  rintro rfl
  simp at h

/-- Settles O41. -/
theorem ackRefused : Obligations.AckRefused := by
  intro p s a m named refused ht
  have he := exec_ackNotice p s
  have ref : ∀ {st}, ackNoticeBody p (s.take p) = refuse (s.take p) st → Refuses (.ackNotice p) s p st := fun h =>
    refuses he ht h
  have on : ∀ {subject kinds}, ackSubject a = some (subject, kinds) → named ≠ 0#16 → subset named kinds = true →
      ackNoticeBody p (s.take p) = ackOn p (argByte a 0x06) named (s.take p) subject := fun h hn hk => by
    have := ackNoticeBody_on (p := p) (s := s.take p) (by rw [State.take_args]; exact h)
      (by rw [State.take_args]; exact hn) (by rw [State.take_args]; exact hk)
    rwa [State.take_args] at this
  have kinds : ∀ {x}, ackSubject a = some x → subset named x.2 = false → refused .badArgument := fun h hk =>
    ref (ackNoticeBody_kinds (by rw [State.take_args]; exact h) (.inr (by rw [State.take_args]; exact hk)))
  have good : ∀ {k}, named &&& SlotKind.retired = 0#16 ∨ ((s.lease k).isSome = true ∧ (s.handle k).gen = argByte a 0x06) →
      retiredNameBad (s.take p) k (argByte a 0x06) named = false := fun hr => by
    rcases hr with hr | ⟨h₁, h₂⟩
    · simp [retiredNameBad, hr]
    · simp [retiredNameBad, h₂, h₁]
  refine ⟨fun h => ?subject, fun h => ?none, fun h hk => ?portKinds, fun h hk => ?lineKinds, fun h h₁ h₇ hm => ?port,
    fun n h hn hk hm => ?line, fun h h₁ h₇ hm => ?ticket, fun k h hk hn => ⟨fun hr hbad => ?retired, fun hr =>
      ⟨fun hm => ?noEntry, fun e hm hg => ?entry⟩⟩⟩
  case subject => exact ref (ackNoticeBody_bad (by rw [State.take_args]; exact ackSubject_bad h))
  case none => exact ref (ackNoticeBody_empty (by rw [State.take_args]; exact h))
  case portKinds =>
    have hsub : subset named 0x0007#16 = false := by
      rw [← Bool.not_eq_true, subset_seven]
      omega
    rcases h with h | h
    · exact kinds (ackSubject_port h) hsub
    · exact kinds (ackSubject_ticket h) hsub
  case lineKinds =>
    have hsub : subset named 0x0001#16 = false := by
      rw [← Bool.not_eq_true, subset_one]
      omega
    cases hn : lineOf (argByte a 0x05) with
    | some n => exact kinds (ackSubject_line h hn) hsub
    | none =>
      refine ref (ackNoticeBody_bad ?_)
      rw [State.take_args]
      simp [ackSubject, show argNat (s.args p) 0x04 = 1 from h, show lineOf (argByte (s.args p) 0x05) = none from hn]
  case port =>
    refine ref ((on (ackSubject_port h) (ne_zero_of_toNat h₁) ((subset_seven _).mpr h₇)).trans ?_)
    exact if_pos hm
  case line =>
    refine ref ((on (ackSubject_line h hn) (by rw [hk]; decide) (by rw [hk]; decide)).trans ?_)
    exact if_neg (by rw [State.take_map]; simp [show has (s.map p).lines n = false from hm])
  case ticket =>
    refine ref ((on (ackSubject_ticket h) (ne_zero_of_toNat h₁) ((subset_seven _).mpr h₇)).trans ?_)
    have : (s.map p).ticket? (argByte a 0x05) = none := by
      rw [NoticeMap.ticket?, List.find?_eq_none]
      simpa using hm
    simp [ackOn, this]
  case retired =>
    refine ref ((on (ackSubject_slot h hk) hn (subset_all _)).trans ?_)
    have : retiredNameBad (s.take p) k (argByte a 0x06) named = true := by
      rcases hbad with hbad | hbad <;> simp [retiredNameBad, hr, hbad]
    simp [ackOn, this]
  case noEntry =>
    refine ref ((on (ackSubject_slot h hk) hn (subset_all _)).trans ?_)
    simp [ackOn, good hr, show vget (s.map p).slots k = none from hm]
  case entry =>
    refine ref ((on (ackSubject_slot h hk) hn (subset_all _)).trans ?_)
    simp [ackOn, good hr, show vget (s.map p).slots k = some e from hm, hg]

/-! ## What an acknowledgment does (R158 to R160) -/

theorem removeSlot_only (m : NoticeMap) (k : Slot) (gen : Byte) (kinds : KindSet) :
    { m.removeSlot k gen kinds with slots := m.slots } = m := by
  unfold NoticeMap.removeSlot
  split
  · split <;> rfl
  · rfl

theorem slots_removeSlot_emptied {m : NoticeMap} {k : Slot} {e : SlotNotice} {kinds : KindSet}
    (h : vget m.slots k = some e) (hk : e.kinds &&& ~~~kinds = 0#16) :
    vget (m.removeSlot k e.gen kinds).slots k = none := by
  simp [NoticeMap.removeSlot, h, SlotNotice.remove, hk]

theorem kindsFor_entry {m : NoticeMap} {k : Slot} {e : SlotNotice} (h : vget m.slots k = some e) :
    kindsFor m k e.gen = e.kinds := by
  simp [kindsFor, h]

theorem sameShown_of_leases {s t : State} (hl : ∀ j, t.lease j = s.lease j) (hr : t.rstnAsserted = s.rstnAsserted)
    (hb : t.heldBy = s.heldBy) (hp : t.profiles = s.profiles)
    (hc : ∀ n, (t.cell n).assigned = (s.cell n).assigned) : SameShown s t := fun n => by
  have : SameLine s t n := ⟨hr, by rw [State.profile, hp]; rfl,
    liveHolding_congr (by rw [hb]) fun k _ => hl k, hc n⟩
  exact ⟨this.applied, this.checked⟩

theorem ackEdge_only (p : Port) (k : Slot) (gen : Byte) (s : State) : { ackEdge p k gen s with slots := s.slots } = s := by
  unfold ackEdge
  split
  · split <;> rfl
  · rfl

/-- EDGE acknowledged by the holder of a live WATCH under its handle. -/
theorem ackEdge_watch {p : Port} {k : Slot} {gen : Byte} {s : State} {l : Lease} (hk : s.lease k = some l)
    (hp : l.holder = p) (hg : (s.handle k).gen = gen) (hw : l.params.isWatch = true) (hl : l.state.live = true) :
    ackEdge p k gen s = s.setLease k { l with params := l.params.setChanged 0#16 } := by
  simp [ackEdge, hk, hp, hg, hw, hl]

theorem ackEdge_other {p : Port} {k : Slot} {gen : Byte} {s : State}
    (h : ∀ l, s.lease k = some l → l.holder ≠ p ∨ (s.handle k).gen ≠ gen ∨ l.params.isWatch = false
      ∨ l.state.live = false) : ackEdge p k gen s = s := by
  unfold ackEdge
  split
  · rename_i l hk
    refine if_neg fun ⟨hp, hg, hw, hl⟩ => ?_
    rcases h l hk with h | h | h | h
    · exact h hp
    · exact h hg
    · simp [h] at hw
    · simp [h] at hl
  · rfl

theorem kindConfig_setChanged (params : KindParams) (ls : LineSet) (v : Option Level) :
    kindConfig (params.setChanged ls) v = kindConfig params v := by
  cases params with
  | watch pull rising falling changed => cases pull <;> rfl
  | drive _ _ _ | pattern _ _ | guard _ _ _ => rfl

/-- An acknowledged slot entry, before RETIRED may free the record. -/
def acked (p : Port) (k : Slot) (e : SlotNotice) (named : KindSet) (s : State) : State :=
  if e.kinds &&& named &&& SlotKind.edge = 0#16 then s.setMap p ((s.map p).removeSlot k e.gen named)
  else ackEdge p k e.gen (s.setMap p ((s.map p).removeSlot k e.gen named))

section
variable (p : Port) (k : Slot) (e : SlotNotice) (named : KindSet) (s : State)

theorem ackSlot_eq : ackSlot p k e named s = if e.kinds &&& named &&& SlotKind.retired = 0#16 then acked p k e named s
    else ackRetired p k e.gen (acked p k e named s) := rfl

theorem acked_only : { acked p k e named s with slots := s.slots, maps := s.maps } = s := by
  unfold acked
  split
  · rfl
  · exact congrArg (fun u : State => { u with maps := s.maps })
      (ackEdge_only p k e.gen (s.setMap p ((s.map p).removeSlot k e.gen named)))

theorem acked_calm : Calm s (acked p k e named s) := by
  have hm : Calm s (s.setMap p ((s.map p).removeSlot k e.gen named)) := calm_setMap (removeSlot_tickets ..)
  unfold acked
  split
  · exact hm
  · exact hm.trans (calm_ackEdge ..)

theorem acked_map (q : Port) : (acked p k e named s).map q
    = if q = p then (s.map p).removeSlot k e.gen named else s.map q := by
  unfold acked
  split
  · exact State.setMap_map ..
  · exact (congrArg (fun u : State => u.map q)
      (ackEdge_only p k e.gen (s.setMap p ((s.map p).removeSlot k e.gen named))) :).trans (State.setMap_map ..)

/-- The record of the slot is as it was, or its changed set is emptied. -/
theorem acked_slots : (acked p k e named s).slots = s.slots
    ∨ ∃ l, s.lease k = some l ∧ l.params.isWatch = true
      ∧ (acked p k e named s).slots = (s.setLease k { l with params := l.params.setChanged 0#16 }).slots := by
  unfold acked ackEdge
  split
  · exact .inl rfl
  · split
    · rename_i l hk
      split
      · rename_i h
        exact .inr ⟨l, hk, h.2.2.1, rfl⟩
      · exact .inl rfl
    · exact .inl rfl

theorem acked_lease_ne {j : Slot} (h : j ≠ k) : (acked p k e named s).lease j = s.lease j := by
  rcases acked_slots p k e named s with hs | ⟨l, -, -, hs⟩
  · rw [State.lease, hs]
    rfl
  · rw [State.lease, hs]
    exact (State.setLease_lease ..).trans (if_neg h)

theorem acked_sameShown : SameShown s (acked p k e named s) := by
  have h := acked_only p k e named s
  have hr : (acked p k e named s).rstnAsserted = s.rstnAsserted := (congrArg State.rstnAsserted h :)
  have hb : (acked p k e named s).heldBy = s.heldBy := (congrArg State.heldBy h :)
  have hp : (acked p k e named s).profiles = s.profiles := (congrArg State.profiles h :)
  have hc : (acked p k e named s).cells = s.cells := (congrArg State.cells h :)
  have ha : ∀ n, ((acked p k e named s).cell n).assigned = (s.cell n).assigned := fun n => by rw [State.cell, hc]; rfl
  rcases acked_slots p k e named s with hs | ⟨l, hk, hw, hs⟩
  · exact sameShown_of_leases (fun j => by rw [State.lease, hs]; rfl) hr hb hp ha
  · have hrec : Rewritten s (acked p k e named s) k l { l with params := l.params.setChanged 0#16 } :=
      { before := hk
        after := by rw [State.lease, hs]; exact (State.setLease_lease ..).trans (if_pos rfl)
        others := fun j hj => acked_lease_ne p k e named s hj
        live := rfl
        faults := rfl
        config := fun v => (kindConfig_setChanged _ _ v).symm }
    exact hrec.sameShown hr hb hp ha

theorem isQuiet_congr {s t : State} {q : Port} (h : t.portRecs = s.portRecs) : t.isQuiet q = s.isQuiet q := by
  unfold State.isQuiet State.portRec
  rw [h]

theorem acked_endStep : endStep s (acked p k e named s) = acked p k e named s := by
  refine endStep_still (acked_calm ..).still (fun q h => ?_) (acked_sameShown p k e named s)
  have : (acked p k e named s).portRecs = s.portRecs := (congrArg State.portRecs (acked_only p k e named s) :)
  rwa [isQuiet_congr this]

end

/-! ## ACK_NOTICE -/

section
variable {p : Port} {s : State}

theorem ackNotice_on {subject : Subject} {kinds : KindSet} (h : ackSubject (s.args p) = some (subject, kinds))
    (hn : argSet (s.args p) 0x07 ≠ 0#16) (hk : subset (argSet (s.args p) 0x07) kinds = true) :
    ackNoticeBody p (s.take p)
      = ackOn p (argByte (s.args p) 0x06) (argSet (s.args p) 0x07) (s.take p) subject := by
  have := ackNoticeBody_on (p := p) (s := s.take p) (by rw [State.take_args]; exact h)
    (by rw [State.take_args]; exact hn) (by rw [State.take_args]; exact hk)
  rwa [State.take_args] at this

/-- The result of an ACK_NOTICE as the window shows it. -/
theorem ackBytes_shown {t u : State} {held named : KindSet} {st : Status}
    (h : Answers s t p st (ackBytes held named u p)) :
    windowByte t p 0x24 ++ windowByte t p 0x25 = held &&& named
      ∧ windowByte t p 0x26 ++ windowByte t p 0x27 = held &&& ~~~named
      ∧ windowByte t p 0x28 = BitVec.ofNat 8 (u.map p).count := by
  have h₀ := h.byte 0 (by omega)
  have h₁ := h.byte 1 (by omega)
  have h₂ := h.byte 2 (by omega)
  have h₃ := h.byte 3 (by omega)
  have h₄ := h.byte 4 (by omega)
  refine ⟨?_, ?_, h₄⟩
  · rw [show windowByte t p 0x24 = _ from h₀, show windowByte t p 0x25 = _ from h₁]
    exact word_bSet _
  · rw [show windowByte t p 0x26 = _ from h₂, show windowByte t p 0x27 = _ from h₃]
    exact word_bSet _

theorem Answers.status {t : State} {st : Status} {r : List Byte} (h : Answers s t p st r) : (t.window p).status = st := by
  rw [h.window]

theorem onlyWindow_setMap (p : Port) (s : State) (m : NoticeMap) (r : Reply) :
    OnlyWindow s { ((s.take p).setMap p m).complete p r with maps := s.maps } :=
  onlyWindow_complete (u := { (s.take p).setMap p m with maps := s.maps }) r rfl

/-- An ACK_NOTICE whose work is to rewrite the asker's map. -/
theorem acksMap {m : NoticeMap} {held named : KindSet} (ht : takes s (.ackNotice p) p = true)
    (hb : ackNoticeBody p (s.take p)
      = ((s.take p).setMap p m, Reply.ok (ackBytes held named ((s.take p).setMap p m) p))) :
    ∃ t, exec (.ackNotice p) s = .next t
      ∧ ((t.window p).status = .ok ∧ windowByte t p 0x24 ++ windowByte t p 0x25 = held &&& named
        ∧ windowByte t p 0x26 ++ windowByte t p 0x27 = held &&& ~~~named
        ∧ windowByte t p 0x28 = BitVec.ofNat 8 (t.map p).count)
      ∧ t.map p = m ∧ (∀ q, q ≠ p → t.map q = s.map q) ∧ OnlyWindow s { t with maps := s.maps } := by
  have ha : Answers s (((s.take p).setMap p m).complete p (Reply.ok (ackBytes held named ((s.take p).setMap p m) p))) p
      .ok (ackBytes held named ((s.take p).setMap p m) p) := answers_complete (Reply.ok _) rfl rfl
  have hmap : ∀ q, (((s.take p).setMap p m).complete p (Reply.ok (ackBytes held named ((s.take p).setMap p m) p))).map q
      = if q = p then m else s.map q := fun q => by
    rw [State.complete_map, State.setMap_map]
    rfl
  refine ⟨_, command_next (exec_ackNotice p s) ht hb, ⟨ha.status, ackBytes_shown ha⟩, by rw [hmap, if_pos rfl],
    fun q hq => by rw [hmap, if_neg hq], onlyWindow_setMap ..⟩

end

theorem mem_removeTicket {m : NoticeMap} {tk : Byte} {kinds : KindSet} {x : TicketNotice} :
    x ∈ (m.removeTicket tk kinds).tickets ↔ (x ∈ m.tickets ∧ x.ticket ≠ tk)
      ∨ ∃ y ∈ m.tickets, y.ticket = tk ∧ y.kinds &&& ~~~kinds ≠ 0#16 ∧ x = { y with kinds := y.kinds &&& ~~~kinds } := by
  unfold NoticeMap.removeTicket
  rw [List.mem_filterMap]
  constructor
  · rintro ⟨y, hy, h⟩
    split at h
    · rename_i ht
      split at h
      · cases h
      · rename_i hk
        exact .inr ⟨y, hy, ht, hk, by simpa using h.symm⟩
    · rename_i ht
      obtain rfl : y = x := by simpa using h
      exact .inl ⟨hy, ht⟩
  · rintro (⟨hx, ht⟩ | ⟨y, hy, ht, hk, rfl⟩)
    · exact ⟨x, hx, by rw [if_neg ht]⟩
    · exact ⟨y, hy, by rw [if_pos ht, if_neg hk]⟩

theorem has_single (n j : Line) : has (single n) j = decide (j = n) := by
  unfold has single
  rw [BitVec.getLsbD_shiftLeft]
  have := n.isLt
  have := j.isLt
  by_cases h : j = n
  · subst h
    simp
  · have : ¬ j.val = n.val := fun e => h (Fin.ext e)
    simp [h]
    omega

end Sys2Proof.Machine

/-! PROOFS. ACK_NOTICE that passes its checks, and CLOSED records that become FREE; O27 and O42. -/

namespace Sys2Proof.Machine

/-! ## An acknowledged slot entry -/

section
variable {p : Port} {s : State} {k : Slot} {e : SlotNotice} {named : KindSet}

/-- RETIRED named where it frees nothing. -/
theorem ackSlot_acked (h : named &&& SlotKind.retired = 0#16
      ∨ ∃ l, s.lease k = some l ∧ (e.kinds &&& SlotKind.retired = 0#16 ∨ l.holder ≠ p ∨ ∀ r, l.state ≠ .closed r)) :
    ackSlot p k e named s = acked p k e named s := by
  rw [ackSlot_eq]
  split
  · rfl
  · rename_i hr
    rcases h with h | ⟨l, hk, h⟩
    · rw [BitVec.and_assoc, h] at hr
      simp at hr
    · have hfree : ∀ m : Lease, m.holder = l.holder → m.state = l.state → ¬ (m.holder = p ∧ m.state.isClosed = true) := by
        rintro m hp hs ⟨hmp, hmc⟩
        rcases h with h | h | h
        · rw [BitVec.and_assoc, BitVec.and_comm named, ← BitVec.and_assoc, h] at hr
          simp at hr
        · exact h (hp.symm.trans hmp)
        · rw [hs] at hmc
          cases hst : l.state <;> simp [hst, LeaseState.isClosed] at hmc
          exact h _ hst
      have keep : ∀ m, (acked p k e named s).lease k = some m → m.holder = l.holder → m.state = l.state →
          ackRetired p k e.gen (acked p k e named s) = acked p k e named s := by
        intro m hm hp hs
        unfold ackRetired
        rw [hm]
        dsimp only
        exact if_neg fun hc => hfree m hp hs ⟨hc.1, hc.2.2⟩
      rcases acked_slots p k e named s with hs | ⟨m, hm, -, hs⟩
      · exact keep l (by rw [State.lease, hs]; exact hk) rfl rfl
      · obtain rfl : m = l := Option.some.inj (hm.symm.trans hk)
        exact keep { m with params := m.params.setChanged 0#16 } (by rw [State.lease, hs]; exact (State.setLease_lease ..).trans (if_pos rfl)) rfl rfl

/-- The slot case of ACK_NOTICE past its checks. -/
theorem ackOn_slot {gen : Byte} (hbad : retiredNameBad s k gen named = false) (he : vget (s.map p).slots k = some e)
    (hg : e.gen = gen) : ackOn p gen named s (.slot k)
      = (endStep s (ackSlot p k e named s), Reply.ok (ackBytes e.kinds named (endStep s (ackSlot p k e named s)) p)) := by
  simp [ackOn, hbad, he, hg]

theorem acked_lease_watch {l : Lease} (hk : s.lease k = some l) (hp : l.holder = p) (hg : (s.handle k).gen = e.gen)
    (hw : l.params.isWatch = true) (hl : l.state.live = true) (he : e.kinds &&& named &&& SlotKind.edge ≠ 0#16) :
    (acked p k e named s).lease k = some { l with params := l.params.setChanged 0#16 } := by
  unfold acked
  rw [if_neg he, ackEdge_watch (l := l) (by simpa using hk) hp (by simpa using hg) hw hl, State.setLease_lease,
    if_pos rfl]

theorem acked_lease_other {l : Lease} (hk : s.lease k = some l) (h : l.holder ≠ p ∨ (s.handle k).gen ≠ e.gen
      ∨ l.params.isWatch = false ∨ l.state.live = false ∨ e.kinds &&& named &&& SlotKind.edge = 0#16) :
    (acked p k e named s).lease k = some l := by
  have hm : (s.setMap p ((s.map p).removeSlot k e.gen named)).lease k = some l := by simpa using hk
  unfold acked
  split
  · exact hm
  · rename_i he
    rw [ackEdge_other, hm]
    intro m hmk
    obtain rfl : l = m := Option.some.inj (hm.symm.trans hmk)
    rcases h with h | h | h | h | h
    · exact .inl h
    · exact .inr (.inl (by simpa using h))
    · exact .inr (.inr (.inl h))
    · exact .inr (.inr (.inr h))
    · exact absurd h he

theorem acked_handle (j : Slot) : (acked p k e named s).handle j = s.handle j := (acked_calm ..).still.handle j

end

theorem onlyWindow_acked (p : Port) (k : Slot) (e : SlotNotice) (named : KindSet) (s : State) (r : Reply) :
    OnlyWindow s { (acked p k e named (s.take p)).complete p r with slots := s.slots, maps := s.maps } :=
  onlyWindow_complete (u := { acked p k e named (s.take p) with slots := s.slots, maps := s.maps }) r
    (congrArg (fun u : State => { u with windows := s.windows, lastServed := s.lastServed })
      (acked_only p k e named (s.take p)))

/-- Settles O42. -/
theorem ackRemovesKinds : Obligations.AckRemovesKinds := by
  intro p s a m named answers ht hn
  refine ⟨fun h hk hm => ?port, fun n h hl hk hm => ?line, fun h hk hx => ?ticket, fun k e h hk he hg hr => ?slot⟩
  case port =>
    have hb := ackNotice_on (s := s) (ackSubject_port h) hn ((subset_seven _).mpr hk)
    rw [ackOn, if_neg (by rw [State.take_map]; exact hm)] at hb
    exact acksMap ht hb
  case line =>
    have hsub : subset named 0x0001#16 = true := by rw [hk]; rfl
    have hb := ackNotice_on (s := s) (ackSubject_line h hl) hn hsub
    rw [ackOn, if_pos (by rw [State.take_map]; exact hm)] at hb
    obtain ⟨t, h₁, h₂, h₃, h₄, h₅⟩ := acksMap ht hb
    refine ⟨t, h₁, h₂, fun j => ?_, by rw [h₃]; rfl, h₄, h₅⟩
    have hj : has (t.map p).lines j = ((s.map p).lines &&& ~~~(single n)).getLsbD j.val := by rw [h₃]; rfl
    have hs : (single n).getLsbD j.val = decide (j = n) := has_single n j
    rw [hj, BitVec.getLsbD_and, BitVec.getLsbD_not, hs]
    simp [has, m, bne, BEq.beq]
  case ticket =>
    have hsub : subset named 0x0007#16 = true := (subset_seven _).mpr hk
    obtain ⟨e, he⟩ : ∃ e, (s.map p).ticket? (argByte a 0x05) = some e := by
      obtain ⟨x, hx, hxt⟩ := hx
      rw [← Option.isSome_iff_exists, NoticeMap.ticket?, List.find?_isSome]
      exact ⟨x, hx, by simpa using hxt⟩
    have hb := ackNotice_on (s := s) (ackSubject_ticket h) hn hsub
    have hon : ackOn p (argByte a 0x06) named (s.take p) (.ticket (argByte a 0x05))
        = ((s.take p).setMap p ((s.map p).removeTicket (argByte a 0x05) named),
          Reply.ok (ackBytes e.kinds named ((s.take p).setMap p ((s.map p).removeTicket (argByte a 0x05) named)) p)) := by
      simp [ackOn, he]
    obtain ⟨t, h₁, h₂, h₃, h₄, h₅⟩ := acksMap ht (hb.trans hon)
    refine ⟨t, h₁, h₂.1, fun hright x hx hxt => ?_, fun x => by rw [h₃]; exact mem_removeTicket, by rw [h₃]; rfl, h₄, h₅⟩
    have hmem : e ∈ (s.map p).tickets := List.mem_of_find?_eq_some he
    have htick : e.ticket = argByte a 0x05 := by simpa using List.find?_some he
    obtain rfl : x = e := by
      have := List.inj_on_of_nodup_map (hright.distinct p)
      exact this hx hmem (hxt.trans htick.symm)
    exact h₂
  case slot =>
    have hbad : retiredNameBad (s.take p) k (argByte a 0x06) named = false := by
      rcases hr with hr | ⟨l, hl, hgen, -⟩
      · simp [retiredNameBad, hr]
      · simp [retiredNameBad, hl, hgen, hg]
    have hacked : ackSlot p k e named (s.take p) = acked p k e named (s.take p) :=
      ackSlot_acked (hr.imp id fun ⟨l, hl, _, h⟩ => ⟨l, hl, h⟩)
    have hb := (ackNotice_on (s := s) (ackSubject_slot h hk) hn (subset_all _)).trans
      (ackOn_slot hbad (by rw [State.take_map]; exact he) hg)
    rw [hacked, acked_endStep] at hb
    have hkept := kept_ackNoticeBody p (s.take p)
    rw [hb] at hkept
    have ha := hkept.answers (Reply.ok (ackBytes e.kinds named (acked p k e named (s.take p)) p))
    have hmap : ∀ q, ((acked p k e named (s.take p)).complete p
        (Reply.ok (ackBytes e.kinds named (acked p k e named (s.take p)) p))).map q
          = if q = p then m.removeSlot k e.gen named else s.map q := fun q => by
      rw [State.complete_map, acked_map]
      rfl
    refine ⟨_, command_next (exec_ackNotice p s) ht hb, ⟨ha.status, ackBytes_shown ha⟩, ?_, fun hz => ?_,
      ⟨?_, fun j hj => ?_⟩, fun q hq => by rw [hmap, if_neg hq], fun j hj => ?_, fun j => ?_, onlyWindow_acked ..,
      fun l hl hp hgen hw hlive hedge => ?_, fun l hl hother => ?_⟩
    · rw [hmap, if_pos rfl, kindsFor_removeSlot, kindsFor_entry he]
    · rw [hmap, if_pos rfl]
      exact slots_removeSlot_emptied he hz
    · rw [hmap, if_pos rfl]
      exact removeSlot_only ..
    · rw [hmap, if_pos rfl]
      exact slots_removeSlot_ne _ _ _ hj
    · exact acked_lease_ne p k e named (s.take p) hj
    · exact acked_handle (s := s.take p) j
    · exact acked_lease_watch (s := s.take p) hl hp hgen hw hlive hedge
    · exact acked_lease_other (s := s.take p) hl hother

/-! ## CLOSED records (R15, R58, R159) -/

theorem single_bit_left {x named : KindSet} (h : named &&& SlotKind.retired ≠ 0#16) :
    x &&& ~~~named &&& SlotKind.retired = 0#16 := by
  have hr : SlotKind.retired = BitVec.twoPow 16 3 := rfl
  rw [hr, BitVec.and_twoPow] at h ⊢
  have hbit : named.getLsbD 3 = true := by
    by_contra hn
    exact h (if_neg hn)
  rw [if_neg]
  rw [BitVec.getLsbD_and, BitVec.getLsbD_not, hbit]
  simp

section
variable {s v : State} {k : Slot} {l : Lease} {b : State}

/-- What the end of a step makes of a slot that has become FREE. -/
theorem freed_endStep (hv : v.lease k = some l) (ho : ∀ j, j ≠ k → v.lease j = s.lease j)
    (hh : ∀ j, v.handle j = s.handle j) : let t := endStep b (freeRecord k v)
    OthersKept s t k ∧ (t.lease k = none ∨ (t.handle k).gen ≠ (s.handle k).gen)
      ∧ ∀ q, kindsFor (t.map q) k (s.handle k).gen = kindsFor (v.map q) k (s.handle k).gen
        ∨ kindsFor (t.map q) k (s.handle k).gen = 0#16
          ∧ ∃ l', t.lease k = some l' ∧ l'.holder = q ∧ (t.handle k).gen ≠ (s.handle k).gen
            ∧ Holds t q k (t.handle k).gen SlotKind.granted := by
  intro t
  have hfree : (freeRecord k v).lease k = none := by rw [freeRecord_lease hv, if_pos rfl]
  have hfog : FreeOrGranted (freeRecord k v) t k := endStep_freeSlot hfree
  have hgen : ((freeRecord k v).handle k).gen = (s.handle k).gen := by rw [freeRecord_handle, hh]
  refine ⟨(endStep_keeps b (freeRecord k v)).othersKept (fun j hj => ?_) fun j => ?_, ?_, fun q => ?_⟩
  · rw [freeRecord_lease hv, if_neg hj, ho j hj]
  · rw [freeRecord_handle, hh]
  · rw [← hgen]
    exact hfog.freed
  · have := hfog.kinds q
    rw [hgen] at this
    simpa using this

/-- The same once the command has completed. -/
theorem freed_complete (hv : v.lease k = some l) (ho : ∀ j, j ≠ k → v.lease j = s.lease j)
    (hh : ∀ j, v.handle j = s.handle j) (p : Port) (r : Reply) :
    let t := (endStep b (freeRecord k v)).complete p r
    OthersKept s t k ∧ (t.lease k = none ∨ (t.handle k).gen ≠ (s.handle k).gen)
      ∧ ∀ q, kindsFor (t.map q) k (s.handle k).gen = kindsFor (v.map q) k (s.handle k).gen
        ∨ kindsFor (t.map q) k (s.handle k).gen = 0#16
          ∧ ∃ l', t.lease k = some l' ∧ l'.holder = q ∧ (t.handle k).gen ≠ (s.handle k).gen
            ∧ Holds t q k (t.handle k).gen SlotKind.granted := by
  have h := freed_endStep (b := b) hv ho hh
  simpa only [OthersKept, Holds, State.complete_lease, State.complete_handle, State.complete_map] using h

end

theorem revokeBody_closed {s : State} {k : Slot} {l : Lease} {r : CloseReason} (h : Names s 0 k l)
    (hl : l.state = .closed r) : revokeBody 0 (s.take 0)
      = (endStep (s.take 0) (freeRecord k (dropSlotKinds l.holder k SlotKind.retired (s.take 0))), Reply.ok []) := by
  simp [revokeBody, checkHandle_names h, hl]

/-- RETIRED acknowledged by the holder of a CLOSED record: nothing but the map changes before the record goes. -/
theorem ackSlot_closed {p : Port} {s : State} {k : Slot} {l : Lease} {r : CloseReason} {e : SlotNotice}
    {named : KindSet} (hk : s.lease k = some l) (hr : l.state = .closed r) (hp : l.holder = p)
    (hg : (s.handle k).gen = e.gen) (hn : e.kinds &&& named &&& SlotKind.retired ≠ 0#16) :
    ackSlot p k e named s = freeRecord k (s.setMap p ((s.map p).removeSlot k e.gen named)) := by
  have hacked : acked p k e named s = s.setMap p ((s.map p).removeSlot k e.gen named) := by
    unfold acked
    split
    · rfl
    · refine ackEdge_other fun m hm => .inr (.inr (.inr ?_))
      obtain rfl : l = m := Option.some.inj (hk.symm.trans hm)
      rw [hr]
      rfl
  rw [ackSlot_eq, if_neg hn, hacked]
  simp [ackRetired, hk, hp, hg, hr, LeaseState.isClosed]

/-- Settles O27: the slot is FREE before the scan of the step, which may grant it again with the next generation. -/
theorem closedRecordFreed : Obligations.ClosedRecordFreed := by
  intro s k l r hk hr
  refine ⟨fun ht hn => ?revoke, ?ack⟩
  case revoke =>
    have hb := revokeBody_closed hn hr
    have hkept := kept_revokeBody 0 (s.take 0)
    rw [hb] at hkept
    obtain ⟨h₁, h₂, h₃⟩ := freed_complete (s := s) (b := s.take 0) (v := dropSlotKinds l.holder k SlotKind.retired (s.take 0))
      (k := k) (l := l) (by simpa using hk) (fun j _ => by simp) (fun j => by simp) 0 (Reply.ok [])
    refine ⟨_, command_next (exec_revoke 0 s) ht hb, (hkept.answers _).status, h₁, hkept.engineKept (by simp) _, h₂, ?_⟩
    rcases h₃ l.holder with h | ⟨h, -⟩
    · rw [h, dropSlotKinds_map, if_pos rfl, State.take_handle, kindsFor_removeSlot, and_not_and_self]
    · rw [h]
      simp
  case ack =>
    intro p a named gen held ht h hslot hgen hn hheld
    obtain ⟨e, he, hg⟩ : ∃ e, vget (s.map p).slots k = some e ∧ e.gen = gen := by
      unfold Holds kindsFor at hheld
      split at hheld
      · rename_i e he
        split at hheld
        · rename_i hg
          exact ⟨e, he, hg⟩
        · exact absurd hheld (by decide)
      · exact absurd hheld (by decide)
    have hkinds : held = e.kinds := by
      rw [← kindsFor_entry he, hg]
    have hnz : named ≠ 0#16 := by
      intro hz
      rw [hz] at hn
      simp at hn
    have hremoved : e.kinds &&& named &&& SlotKind.retired ≠ 0#16 := by
      have : e.kinds &&& SlotKind.retired = SlotKind.retired := by
        rw [← hkinds]
        exact hheld
      rwa [BitVec.and_assoc, BitVec.and_comm named, ← BitVec.and_assoc, this, BitVec.and_comm]
    have hbad : retiredNameBad (s.take p) k (argByte a 0x06) named = false := by
      simp [retiredNameBad, hk, show argByte (s.args p) 0x06 = gen from hgen, gen, a]
    have hb := (ackNotice_on (s := s) (ackSubject_slot h hslot) hnz (subset_all _)).trans
      (ackOn_slot hbad (by rw [State.take_map]; exact he) (hg.trans hgen.symm))
    rw [ackSlot_closed (s := s.take p) hk hr rfl hg.symm hremoved] at hb
    have hkept := kept_ackNoticeBody p (s.take p)
    rw [hb] at hkept
    generalize hv : (s.take p).setMap p (((s.take p).map p).removeSlot k e.gen (argSet (s.args p) 0x07)) = v at hb hkept
    obtain ⟨h₁, h₂, h₃⟩ := freed_complete (s := s) (b := s.take p) (v := v) (k := k) (l := l)
      (by rw [← hv]; simpa using hk) (fun j _ => by rw [← hv]; simp) (fun j => by rw [← hv]; simp)
      p (Reply.ok (ackBytes e.kinds (argSet (s.args p) 0x07) (endStep (s.take p) (freeRecord k v)) p))
    have hvmap : kindsFor (v.map p) k gen = held &&& ~~~named := by
      rw [← hv, State.setMap_map, if_pos rfl, ← hg, kindsFor_removeSlot, State.take_map, kindsFor_entry he, hkinds]
    have ha := hkept.answers (Reply.ok (ackBytes e.kinds (argSet (s.args p) 0x07) (endStep (s.take p) (freeRecord k v)) p))
    obtain ⟨b₁, b₂, -⟩ := ackBytes_shown ha
    refine ⟨_, command_next (exec_ackNotice p s) ht hb, ha.status, h₁, hkept.engineKept (by rw [← hv]; simp) _, h₂, ?_, ?_,
      by rw [hkinds]; exact b₁, by rw [hkinds]; exact b₂⟩
    · rcases h₃ p with h | ⟨h, -⟩
      · rw [show kindsFor _ k gen = _ from h, hvmap]
        exact single_bit_left hn
      · rw [show kindsFor _ k gen = _ from h]
        simp
    · rcases h₃ p with h | ⟨-, l', h₄, h₅, h₆, h₇⟩
      · exact .inl (h.trans hvmap)
      · exact .inr ⟨l', h₄, h₅, h₆, h₇⟩

end Sys2Proof.Machine

/-! PROOFS. Attention lines, PORT_INFO, NOTICE_COUNT and NEXT_NOTICE; O40. -/

namespace Sys2Proof.Machine

/-! ## The number of entries (R164) -/

theorem finRange_find? {n : Nat} {f : Fin n → Bool} {k : Fin n} (hk : f k = true) (hlow : ∀ j, j < k → f j = false) :
    (List.finRange n).find? f = some k := by
  rw [List.find?_eq_some_iff_getElem]
  refine ⟨hk, k.val, by simp, by simp, fun j hj => ?_⟩
  have hjn : j < n := hj.trans k.isLt
  simpa using hlow ⟨j, hjn⟩ hj

theorem has_of_ne_zero {ls : LineSet} (h : ls ≠ 0#16) : ∃ n, has ls n = true := by
  by_contra hc
  refine h (BitVec.eq_of_getLsbD_eq fun i hi => ?_)
  have : has ls ⟨i, hi⟩ = false := by simpa using fun e => hc ⟨⟨i, hi⟩, e⟩
  simpa [has] using this

theorem countLines_pos (ls : LineSet) : 0 < countLines ls ↔ ls ≠ 0#16 := by
  constructor
  · rintro h rfl
    simp [countLines, linesOf, has] at h
  · intro h
    obtain ⟨n, hn⟩ := has_of_ne_zero h
    exact List.length_pos_of_mem ((linesOf_mem ls n).mpr hn)

theorem slotCount_pos (m : NoticeMap) : 0 < m.slotCount ↔ ∃ k, (vget m.slots k).isSome = true := by
  simp only [NoticeMap.slotCount, List.length_pos_iff_exists_mem, List.mem_filter, List.mem_finRange, true_and]

/-- A port's map has an entry. -/
def HasEntry (m : NoticeMap) : Prop :=
  m.port ≠ 0#16 ∨ m.lines ≠ 0#16 ∨ (∃ k, (vget m.slots k).isSome) ∨ m.tickets ≠ []

theorem count_eq (m : NoticeMap) : m.count = (if m.port = 0#16 then 0 else 1)
    + (List.finRange 16).countP (fun n => has m.lines n)
    + (List.finRange 24).countP (fun k => (vget m.slots k).isSome) + m.tickets.length := by
  simp only [NoticeMap.count, countLines, linesOf, NoticeMap.slotCount, List.countP_eq_length_filter]

theorem nonEmpty_iff (m : NoticeMap) : m.nonEmpty = true ↔ HasEntry m := by
  unfold NoticeMap.nonEmpty NoticeMap.count HasEntry
  rw [decide_eq_true_eq, Nat.add_pos_iff_pos_or_pos, Nat.add_pos_iff_pos_or_pos, Nat.add_pos_iff_pos_or_pos,
    countLines_pos, slotCount_pos, List.length_pos_iff]
  have : 0 < (if m.port = 0#16 then 0 else 1) ↔ m.port ≠ 0#16 := by split <;> simp_all
  rw [this]
  tauto

theorem count_le {s : State} (h : Safe s) (p : Port) : (s.map p).count ≤ 44 := by
  have h₁ : countLines (s.map p).lines ≤ 16 := by
    simpa [countLines, linesOf] using List.length_filter_le (fun n => has (s.map p).lines n) (List.finRange 16)
  have h₂ : (s.map p).slotCount ≤ 24 := by
    simpa [NoticeMap.slotCount] using
      List.length_filter_le (fun k => (vget (s.map p).slots k).isSome) (List.finRange 24)
  have h₃ : (s.map p).tickets.length ≤ 3 := le_trans (Nat.le_add_left _ _) (h.waits.2.2 p)
  have h₄ : (if (s.map p).port = 0#16 then 0 else 1) ≤ 1 := by split <;> omega
  unfold NoticeMap.count
  omega

/-! ## PORT_INFO (R173) -/

theorem portInfo_bits (p : Port) (quiet entries : Bool) :
    let b : Byte := BitVec.ofNat 8 (p.val + (if quiet then 4 else 0) + (if entries then 8 else 0))
    b.extractLsb' 0 2 = BitVec.ofNat 2 p.val ∧ b.getLsbD 2 = quiet ∧ b.getLsbD 3 = entries
      ∧ b.extractLsb' 4 4 = 0#4 := by
  revert p quiet entries
  decide

theorem isQuiet_iff (s : State) (p : Port) : s.isQuiet p = true ↔ ∃ x, (s.portRec p).quiet = some x ∧ 0 < x := by
  unfold State.isQuiet PortRec.quietRemaining
  cases (s.portRec p).quiet <;> simp

/-! ## The first entry (R156) -/

section
variable {m : NoticeMap}

theorem subjects_port (h : m.port ≠ 0#16) : m.subjects.head? = some .port := by
  simp [NoticeMap.subjects, h]

theorem subjects_line {n : Line} (h : m.port = 0#16) (hn : has m.lines n = true)
    (hlow : ∀ j, j < n → has m.lines j = false) : m.subjects.head? = some (.line n) := by
  have hline : (linesOf m.lines).head? = some n := by
    rw [linesOf, List.head?_filter]
    exact finRange_find? hn hlow
  simp [NoticeMap.subjects, h, List.head?_append, hline]

theorem linesOf_zero : linesOf 0#16 = [] := by simp [linesOf, has]

theorem subjects_slot {k : Slot} {e : SlotNotice} (h : m.port = 0#16) (hl : m.lines = 0#16)
    (hk : vget m.slots k = some e) (hlow : ∀ j, j < k → vget m.slots j = none) :
    m.subjects.head? = some (.slot k) := by
  have hslot : ((List.finRange 24).filter fun k => (vget m.slots k).isSome).head? = some k := by
    rw [List.head?_filter]
    exact finRange_find? (by rw [hk]; rfl) fun j hj => by rw [hlow j hj]; rfl
  simp [NoticeMap.subjects, h, hl, linesOf_zero, List.head?_append, hslot]

theorem subjects_ticket {e : TicketNotice} {rest : List TicketNotice} (h : m.port = 0#16) (hl : m.lines = 0#16)
    (hs : ∀ k, vget m.slots k = none) (ht : m.tickets = e :: rest) : m.subjects.head? = some (.ticket e.ticket) := by
  simp [NoticeMap.subjects, h, hl, linesOf_zero, hs, ht]

theorem subjects_nil (h : m.port = 0#16) (hl : m.lines = 0#16) (hs : ∀ k, vget m.slots k = none)
    (ht : m.tickets = []) : m.subjects = [] := by
  simp [NoticeMap.subjects, h, hl, linesOf_zero, hs, ht]

theorem subjects_ne_nil (h : HasEntry m) : ∃ x rest, m.subjects = x :: rest := by
  rw [← List.ne_nil_iff_exists_cons]
  intro hn
  simp only [NoticeMap.subjects, List.append_eq_nil_iff, List.map_eq_nil_iff, List.filter_eq_nil_iff, linesOf,
    List.mem_finRange, true_implies] at hn
  obtain ⟨⟨⟨h₁, h₂⟩, h₃⟩, h₄⟩ := hn
  rcases h with h | h | ⟨k, h⟩ | h
  · rw [if_neg h] at h₁
    cases h₁
  · obtain ⟨n, hn⟩ := has_of_ne_zero h
    exact h₂ n hn
  · exact h₃ k h
  · exact h h₄

/-- Every result of NEXT_NOTICE ends with the number of entries. -/
theorem noticeBytes_count {x : Subject} (h : x ∈ m.subjects) :
    (noticeBytes m x).getD 8 0#8 = BitVec.ofNat 8 m.count := by
  cases x with
  | port => rfl
  | line n => rfl
  | ticket t => rfl
  | slot k =>
    have hk : (vget m.slots k).isSome = true := by
      simp only [NoticeMap.subjects, List.mem_append, List.mem_map, List.mem_filter] at h
      rcases h with ((h | ⟨_, _, h⟩) | ⟨j, ⟨-, hj⟩, h⟩) | ⟨_, _, h⟩
      · split at h <;> simp at h
      · cases h
      · cases h
        exact hj
      · cases h
    obtain ⟨e, he⟩ := Option.isSome_iff_exists.mp hk
    simp only [noticeBytes, he]
    rfl

end

/-- Settles O40. -/
theorem nextNotice : Obligations.NextNotice := by
  intro p s m hasEntry entries
  have hcount : m.count = entries := count_eq m
  have hbits := portInfo_bits p (s.isQuiet p) m.nonEmpty
  refine ⟨?_, ⟨?_, ?_, ?_, ?_⟩, ?_, fun h => ?_, fun ht => ⟨fun h hl hs hk => ?_, fun h => ?_⟩⟩
  · rw [attention, Bool.and_eq_true, Bool.not_eq_true', nonEmpty_iff]
    rfl
  · rw [windowByte_info]
    exact hbits.1
  · rw [windowByte_info]
    exact (Iff.of_eq (congrArg (· = true) hbits.2.1)).trans (isQuiet_iff s p)
  · rw [windowByte_info]
    exact (Iff.of_eq (congrArg (· = true) hbits.2.2.1)).trans (nonEmpty_iff m)
  · rw [windowByte_info]
    exact hbits.2.2.2
  · rw [windowByte_count, hcount]
  · rw [← hcount]
    exact count_le h p
  · refine refuses (exec_nextNotice p s) ht ?_
    unfold nextNoticeBody
    rw [State.take_map, show (s.map p).subjects = [] from subjects_nil h hl hs hk]
  · obtain ⟨x, rest, hx⟩ := subjects_ne_nil h
    have hb : nextNoticeBody p (s.take p) = (s.take p, Reply.ok (noticeBytes m x)) := by
      unfold nextNoticeBody
      rw [State.take_map, show (s.map p).subjects = x :: rest from hx]
    obtain ⟨t, hrun, honly, ha⟩ := repliesOnly (exec_nextNotice p s) ht hb
    have byte := ha.byte
    have is : ∀ {y}, m.subjects.head? = some y → x = y := fun hy => by
      rw [hx] at hy
      simpa using hy
    refine ⟨t, hrun, honly, ha.status, ?_, fun hp => ?_, fun n hp hn hlow => ?_, fun k e hp hl hk hlow => ?_,
      fun e rest' hp hl hs htk => ?_⟩
    · rw [show windowByte t p 0x2C = _ from byte 8 (by omega), ← hcount]
      exact noticeBytes_count (by rw [hx]; exact List.mem_cons_self ..)
    · obtain rfl := is (subjects_port hp)
      refine ⟨byte 0 (by omega), ?_⟩
      rw [show windowByte t p 0x27 = _ from byte 3 (by omega), show windowByte t p 0x28 = _ from byte 4 (by omega)]
      exact word_bSet _
    · obtain rfl := is (subjects_line hp hn hlow)
      refine ⟨byte 0 (by omega), byte 1 (by omega), ?_⟩
      rw [show windowByte t p 0x27 = _ from byte 3 (by omega), show windowByte t p 0x28 = _ from byte 4 (by omega)]
      exact word_bSet _
    · obtain rfl := is (subjects_slot hp hl hk hlow)
      simp only [Reply.ok, noticeBytes, hk] at byte
      refine ⟨byte 0 (by omega), byte 1 (by omega), byte 2 (by omega), ?_, fun r hr => ?_, fun o ho => ?_, byte 7 (by omega)⟩
      · rw [show windowByte t p 0x27 = _ from byte 3 (by omega), show windowByte t p 0x28 = _ from byte 4 (by omega)]
        exact word_bSet _
      · rw [hr] at byte
        exact byte 5 (by omega)
      · rw [ho] at byte
        exact byte 6 (by omega)
    · obtain rfl := is (subjects_ticket hp hl hs htk)
      have hfind : m.ticket? e.ticket = some e := by simp [NoticeMap.ticket?, htk]
      simp only [Reply.ok, noticeBytes, hfind] at byte
      refine ⟨byte 0 (by omega), byte 1 (by omega), ?_, fun hright y hy => ?_⟩
      · rw [show windowByte t p 0x27 = _ from byte 3 (by omega), show windowByte t p 0x28 = _ from byte 4 (by omega)]
        exact word_bSet _
      · have := hright.notices p
        rw [show (s.map p).tickets = e :: rest' from htk, List.map_cons, List.pairwise_cons] at this
        exact this.1 _ (List.mem_map.mpr ⟨y, hy, rfl⟩)

end Sys2Proof.Machine

/-! PROOFS. LOOKUP_LINE and QUERY_QUEUE; O21 and O23. -/

namespace Sys2Proof.Machine

/-! ## LOOKUP_LINE (R18, R179) -/

theorem Answers.tail {s t : State} {p : Port} {st : Status} {r : List Byte} (h : Answers s t p st r) {i : Nat}
    (hi : 0x24 + r.length ≤ i) (hw : i < 0x3C) : windowByte t p i = 0#8 := by
  obtain ⟨j, rfl⟩ : ∃ j, i = 0x24 + j := ⟨i - 0x24, by omega⟩
  rw [h.byte j (by omega), List.getD_eq_getElem?_getD, List.getElem?_eq_none (by omega)]
  rfl

theorem observers_eq (s : State) (n : Line) : observers s n = (List.finRange 24).countP fun k =>
    (s.lease k).any fun l => (l.state.isActive || l.state.isGrace)
      && match l.params with
        | .guard spec _ _ => spec.conditions.any fun c => c.line == n
        | .drive _ _ _ | .pattern _ _ | .watch _ _ _ _ => false := by
  rw [observers, ← List.countP_eq_length_filter]
  refine List.countP_congr fun k _ => ?_
  cases s.lease k with
  | none => exact Iff.rfl
  | some l => exact Iff.rfl

theorem lineRecord_unheld {s : State} {n : Line} (h : holding s n = none) : lineRecord s n
    = [0#8, 0xFF#8, 0xFF#8, 0xFF#8, 0xFF#8, BitVec.ofNat 8 (observers s n), BitVec.ofNat 8 (s.profile n).rest.code,
      BitVec.ofNat 8 (s.cell n).debounced.toNat, BitVec.ofNat 8 (s.profile n).restFault.toNat] := by
  unfold lineRecord
  rw [h]
  rfl

theorem lineRecord_held {s : State} {n : Line} {k : Slot} {l : Lease} (h : holding s n = some (k, l)) : lineRecord s n
    = [1#8, BitVec.ofNat 8 k.val, (s.handle k).gen, BitVec.ofNat 8 l.holder.val, BitVec.ofNat 8 l.state.code,
      BitVec.ofNat 8 (observers s n), BitVec.ofNat 8 (s.profile n).rest.code,
      BitVec.ofNat 8 (s.cell n).debounced.toNat, BitVec.ofNat 8 (s.profile n).restFault.toNat] := by
  unfold lineRecord
  rw [h]
  rfl

/-- Settles O23. -/
theorem lookupLine : Obligations.LookupLine := by
  intro p s ht
  refine ⟨fun h => refuses (exec_lookupLine p s) ht (by simp [lookupLineBody, h]), fun n h => ?_⟩
  have hb : lookupLineBody p (s.take p) = (s.take p, Reply.ok (lineRecord s n)) := by
    simp [lookupLineBody, h]
    rfl
  obtain ⟨t, hrun, honly, ha⟩ := repliesOnly (exec_lookupLine p s) ht hb
  have byte := ha.byte
  refine ⟨t, hrun, honly, ha.status, fun hn => ?_, fun k l hn hk => ?_, ?_⟩
  · have hh : holding s n = none := by simp [holding, hn]
    simp only [Reply.ok, lineRecord_unheld hh] at byte
    exact ⟨byte 0 (by omega), byte 1 (by omega), byte 2 (by omega), byte 3 (by omega), byte 4 (by omega)⟩
  · have hh : holding s n = some (k, l) := by simp [holding, hn, hk]
    simp only [Reply.ok, lineRecord_held hh] at byte
    exact ⟨byte 0 (by omega), byte 1 (by omega), byte 2 (by omega), byte 3 (by omega), byte 4 (by omega)⟩
  · have hobs := congrArg (BitVec.ofNat 8) (observers_eq s n)
    cases hh : holding s n with
    | none =>
      simp only [Reply.ok, lineRecord_unheld hh] at byte
      exact ⟨(byte 5 (by omega)).trans hobs, byte 6 (by omega), byte 7 (by omega), byte 8 (by omega)⟩
    | some x =>
      obtain ⟨k, l⟩ := x
      simp only [Reply.ok, lineRecord_held hh] at byte
      exact ⟨(byte 5 (by omega)).trans hobs, byte 6 (by omega), byte 7 (by omega), byte 8 (by omega)⟩

/-! ## QUERY_QUEUE (R41, R42) -/

theorem blockedBytes_four (s : State) (b : Option Blocked) : ∃ w x y z, blockedBytes s b = [w, x, y, z] := by
  cases b with
  | none => exact ⟨_, _, _, _, rfl⟩
  | some b =>
    cases b with
    | lines n => cases h : (vget s.heldBy n).map s.handle <;> exact ⟨_, _, _, _, by rw [blockedBytes, h]; rfl⟩
    | order n older => exact ⟨_, _, _, _, rfl⟩
    | slot => exact ⟨_, _, _, _, rfl⟩
    | limit => exact ⟨_, _, _, _, rfl⟩
    | channel => exact ⟨_, _, _, _, rfl⟩

section
variable {s : State} {older : List QueueEntry} {p : Port} {r : Request}

/-- The lowest held line of the request blocks it. -/
theorem blockedBy_lines {n : Line} {k : Slot} (hn : has r.lines n = true) (hk : vget s.heldBy n = some k)
    (hlow : ∀ m, m < n → has r.lines m = true → vget s.heldBy m = none) :
    blockedBy s older p r = some (.lines n) := by
  have : (linesOf r.lines).find? (lineHeld s) = some n :=
    find?_linesOf hn (by simp [lineHeld, hk]) fun m hm hl => by simp [lineHeld, hlow m hm hl]
  unfold blockedBy
  rw [this]

theorem linesUnheld (h : ∀ m, has r.lines m = true → vget s.heldBy m = none) :
    (linesOf r.lines).find? (lineHeld s) = none := by
  rw [List.find?_eq_none]
  intro m hm
  simp [lineHeld, h m ((linesOf_mem _ _).mp hm)]

theorem naming_eq_nil {n : Line} : naming older n = [] ↔ ∀ x ∈ older, has x.request.lines n = false := by
  simp [naming, List.filter_eq_nil_iff]

/-- Behind unheld lines the lowest line that an older entry names blocks the request. -/
theorem blockedBy_order {n : Line} {first later : List QueueEntry} {x : QueueEntry}
    (hfree : ∀ m, has r.lines m = true → vget s.heldBy m = none) (hn : has r.lines n = true)
    (hlow : ∀ m, m < n → has r.lines m = true → ∀ y ∈ older, has y.request.lines m = false)
    (ho : older = first ++ x :: later) (hx : has x.request.lines n = true)
    (hfirst : ∀ y ∈ first, has y.request.lines n = false) :
    blockedBy s older p r = some (.order n (some { port := x.port, number := x.ticket })) := by
  have hname : naming older n = x :: naming later n := by
    rw [ho, naming, List.filter_append, List.filter_eq_nil_iff.mpr (by simpa using hfirst)]
    simp [naming, hx]
  have hfind : (linesOf r.lines).find? (fun n => !(naming older n).isEmpty) = some n :=
    find?_linesOf hn (by simp [hname]) fun m hm hl => by simp [naming_eq_nil.mpr (hlow m hm hl)]
  unfold blockedBy
  rw [linesUnheld hfree, hfind]
  simp [hname]

/-- With its lines free, the slot, the limit and the channel are asked in turn. -/
theorem blockedBy_clear (hfree : ∀ m, has r.lines m = true → vget s.heldBy m = none)
    (hnamed : ∀ m, has r.lines m = true → ∀ y ∈ older, has y.request.lines m = false) :
    blockedBy s older p r = firstFailure
      [ ((freeSlot? s).isNone, .slot),
        (decide ((s.charter p).leaseLimit ≤ (s.portRec p).occupied), .limit),
        (!channelFree s r, .channel) ] := by
  have hfind : (linesOf r.lines).find? (fun n => !(naming older n).isEmpty) = none := by
    rw [List.find?_eq_none]
    intro m hm
    simp [naming_eq_nil.mpr (hnamed m ((linesOf_mem _ _).mp hm))]
  unfold blockedBy
  rw [linesUnheld hfree, hfind]

theorem freeSlot_isNone : (freeSlot? s).isNone = true ↔ ∀ k, (s.lease k).isSome = true := by
  rw [Option.isNone_iff_eq_none, freeSlot_eq_none]

end

/-- The restricted bytes of an entry's record. -/
def entryTail (p : Port) (e : QueueEntry) : List Byte :=
  let entitled := e.port = p ∨ p = 0
  bFlag (!decide entitled)
    ++ b2? (if entitled then some e.request.term else none)
    ++ b1? (if entitled then some e.request.pinned.toNat else none)
    ++ b2? (if entitled then some e.request.waitLimit else none)

theorem queueRecord_eq {s : State} {p : Port} {older : List QueueEntry} {e : QueueEntry} {w x y z : Byte}
    (h : blockedBytes s (blockedBy s older e.port e.request) = [w, x, y, z]) : queueRecord s p older e
    = [BitVec.ofNat 8 s.queue.length, 1#8, e.ticket, BitVec.ofNat 8 e.port.val, BitVec.ofNat 8 e.request.kind.code,
        BitVec.ofNat 8 (e.request.lines.toNat / 256), BitVec.ofNat 8 e.request.lines.toNat,
        BitVec.ofNat 8 (e.waitRemaining / 256), BitVec.ofNat 8 e.waitRemaining, w, x, y, z] ++ entryTail p e := by
  unfold queueRecord
  dsimp only
  rw [h]
  rfl

theorem argRange_getD (a : Args) {first last i : Nat} (h : i < last + 1 - first) :
    (argRange a first last).getD i 0#8 = argByte a (first + i) := by
  simp [argRange, h]

theorem argRange_length (a : Args) (first last : Nat) : (argRange a first last).length = last + 1 - first := by
  simp [argRange]

section
variable {p : Port} {s : State}

theorem queryQueueBody_refused (h : 7 < argNat (s.args p) 0x04 ∨ 2 < argNat (s.args p) 0x05) :
    queryQueueBody p (s.take p) = refuse (s.take p) .badArgument := by
  simp only [queryQueueBody, State.take_args]
  rcases h with h | h
  · rw [if_pos h]
  · rw [if_pos h, ite_self]

theorem queryQueueBody_empty (h : argNat (s.args p) 0x04 ≤ 7) (hv : argNat (s.args p) 0x05 ≤ 2)
    (hq : s.queue.length ≤ argNat (s.args p) 0x04) : queryQueueBody p (s.take p)
      = (s.take p, Reply.ok (if argNat (s.args p) 0x05 = 0 then b1 s.queue.length ++ b1 0 else viewHeader false true)) := by
  simp only [queryQueueBody, State.take_args, State.take_queue]
  rw [if_neg (by omega), if_neg (by omega), List.getElem?_eq_none hq]

theorem queryQueueBody_entry {e : QueueEntry} (h : argNat (s.args p) 0x04 ≤ 7) (hv : argNat (s.args p) 0x05 ≤ 2)
    (hq : s.queue[argNat (s.args p) 0x04]? = some e) : queryQueueBody p (s.take p)
      = (s.take p, Reply.ok (if argNat (s.args p) 0x05 = 0
          then queueRecord (s.take p) p (s.queue.take (argNat (s.args p) 0x04)) e
          else queueArgs p e (argNat (s.args p) 0x05))) := by
  simp only [queryQueueBody, State.take_args, State.take_queue]
  rw [if_neg (by omega), if_neg (by omega), hq]

theorem entryTail_entitled {e : QueueEntry} (h : e.port = p ∨ p = 0) : entryTail p e
    = [0#8, BitVec.ofNat 8 (e.request.term / 256), BitVec.ofNat 8 e.request.term,
      BitVec.ofNat 8 e.request.pinned.toNat, BitVec.ofNat 8 (e.request.waitLimit / 256),
      BitVec.ofNat 8 e.request.waitLimit] := by
  simp [entryTail, h, bFlag, b1, b2?, b2, b1?]

theorem entryTail_withheld {e : QueueEntry} (h : ¬ (e.port = p ∨ p = 0)) :
    entryTail p e = [1#8, 0xFF#8, 0xFF#8, 0xFF#8, 0xFF#8, 0xFF#8] := by
  simp [entryTail, h, bFlag, b1, b2?, b2, b1?]

theorem entryTail_length (e : QueueEntry) : (entryTail p e).length = 6 := by
  by_cases h : e.port = p ∨ p = 0
  · rw [entryTail_entitled h]; rfl
  · rw [entryTail_withheld h]; rfl

end

/-- Settles O21: the four blocked-by bytes are read off the first grant condition that fails. -/
theorem queryQueue : Obligations.QueryQueue := by
  intro p s ht pos view
  have he := exec_queryQueue p s
  refine ⟨fun h => refuses he ht (queryQueueBody_refused h), fun h hv hq => ?_, fun h hv hq => ?_,
    ?_⟩
  · have hb := queryQueueBody_empty h (by omega) hq
    rw [if_pos hv] at hb
    obtain ⟨t, h₁, h₂, h₃⟩ := repliesOnly he ht hb
    have hpad : padResult (Reply.ok (b1 s.queue.length ++ b1 0)).result = padResult (b1 s.queue.length) :=
      vext fun i => by rcases i with ⟨_ | _ | i, hi⟩ <;> simp [padResult, Reply.ok, b1]
    exact ⟨t, h₁, ⟨by rw [h₃.window, hpad]; rfl, h₃.others, h₃.served⟩, h₂⟩
  · have hb := queryQueueBody_empty h (by omega) hq
    rw [if_neg (by omega)] at hb
    exact answersOnly_command he ht hb
  · intro e h hq entitled held named clear limited
    refine ⟨fun hv => ?_, fun hv => ?_⟩
    · have hb := queryQueueBody_entry h (by omega) hq
      rw [if_pos hv] at hb
      obtain ⟨w, x, y, z, hblocked⟩ :=
        blockedBytes_four (s.take p) (blockedBy (s.take p) (s.queue.take pos) e.port e.request)
      rw [queueRecord_eq hblocked] at hb
      obtain ⟨t, hrun, honly, ha⟩ := repliesOnly he ht hb
      have byte := ha.byte
      have b₀ := byte 9 (by omega)
      have b₁ := byte 10 (by omega)
      have b₂ := byte 11 (by omega)
      have b₃ := byte 12 (by omega)
      have shown : ∀ {b w' x' y' z'}, blockedBy (s.take p) (s.queue.take pos) e.port e.request = b →
          blockedBytes (s.take p) b = [w', x', y', z'] → windowByte t p 0x2D = w' ∧ windowByte t p 0x2E = x'
            ∧ windowByte t p 0x2F = y' ∧ windowByte t p 0x30 = z' := fun hb h' => by
        rw [hb, h'] at hblocked
        obtain ⟨rfl, rfl, rfl, rfl⟩ : _ = w ∧ _ = x ∧ _ = y ∧ _ = z := by simpa using hblocked
        exact ⟨b₀, b₁, b₂, b₃⟩
      have unheld : ∀ {m}, ¬ held m → vget s.heldBy m = none := fun h => by
        by_contra hne
        obtain ⟨k, hk⟩ := Option.ne_none_iff_exists'.mp hne
        exact h ⟨k, hk⟩
      have unnamed : ∀ {m}, ¬ named m → ∀ y ∈ s.queue.take pos, has y.request.lines m = false := fun h y hy => by
        by_contra hne
        exact h ⟨y, hy, by simpa using hne⟩
      have cleared := fun hc : clear => blockedBy_clear (s := s.take p) (p := e.port)
        (fun m hm => unheld (hc m hm).1) (fun m hm => unnamed (hc m hm).2)
      have slotFree : (∃ k, s.lease k = none) → (freeSlot? (s.take p)).isNone = false := fun ⟨k, hk⟩ => by
        by_contra hne
        have := freeSlot_isNone.mp (by simpa using hne) k
        rw [show (s.take p).lease k = none from hk] at this
        cases this
      refine ⟨t, hrun, honly, ha.status, byte 0 (by omega), byte 1 (by omega), byte 2 (by omega), byte 3 (by omega),
        byte 4 (by omega), ?_, ?_, fun n k hn hk hlow => ?_, fun n first x' later hfree hn hlow ho hx hfirst => ?_,
        fun hc hs => ?_, fun hc hs hl => ?_, fun hc hs hl hch => ?_, fun hc => ?_, fun hen => ?_, fun hen => ?_,
        fun i hi hi' => ha.tail ?_ hi'⟩
      · rw [show windowByte t p 0x29 = _ from byte 5 (by omega), show windowByte t p 0x2A = _ from byte 6 (by omega)]
        exact word_bSet _
      · rw [show windowByte t p 0x2B = _ from byte 7 (by omega), show windowByte t p 0x2C = _ from byte 8 (by omega)]
        exact word_b2 _
      · refine shown (blockedBy_lines (s := s.take p) hn hk hlow) ?_
        rw [blockedBytes, show vget (s.take p).heldBy n = some k from hk]
        rfl
      · exact shown (blockedBy_order (s := s.take p) (fun m hm => unheld (hfree m hm)) hn
          (fun m hm hl => unnamed (hlow m hm hl)) ho hx hfirst) rfl
      · refine (shown (b := some .slot) ?_ rfl).1
        rw [cleared hc]
        simp [firstFailure, (freeSlot_isNone (s := s.take p)).mpr hs]
      · refine (shown (b := some .limit) ?_ rfl).1
        rw [cleared hc]
        have : (s.charter e.port).leaseLimit ≤ (s.portRec e.port).occupied := hl
        simp [firstFailure, slotFree hs, this]
      · refine (shown (b := some .channel) ?_ rfl).1
        rw [cleared hc]
        have : ¬ (s.charter e.port).leaseLimit ≤ (s.portRec e.port).occupied := hl
        have hch : channelFree (s.take p) e.request = false := hch
        simp [firstFailure, slotFree hs, this, hch]
      · have : ∃ w', blockedBytes (s.take p) (blockedBy (s.take p) (s.queue.take pos) e.port e.request)
            = [w', 0xFF#8, 0xFF#8, 0xFF#8] := by
          rw [cleared hc]
          simp only [firstFailure]
          split
          · exact ⟨_, rfl⟩
          · split
            · exact ⟨_, rfl⟩
            · split <;> exact ⟨_, rfl⟩
        obtain ⟨w', hw⟩ := this
        exact (shown rfl hw).2
      · rw [entryTail_entitled hen] at byte
        refine ⟨byte 13 (by omega), ?_, byte 16 (by omega), ?_⟩
        · rw [show windowByte t p 0x32 = _ from byte 14 (by omega), show windowByte t p 0x33 = _ from byte 15 (by omega)]
          exact word_b2 _
        · rw [show windowByte t p 0x35 = _ from byte 17 (by omega), show windowByte t p 0x36 = _ from byte 18 (by omega)]
          exact word_b2 _
      · rw [entryTail_withheld hen] at byte
        refine ⟨byte 13 (by omega), fun i hi hi' => ?_⟩
        interval_cases i
        · exact byte 14 (by omega)
        · exact byte 15 (by omega)
        · exact byte 16 (by omega)
        · exact byte 17 (by omega)
        · exact byte 18 (by omega)
      · simp only [Reply.ok, List.length_append, entryTail_length, List.length_cons, List.length_nil]
        omega
    · have hb := queryQueueBody_entry h (by omega) hq
      rw [if_neg (by omega)] at hb
      obtain ⟨t, hrun, honly, ha⟩ := repliesOnly he ht hb
      refine ⟨t, hrun, honly, ha.status, fun hen => ?_, fun hen => ?_⟩
      · have hargs : queueArgs p e (argNat (s.args p) 0x05) = 0#8 ::
            (if argNat (s.args p) 0x05 = 1 then argRange e.args 0x04 0x1A else argRange e.args 0x1B 0x23) := if_pos hen
        rw [hargs] at ha
        refine ⟨ha.byte 0 (by omega), fun h1 i hi => ?_, fun h2 => ⟨fun i hi => ?_, fun i hi hi' => ?_⟩⟩
        · rw [if_pos h1] at ha
          rw [show 0x25 + i = 0x24 + (i + 1) by omega, ha.byte (i + 1) (by omega)]
          exact argRange_getD _ (by omega)
        · rw [if_neg (by omega)] at ha
          rw [show 0x25 + i = 0x24 + (i + 1) by omega, ha.byte (i + 1) (by omega)]
          exact argRange_getD _ (by omega)
        · rw [if_neg (by omega)] at ha
          exact ha.tail (by simp only [Reply.ok, List.length_cons, argRange_length]; omega) hi'
      · have hargs : queueArgs p e (argNat (s.args p) 0x05) = [1#8] := if_neg hen
        rw [hargs] at ha
        exact ⟨ha.byte 0 (by omega), fun i hi hi' => ha.tail (by simp only [Reply.ok, List.length_cons, List.length_nil]; omega) hi'⟩

end Sys2Proof.Machine

/-! PROOFS. QUERY_LEASE; O22. -/

namespace Sys2Proof.Machine

/-! ## Level lists (R176) -/

/-- The bits that the lines of a list contribute, from bit `m` on. -/
theorem testBit_levels (levels : Levels) (L : List Line) (m acc : Nat) (h : acc < 2 ^ m) (j : Nat) :
    (((L.zipIdx m).filter fun e => has levels e.1).foldl (fun acc e => acc + 2 ^ e.2) acc).testBit j
      = if j < m then acc.testBit j else (L[j - m]?).any (has levels) := by
  induction L generalizing m acc with
  | nil =>
    simp only [List.zipIdx_nil, List.filter_nil, List.foldl_nil, List.getElem?_nil, Option.any_none]
    split
    · rfl
    · exact Nat.testBit_lt_two_pow (lt_of_lt_of_le h (Nat.pow_le_pow_right (by omega) (by omega)))
  | cons x L ih =>
    have hdouble : 2 ^ (m + 1) = 2 ^ m + 2 ^ m := by rw [Nat.pow_succ]; omega
    rw [List.zipIdx_cons, List.filter_cons]
    split
    · rename_i hx
      rw [List.foldl_cons, ih (m + 1) (acc + 2 ^ m) (by omega)]
      rcases Nat.lt_trichotomy j m with hj | rfl | hj
      · rw [if_pos (by omega), if_pos hj, Nat.add_comm, Nat.testBit_two_pow_add_gt hj]
      · rw [if_pos (by omega), if_neg (by omega), Nat.add_comm, Nat.testBit_two_pow_add_eq,
          Nat.testBit_lt_two_pow h]
        simp [hx]
      · rw [if_neg (by omega), if_neg (by omega), show j - m = (j - (m + 1)) + 1 by omega, List.getElem?_cons_succ]
    · rename_i hx
      rw [ih (m + 1) acc (by omega)]
      rcases Nat.lt_trichotomy j m with hj | rfl | hj
      · rw [if_pos (by omega), if_pos hj]
      · rw [if_pos (by omega), if_neg (by omega), Nat.testBit_lt_two_pow h]
        simpa using hx
      · rw [if_neg (by omega), if_neg (by omega), show j - m = (j - (m + 1)) + 1 by omega, List.getElem?_cons_succ]

theorem testBit_gatherLevels (lines : LineSet) (levels : Levels) (j : Nat) :
    (gatherLevels lines levels).testBit j = ((linesOf lines)[j]?).any (has levels) := by
  rw [gatherLevels, testBit_levels levels _ 0 0 (by simp), if_neg (by omega)]
  rfl

theorem gatherLevels_lt (lines : LineSet) (levels : Levels) :
    gatherLevels lines levels < 2 ^ (linesOf lines).length := by
  refine Nat.lt_pow_two_of_testBit _ fun j hj => ?_
  rw [testBit_gatherLevels, List.getElem?_eq_none hj]
  rfl

theorem linesOf_length_le (ls : LineSet) : (linesOf ls).length ≤ 16 := by
  simpa [linesOf] using List.length_filter_le (fun n => has ls n) (List.finRange 16)

/-- The number that the bytes of a level list show: one byte for up to 8 lines, two for more. -/
def listAt (t : State) (p : Port) (lines : LineSet) (off : Nat) : Nat :=
  if (if (linesOf lines).length ≤ 8 then 1 else 2) = 1 then (windowByte t p off).toNat
  else 256 * (windowByte t p off).toNat + (windowByte t p (off + 1)).toNat

theorem bLevelList_length (lines : LineSet) (levels : Levels) :
    (bLevelList lines levels).length = if (linesOf lines).length ≤ 8 then 1 else 2 := by
  unfold bLevelList levelListSize countLines
  split <;> split <;> simp_all [b1, b2]

theorem listAt_eq {t : State} {p : Port} {lines : LineSet} {levels : Levels} {off : Nat}
    (h : ∀ j, j < (bLevelList lines levels).length → windowByte t p (off + j) = (bLevelList lines levels).getD j 0#8) :
    listAt t p lines off = gatherLevels lines levels := by
  have hlt := gatherLevels_lt lines levels
  have hlen := linesOf_length_le lines
  rw [bLevelList_length] at h
  unfold listAt
  by_cases hl : (linesOf lines).length ≤ 8
  · have hb : bLevelList lines levels = b1 (gatherLevels lines levels) := by simp [bLevelList, levelListSize, countLines, hl]
    rw [if_pos hl, hb] at h
    have h₀ : windowByte t p off = BitVec.ofNat 8 (gatherLevels lines levels) := h 0 (by omega)
    have : gatherLevels lines levels < 2 ^ 8 := lt_of_lt_of_le hlt (Nat.pow_le_pow_right (by omega) hl)
    rw [if_pos (if_pos hl), h₀, BitVec.toNat_ofNat, Nat.mod_eq_of_lt this]
  · have hb : bLevelList lines levels = b2 (gatherLevels lines levels) := by simp [bLevelList, levelListSize, countLines, hl]
    rw [if_neg hl, hb] at h
    have h₀ : windowByte t p off = BitVec.ofNat 8 (gatherLevels lines levels / 256) := h 0 (by omega)
    have h₁ : windowByte t p (off + 1) = BitVec.ofNat 8 (gatherLevels lines levels) := h 1 (by omega)
    have : gatherLevels lines levels < 2 ^ 16 := lt_of_lt_of_le hlt (Nat.pow_le_pow_right (by omega) hlen)
    rw [if_neg (by simp [hl]), h₀, h₁, BitVec.toNat_ofNat, BitVec.toNat_ofNat]
    omega

/-- A level list shows the level of every line of the set, in order, and no more. -/
theorem listAt_shows {t : State} {p : Port} {lines : LineSet} {levels : Levels} {off : Nat}
    (h : ∀ j, j < (bLevelList lines levels).length → windowByte t p (off + j) = (bLevelList lines levels).getD j 0#8) :
    (∀ (j : Nat) (n : Line), (linesOf lines)[j]? = some n → (listAt t p lines off).testBit j = has levels n)
      ∧ ∀ j, (linesOf lines).length ≤ j → (listAt t p lines off).testBit j = false := by
  rw [listAt_eq h]
  refine ⟨fun j n hn => ?_, fun j hj => ?_⟩
  · rw [testBit_gatherLevels, hn]
    rfl
  · rw [testBit_gatherLevels, List.getElem?_eq_none hj]
    rfl

/-! ## Lists of items of one size -/

theorem flatMap_length {α : Type} {f : α → List Byte} {w : Nat} (hw : ∀ x, (f x).length = w) (L : List α) :
    (L.flatMap f).length = L.length * w := by
  induction L with
  | nil => simp
  | cons x L ih => rw [List.flatMap_cons, List.length_append, hw, ih, List.length_cons, Nat.succ_mul, Nat.add_comm]

theorem flatMap_getElem? {α : Type} {f : α → List Byte} {w : Nat} (hw : ∀ x, (f x).length = w) {L : List α} {i j : Nat}
    {x : α} (hx : L[i]? = some x) (hj : j < w) : (L.flatMap f)[i * w + j]? = (f x)[j]? := by
  induction L generalizing i with
  | nil => simp at hx
  | cons y L ih =>
    rw [List.flatMap_cons]
    cases i with
    | zero =>
      obtain rfl : y = x := by simpa using hx
      rw [Nat.zero_mul, Nat.zero_add, List.getElem?_append_left (by rw [hw]; exact hj)]
    | succ i =>
      rw [List.getElem?_append_right (by rw [hw, Nat.succ_mul]; omega), hw, Nat.succ_mul,
        show i * w + w + j - w = i * w + j by omega]
      exact ih (by simpa using hx)

/-- Two bytes of a completed command's result. -/
theorem Answers.word {s t : State} {p : Port} {st : Status} {r : List Byte} (h : Answers s t p st r) (i : Nat)
    (hi : i + 1 < 24) : windowByte t p (0x24 + i) ++ windowByte t p (0x24 + i + 1) = r.getD i 0#8 ++ r.getD (i + 1) 0#8 := by
  rw [h.byte i (by omega), Nat.add_assoc, h.byte (i + 1) hi]

/-! ## QUERY_LEASE (R16, R17, R177) -/

section
variable {p : Port} {s : State}

theorem queryLeaseBody_refused (h : slotOf (argByte (s.args p) 0x04) = none ∨ 2 < argNat (s.args p) 0x05) :
    queryLeaseBody p (s.take p) = refuse (s.take p) .badArgument := by
  simp only [queryLeaseBody, State.take_args]
  cases hk : slotOf (argByte (s.args p) 0x04) with
  | none => rfl
  | some k => exact if_pos (h.resolve_left (by simp [hk]))

theorem queryLeaseBody_free {k : Slot} (hk : slotOf (argByte (s.args p) 0x04) = some k)
    (hv : argNat (s.args p) 0x05 ≤ 2) (hl : s.lease k = none) : queryLeaseBody p (s.take p)
      = (s.take p, Reply.ok (if argNat (s.args p) 0x05 = 0 then b1 0 ++ bHandle (s.handle k)
        else viewHeader false true)) := by
  simp only [queryLeaseBody, State.take_args, hk, State.take_lease, hl, State.take_handle]
  exact if_neg (by omega)

theorem queryLeaseBody_record {k : Slot} {l : Lease} (hk : slotOf (argByte (s.args p) 0x04) = some k)
    (hv : argNat (s.args p) 0x05 ≤ 2) (hl : s.lease k = some l) : queryLeaseBody p (s.take p)
      = (s.take p, Reply.ok (if argNat (s.args p) 0x05 = 0
          then leaseRecord (s.take p) (s.handle k) l (decide (l.holder = p ∨ p = 0))
          else leasePart l (argNat (s.args p) 0x05) (decide (l.holder = p ∨ p = 0)))) := by
  simp only [queryLeaseBody, State.take_args, hk, State.take_lease, hl, State.take_handle]
  exact if_neg (by omega)

end

theorem flagBits (a b c : Bool) : let x : Byte := BitVec.ofNat 8 (a.toNat + 2 * b.toNat + 4 * c.toNat)
    x.getLsbD 0 = a ∧ x.getLsbD 1 = b ∧ x.getLsbD 2 = c := by
  revert a b c
  decide

/-- The progress of the channel that has taken a PATTERN's set-up. -/
theorem progress_pattern {s : State} {h : Handle} {l : Lease} {spec : PatternSpec} {c : PatChan} {ch : PatternChannel}
    (hl : l.state.live = true) (hp : l.params = .pattern spec c) (hc : vget s.patChans c = some ch)
    (hh : ch.handle = h) : (progress s h l).1 = some ch.phase.code ∧ (progress s h l).2.1 = some ch.step
      ∧ (∀ m left, ch.phase = .running m left → (progress s h l).2.2 = some (left.getD 0))
      ∧ (∀ left, ch.phase = .paused left → (progress s h l).2.2 = some (left.getD 0))
      ∧ (ch.phase = .done → (progress s h l).2.2 = none) := by
  simp only [progress, hl, hp, hc, hh, if_true]
  refine ⟨trivial, trivial, fun m left e => ?_, fun left e => ?_, fun e => ?_⟩ <;> rw [e]

theorem progress_guard {s : State} {h : Handle} {l : Lease} {spec : GuardSpec} {armed : Bool} {g : GuardChan}
    {ch : GuardChannel} (hl : l.state.live = true) (hp : l.params = .guard spec armed g)
    (hc : vget s.guardChans g = some ch) (hh : ch.handle = h) :
    progress s h l = (some ch.substate.code, none, none) := by
  simp only [progress, hl, hp, hc, hh, if_true]

/-- There is no progress without a channel that has taken the set-up. -/
theorem progress_none {s : State} {h : Handle} {l : Lease} (hn : l.state.live = false ∨ l.params.code = 0
      ∨ l.params.code = 2
      ∨ (∃ spec c, l.params = .pattern spec c ∧ ∀ ch, vget s.patChans c = some ch → ch.handle ≠ h)
      ∨ (∃ spec armed g, l.params = .guard spec armed g ∧ ∀ ch, vget s.guardChans g = some ch → ch.handle ≠ h)) :
    progress s h l = (none, none, none) := by
  unfold progress
  split
  · rename_i hl
    rcases hn with hn | hn | hn | ⟨spec, c, hp, hn⟩ | ⟨spec, armed, g, hp, hn⟩
    · simp [hn] at hl
    · cases hp : l.params <;> simp [hp, KindParams.code] at hn ⊢
    · cases hp : l.params <;> simp [hp, KindParams.code] at hn ⊢
    · rw [hp]
      cases hc : vget s.patChans c with
      | none => simp only [hc]
      | some ch => simp only [hc, if_neg (hn ch hc)]
    · rw [hp]
      cases hc : vget s.guardChans g with
      | none => simp only [hc]
      | some ch => simp only [hc, if_neg (hn ch hc)]
  · rfl

theorem leasePart_withheld (l : Lease) (view : Nat) : leasePart l view false
    = [if view = 1 ∨ l.params.code = 1 then 1#8 else 3#8] := by
  unfold leasePart
  by_cases hv : view = 1
  · simp [hv, viewHeader, b1, restrict]
  · cases hp : l.params <;> simp [hv, KindParams.code, viewHeader, b1, restrict]

theorem leasePart_kind (l : Lease) : leasePart l 1 true = 0#8 :: kindBytes l.params := by
  simp [leasePart, viewHeader, b1, restrict]

theorem leasePart_other {l : Lease} (h : l.params.code ≠ 1) : leasePart l 2 true = [2#8] := by
  unfold leasePart
  cases hp : l.params <;> simp [hp, KindParams.code, viewHeader, b1, restrict] at h ⊢

theorem leasePart_pattern {l : Lease} {spec : PatternSpec} {c : PatChan} (h : l.params = .pattern spec c) :
    leasePart l 2 true = 0#8 :: patternBytes l.lines spec := by
  simp [leasePart, h, viewHeader, b1, restrict]

/-- The bytes of the safe levels in view 2. -/
def safeBytes (lines : LineSet) (spec : PatternSpec) : List Byte :=
  match spec.safe with
  | some lv => bLevelList lines lv
  | none => if levelListSize lines = 1 then b1? none else b2? none

theorem safeBytes_length (lines : LineSet) (spec : PatternSpec) :
    (safeBytes lines spec).length = if (linesOf lines).length ≤ 8 then 1 else 2 := by
  unfold safeBytes
  split
  · exact bLevelList_length ..
  · unfold levelListSize countLines
    split <;> split <;> simp_all [b1?, b1, b2?, b2]

theorem patternBytes_eq (lines : LineSet) (spec : PatternSpec) : patternBytes lines spec
    = (spec.steps.flatMap fun st => bLevelList lines st.levels ++ b2 st.duration) ++ safeBytes lines spec := rfl

theorem stepBytes_length (lines : LineSet) (st : PatternStep) : (bLevelList lines st.levels ++ b2 st.duration).length
    = (if (linesOf lines).length ≤ 8 then 1 else 2) + 2 := by
  rw [List.length_append, bLevelList_length]
  rfl

/-! ## The statement -/

section
variable {p : Port} {s t : State} {k : Slot} {l : Lease}

theorem reads_of_bytes {r : List Byte} {first last : Nat} {b : Byte} (hw : ∀ i, i < 24 → windowByte t p (0x24 + i) = r.getD i 0#8)
    (h₁ : 0x24 ≤ first) (h₂ : last < 0x3C) (hr : ∀ i, first - 0x24 ≤ i → i ≤ last - 0x24 → r.getD i 0#8 = b) :
    ∀ i, first ≤ i → i ≤ last → windowByte t p i = b := fun i hi hi' => by
  rw [show i = 0x24 + (i - 0x24) by omega, hw (i - 0x24) (by omega)]
  exact hr _ (by omega) (by omega)

/-- View 0 byte by byte. -/
theorem leaseRecord_eq (s : State) (h : Handle) (l : Lease) (entitled : Bool) : leaseRecord s h l entitled
    = [BitVec.ofNat 8 l.state.code, BitVec.ofNat 8 h.slot.val, h.gen, BitVec.ofNat 8 l.holder.val,
      BitVec.ofNat 8 l.params.code, BitVec.ofNat 8 (l.lines.toNat / 256), BitVec.ofNat 8 l.lines.toNat,
      BitVec.ofNat 8 (l.term.isNone.toNat + 2 * l.outOfCharter.toNat + 4 * (!entitled).toNat),
      BitVec.ofNat 8 ((l.term.bind (·.remaining)).getD 0xFFFF / 256),
      BitVec.ofNat 8 ((l.term.bind (·.remaining)).getD 0xFFFF), BitVec.ofNat 8 (l.state.graceLeft.getD 0xFF),
      BitVec.ofNat 8 ((l.state.offeredTo.map (·.val)).getD 0xFF), BitVec.ofNat 8 (l.faults.toNat / 256),
      BitVec.ofNat 8 l.faults.toNat, BitVec.ofNat 8 ((l.state.reason.map CloseReason.code).getD 0xFF),
      BitVec.ofNat 8 ((restrict entitled (l.term.map (·.granted))).getD 0xFFFF / 256),
      BitVec.ofNat 8 ((restrict entitled (l.term.map (·.granted))).getD 0xFFFF),
      BitVec.ofNat 8 ((restrict entitled (some l.grace)).getD 0xFF),
      BitVec.ofNat 8 ((restrict entitled (some l.warn)).getD 0xFF),
      (restrict entitled (l.origin.map (·.number))).getD 0#8,
      BitVec.ofNat 8 ((restrict entitled (progress s h l).1).getD 0xFF),
      BitVec.ofNat 8 ((restrict entitled (progress s h l).2.1).getD 0xFF),
      BitVec.ofNat 8 ((restrict entitled (progress s h l).2.2).getD 0xFF),
      BitVec.ofNat 8 ((restrict entitled (l.origin.map (·.port.val))).getD 0xFF)] := by
  simp only [leaseRecord, b1, bHandle, bSet, b2?, b1?, bTicket?, b2, List.cons_append, List.nil_append]

end

end Sys2Proof.Machine

/-! PROOFS. The statement of QUERY_LEASE; O22. -/

namespace Sys2Proof.Machine

theorem graceLeft_getD (st : LeaseState) : (∀ left, st = .grace left → st.graceLeft.getD 0xFF = left)
    ∧ ((∀ left, st ≠ .grace left) → st.graceLeft.getD 0xFF = 0xFF) := by
  cases st <;> simp [LeaseState.graceLeft]

theorem offeredTo_getD (st : LeaseState) :
    (∀ q left, st = .handover q left → (st.offeredTo.map (·.val)).getD 0xFF = q.val)
      ∧ ((∀ q left, st ≠ .handover q left) → (st.offeredTo.map (·.val)).getD 0xFF = 0xFF) := by
  cases st <;> simp [LeaseState.offeredTo]

theorem reason_getD (st : LeaseState) :
    (∀ r, st = .retiring r ∨ st = .closed r → (st.reason.map CloseReason.code).getD 0xFF = r.code)
      ∧ ((∀ r, st ≠ .retiring r ∧ st ≠ .closed r) → (st.reason.map CloseReason.code).getD 0xFF = 0xFF) := by
  cases st <;> simp [LeaseState.reason]

/-- The parameters of a guard in front of its conditions. -/
def guardFront (spec : GuardSpec) (armed : Bool) (g : GuardChan) : List Byte :=
  b1 g.val ++ bFlag armed ++ b2 spec.hold ++ b1 spec.conditions.length
    ++ b1? (spec.action.map (·.line.val)) ++ b1? (spec.action.map (·.pulseLevel.toNat))
    ++ b1? (spec.action.map (·.pulseWidth)) ++ b1? (spec.recallSpec.map (·.target.val))
    ++ b2? (spec.recallSpec.map (·.quietTime))

theorem guardBytes_eq (spec : GuardSpec) (armed : Bool) (g : GuardChan) : 0#8 :: kindBytes (.guard spec armed g)
    = (0#8 :: guardFront spec armed g) ++ spec.conditions.flatMap fun c => b1 c.line.val ++ bLevel c.level := rfl

/-- The conditions of a guard stand behind its other parameters, two bytes each. -/
theorem guardBytes_condition {spec : GuardSpec} (armed : Bool) (g : GuardChan) {i : Nat} {x : Condition}
    (hx : spec.conditions[i]? = some x) :
    (0#8 :: kindBytes (.guard spec armed g)).getD (12 + 2 * i) 0#8 = BitVec.ofNat 8 x.line.val
      ∧ (0#8 :: kindBytes (.guard spec armed g)).getD (13 + 2 * i) 0#8 = BitVec.ofNat 8 x.level.toNat := by
  have hlen : (0#8 :: guardFront spec armed g).length = 12 := rfl
  have item : ∀ j, j < 2 → (0#8 :: kindBytes (.guard spec armed g)).getD (12 + 2 * i + j) 0#8
      = (b1 x.line.val ++ bLevel x.level).getD j 0#8 := fun j hj => by
    rw [guardBytes_eq, List.getD_eq_getElem?_getD, List.getElem?_append_right (by omega), hlen,
      show 12 + 2 * i + j - 12 = i * 2 + j by omega, flatMap_getElem? (w := 2) (fun _ => rfl) hx hj,
      List.getD_eq_getElem?_getD]
  exact ⟨item 0 (by omega), by rw [show 13 + 2 * i = 12 + 2 * i + 1 by omega]; exact item 1 (by omega)⟩

/-- The steps and the safe levels of a pattern behind the header, in bytes. -/
theorem patternBytes_step {lines : LineSet} {spec : PatternSpec} {i j : Nat} {st : PatternStep}
    (hst : spec.steps[i]? = some st) (hj : j < (if (linesOf lines).length ≤ 8 then 1 else 2) + 2) :
    (0#8 :: patternBytes lines spec).getD (1 + (i * ((if (linesOf lines).length ≤ 8 then 1 else 2) + 2) + j)) 0#8
      = (bLevelList lines st.levels ++ b2 st.duration).getD j 0#8 := by
  have hlt : i < spec.steps.length := (List.getElem?_eq_some_iff.mp hst).1
  have hmul := Nat.mul_le_mul_right ((if (linesOf lines).length ≤ 8 then 1 else 2) + 2) (Nat.succ_le_of_lt hlt)
  rw [Nat.succ_mul] at hmul
  rw [Nat.add_comm 1, List.getD_cons_succ, patternBytes_eq, List.getD_eq_getElem?_getD,
    List.getElem?_append_left (by rw [flatMap_length (stepBytes_length lines)]; omega),
    flatMap_getElem? (stepBytes_length lines) hst hj, List.getD_eq_getElem?_getD]

theorem patternBytes_safe (lines : LineSet) (spec : PatternSpec) (j : Nat) :
    (0#8 :: patternBytes lines spec).getD
        (1 + (spec.steps.length * ((if (linesOf lines).length ≤ 8 then 1 else 2) + 2) + j)) 0#8
      = (safeBytes lines spec).getD j 0#8 := by
  rw [Nat.add_comm 1, List.getD_cons_succ, patternBytes_eq, List.getD_eq_getElem?_getD,
    List.getElem?_append_right (by rw [flatMap_length (stepBytes_length lines)]; omega),
    flatMap_length (stepBytes_length lines), Nat.add_sub_cancel_left, List.getD_eq_getElem?_getD]

theorem safeBytes_none {lines : LineSet} {spec : PatternSpec} (h : spec.safe = none) {j : Nat}
    (hj : j < if (linesOf lines).length ≤ 8 then 1 else 2) : (safeBytes lines spec).getD j 0#8 = 0xFF#8 := by
  unfold safeBytes levelListSize countLines
  rw [h]
  by_cases hl : (linesOf lines).length ≤ 8
  · rw [if_pos hl] at hj
    obtain rfl : j = 0 := by omega
    simp [hl, b1?, b1]
  · rw [if_neg hl] at hj
    interval_cases j <;> simp [hl, b2?, b2]

/-- Settles O22. -/
theorem queryLease : Obligations.QueryLease := by
  intro p s ht view word reads
  have he := exec_queryLease p s
  refine ⟨fun h => refuses he ht (queryLeaseBody_refused h), fun k hk => ⟨fun hv hl => ?free, fun hv hl => ?noPart, ?_⟩⟩
  case free =>
    have hb := queryLeaseBody_free hk (by omega) hl
    rw [if_pos hv] at hb
    exact answersOnly_command he ht hb
  case noPart =>
    have hb := queryLeaseBody_free hk (by omega) hl
    rw [if_neg (by omega)] at hb
    exact answersOnly_command he ht hb
  intro l hl entitled
  refine ⟨fun hv => ?record, fun hv => ?kind, fun hv => ?steps⟩
  case record =>
    have hb := queryLeaseBody_record hk (by omega) hl
    rw [if_pos hv, leaseRecord_eq] at hb
    obtain ⟨t, hrun, honly, ha⟩ := repliesOnly he ht hb
    have byte := ha.byte
    have hw := ha.word
    have hbits := flagBits l.term.isNone l.outOfCharter (!decide (l.holder = p ∨ p = 0))
    have h₇ : windowByte t p 0x2B = BitVec.ofNat 8 (l.term.isNone.toNat + 2 * l.outOfCharter.toNat
        + 4 * (!decide (l.holder = p ∨ p = 0)).toNat) := byte 7 (by omega)
    have h₁₀ : windowByte t p 0x2E = BitVec.ofNat 8 (l.state.graceLeft.getD 0xFF) := byte 10 (by omega)
    have h₁₁ : windowByte t p 0x2F = BitVec.ofNat 8 ((l.state.offeredTo.map (·.val)).getD 0xFF) := byte 11 (by omega)
    have h₁₄ : windowByte t p 0x32 = BitVec.ofNat 8 ((l.state.reason.map CloseReason.code).getD 0xFF) :=
      byte 14 (by omega)
    refine ⟨t, hrun, honly, ha.status, byte 0 (by omega), byte 1 (by omega), byte 2 (by omega), byte 3 (by omega),
      byte 4 (by omega), (hw 5 (by omega)).trans (word_bSet _), by rw [h₇]; exact hbits.1, by rw [h₇]; exact hbits.2.1,
      by rw [h₇]; exact hbits.2.2, (hw 8 (by omega)).trans (word_b2 _), (hw 12 (by omega)).trans (word_bSet _),
      fun left h => ?_, fun h => ?_, fun q left h => ?_, fun h => ?_, fun r h => ?_, fun h => ?_, fun hen => ?_,
      fun hen => ?_⟩
    · rw [h₁₀, (graceLeft_getD _).1 left h]
    · rw [h₁₀, (graceLeft_getD _).2 h]
    · rw [h₁₁, (offeredTo_getD _).1 q left h]
    · rw [h₁₁, (offeredTo_getD _).2 h]
    · rw [h₁₄, (reason_getD _).1 r h]
    · rw [h₁₄, (reason_getD _).2 h]
    · rw [show decide (l.holder = p ∨ p = 0) = true from decide_eq_true hen] at byte hw
      have h₂₀ : windowByte t p 0x38 = BitVec.ofNat 8 ((progress (s.take p) (s.handle k) l).1.getD 0xFF) :=
        byte 20 (by omega)
      have h₂₁ : windowByte t p 0x39 = BitVec.ofNat 8 ((progress (s.take p) (s.handle k) l).2.1.getD 0xFF) :=
        byte 21 (by omega)
      have h₂₂ : windowByte t p 0x3A = BitVec.ofNat 8 ((progress (s.take p) (s.handle k) l).2.2.getD 0xFF) :=
        byte 22 (by omega)
      refine ⟨(hw 15 (by omega)).trans (word_b2 _), byte 17 (by omega), byte 18 (by omega), fun ho => ?_, fun o ho => ?_,
        fun spec c ch hlive hp hc hh => ?_, fun spec armed g ch hlive hp hc hh => ?_, fun hn => ?_⟩
      · rw [ho] at byte
        exact ⟨byte 19 (by omega), byte 23 (by omega)⟩
      · rw [ho] at byte
        exact ⟨byte 19 (by omega), byte 23 (by omega)⟩
      · obtain ⟨e₁, e₂, e₃, e₄, e₅⟩ := progress_pattern (s := s.take p) hlive hp hc hh
        rw [h₂₀, h₂₁, h₂₂, e₁, e₂]
        refine ⟨rfl, rfl, ?_⟩
        cases hph : ch.phase with
        | running m left => rw [e₃ m left hph]; rfl
        | paused left => rw [e₄ left hph]; rfl
        | done => rw [e₅ hph]; rfl
      · have e := progress_guard (s := s.take p) hlive hp hc hh
        rw [h₂₀, e]
        refine ⟨rfl, fun i hi hi' => ?_⟩
        rw [e] at h₂₁ h₂₂
        interval_cases i
        · exact h₂₁
        · exact h₂₂
      · have e := progress_none (s := s.take p) hn
        rw [e] at h₂₀ h₂₁ h₂₂
        intro i hi hi'
        interval_cases i
        · exact h₂₀
        · exact h₂₁
        · exact h₂₂
    · rw [show decide (l.holder = p ∨ p = 0) = false from decide_eq_false hen] at byte
      refine ⟨fun i hi hi' => ?_, byte 19 (by omega), fun i hi hi' => ?_⟩
      · interval_cases i
        · have h : windowByte t p 0x33 = BitVec.ofNat 8 (0xFFFF / 256) := byte 15 (by omega)
          exact h.trans (by decide)
        · have h : windowByte t p 0x34 = BitVec.ofNat 8 0xFFFF := byte 16 (by omega)
          exact h.trans (by decide)
        · exact byte 17 (by omega)
        · exact byte 18 (by omega)
      · interval_cases i
        · exact byte 20 (by omega)
        · exact byte 21 (by omega)
        · exact byte 22 (by omega)
        · exact byte 23 (by omega)
  case kind =>
    have hb := queryLeaseBody_record hk (by omega) hl
    rw [if_neg (by omega), show argNat (s.args p) 0x05 = 1 from hv] at hb
    obtain ⟨t, hrun, honly, ha⟩ := repliesOnly he ht hb
    refine ⟨t, hrun, honly, ha.status, fun hen => ?_, fun hen => ?_⟩
    · rw [show decide (l.holder = p ∨ p = 0) = false from decide_eq_false hen, leasePart_withheld, if_pos (.inl rfl)] at ha
      exact ⟨ha.byte 0 (by omega), fun i hi hi' => ha.tail hi (by omega)⟩
    · rw [show decide (l.holder = p ∨ p = 0) = true from decide_eq_true hen, leasePart_kind] at ha
      refine ⟨ha.byte 0 (by omega), ?_⟩
      cases hp : l.params with
      | drive dt lv safe =>
        rw [hp] at ha
        refine ⟨ha.byte 1 (by omega), (ha.word 2 (by omega)).trans (word_bSet _), ?_, fun i hi hi' => ha.tail hi (by omega)⟩
        refine (ha.word 4 (by omega)).trans ((word_b2 _).trans ?_)
        cases safe <;> simp
      | pattern spec c =>
        rw [hp] at ha
        exact ⟨ha.byte 1 (by omega), ha.byte 2 (by omega), ha.byte 3 (by omega), ha.byte 4 (by omega),
          fun i hi hi' => ha.tail hi (by omega)⟩
      | watch pull rising falling changed =>
        rw [hp] at ha
        exact ⟨ha.byte 1 (by omega), (ha.word 2 (by omega)).trans (word_bSet _),
          (ha.word 4 (by omega)).trans (word_bSet _), (ha.word 6 (by omega)).trans (word_bSet _),
          fun i hi hi' => ha.tail hi (by omega)⟩
      | guard spec armed g =>
        rw [hp] at ha
        refine ⟨ha.byte 1 (by omega), ha.byte 2 (by omega), (ha.word 3 (by omega)).trans (word_b2 _), ha.byte 5 (by omega),
          fun hx => ?_, fun a hx => ?_, fun hx => ?_, fun r hx => ?_, fun i x hi hx => ?_⟩
        · simp only [kindBytes, hx] at ha
          intro i hi hi'
          interval_cases i
          · exact ha.byte 6 (by omega)
          · exact ha.byte 7 (by omega)
          · exact ha.byte 8 (by omega)
        · simp only [kindBytes, hx] at ha
          exact ⟨ha.byte 6 (by omega), ha.byte 7 (by omega), ha.byte 8 (by omega)⟩
        · simp only [kindBytes, hx] at ha
          intro i hi hi'
          interval_cases i
          · exact ha.byte 9 (by omega)
          · exact ha.byte 10 (by omega)
          · exact ha.byte 11 (by omega)
        · simp only [kindBytes, hx] at ha
          exact ⟨ha.byte 9 (by omega), (ha.word 10 (by omega)).trans (word_b2 _)⟩
        · obtain ⟨h₁, h₂⟩ := guardBytes_condition armed g hx
          rw [show 0x30 + 2 * i = 0x24 + (12 + 2 * i) by omega, show 0x31 + 2 * i = 0x24 + (13 + 2 * i) by omega,
            ha.byte _ (by omega), ha.byte _ (by omega)]
          exact ⟨h₁, h₂⟩
  case steps =>
    have hb := queryLeaseBody_record hk (by omega) hl
    rw [if_neg (by omega), show argNat (s.args p) 0x05 = 2 from hv] at hb
    obtain ⟨t, hrun, honly, ha⟩ := repliesOnly he ht hb
    refine ⟨t, hrun, honly, ha.status, fun hen => ?_, fun hen hc => ?_, ?_⟩
    · rw [show decide (l.holder = p ∨ p = 0) = false from decide_eq_false hen, leasePart_withheld] at ha
      refine ⟨(ha.byte 0 (by omega)).trans ?_, fun i hi hi' => ha.tail hi (by omega)⟩
      simp [Reply.ok]
    · rw [show decide (l.holder = p ∨ p = 0) = true from decide_eq_true hen, leasePart_other hc] at ha
      exact ⟨ha.byte 0 (by omega), fun i hi hi' => ha.tail hi (by omega)⟩
    · intro spec c hen hp z list holds last
      rw [show decide (l.holder = p ∨ p = 0) = true from decide_eq_true hen, leasePart_pattern hp] at ha
      have hz : z = 1 ∨ z = 2 := by
        dsimp only [z]
        split <;> simp
      have hlist : ∀ off, list off = listAt t p l.lines off := fun off => rfl
      have hholds : ∀ off lv, (∀ j, j < z → windowByte t p (off + j) = (bLevelList l.lines lv).getD j 0#8) →
          holds off lv := fun off lv h => by
        have := listAt_shows (t := t) (p := p) (lines := l.lines) (levels := lv) (off := off)
          (by rw [bLevelList_length]; exact h)
        exact this
      refine ⟨ha.byte 0 (by omega), fun i st hst hfit => ?_, fun hfit => ⟨fun lv hlv => ?_, fun hsafe => ?_, ?_⟩⟩
      · have item : ∀ j, j < z + 2 → windowByte t p (0x25 + i * (z + 2) + j)
            = (bLevelList l.lines st.levels ++ b2 st.duration).getD j 0#8 := fun j hj => by
          rw [show 0x25 + i * (z + 2) + j = 0x24 + (1 + (i * (z + 2) + j)) by omega, ha.byte _ (by omega)]
          exact patternBytes_step hst hj
        have hlen : (bLevelList l.lines st.levels).length = z := bLevelList_length ..
        refine ⟨hholds _ _ fun j hj => ?_, ?_⟩
        · rw [item j (by omega), List.getD_append _ _ _ _ (by omega)]
        · have h₀ := item z (by omega)
          have h₁ := item (z + 1) (by omega)
          rw [List.getD_append_right _ _ _ _ (by omega), hlen, Nat.sub_self] at h₀
          rw [List.getD_append_right _ _ _ _ (by omega), hlen, Nat.add_sub_cancel_left] at h₁
          exact (congrArg₂ (· ++ ·) h₀ h₁).trans (word_b2 _)
      all_goals
        have item : ∀ j, j < z → windowByte t p (last + j) = (safeBytes l.lines spec).getD j 0#8 := fun j hj => by
          rw [show last + j = 0x24 + (1 + (spec.steps.length * (z + 2) + j)) by omega, ha.byte _ (by omega)]
          exact patternBytes_safe ..
      · refine hholds _ _ fun j hj => ?_
        rw [item j hj, safeBytes, hlv]
      · intro i hi hi'
        obtain ⟨j, rfl⟩ : ∃ j, i = last + j := ⟨i - last, by omega⟩
        rw [item j (by omega)]
        exact safeBytes_none hsafe (show j < z by omega)
      · refine fun i hi hi' => ha.tail ?_ (by omega)
        have hlen : (0#8 :: patternBytes l.lines spec).length = 1 + (spec.steps.length * (z + 2) + z) := by
          rw [List.length_cons, patternBytes_eq, List.length_append, flatMap_length (stepBytes_length l.lines),
            safeBytes_length, Nat.add_comm]
        rw [show (Reply.ok (0#8 :: patternBytes l.lines spec)).result.length = _ from hlen]
        omega

end Sys2Proof.Machine

/-! PROOFS. The kind commands SET_GUARD, SET_LEVELS, RESTART_PATTERN, READ_LEVELS and CLEAR_FAULT; O33 to O35. -/

namespace Sys2Proof.Machine

/-! ## SET_GUARD (R89) -/

theorem flagOf_eq {b : Byte} (h : b.toNat ≤ 1) : flagOf b = (b == 1#8) := by
  obtain rfl | rfl : b = 0#8 ∨ b = 1#8 := by
    rcases Nat.le_one_iff_eq_zero_or_eq_one.mp h with h | h
    · exact .inl (BitVec.eq_of_toNat_eq h)
    · exact .inr (BitVec.eq_of_toNat_eq h)
  all_goals rfl

theorem badFlag_eq {b : Byte} (h : b.toNat ≤ 1) : badFlag b = false := by simp [badFlag, h]

theorem setArmed_only (k : Slot) (l : Lease) (spec : GuardSpec) (g : GuardChan) (arm : Bool) (s : State) :
    { setArmed k l spec g arm s with slots := s.slots, guardInbox := s.guardInbox } = s := by
  unfold setArmed
  dsimp only
  split <;> rfl

theorem setArmed_slots (k : Slot) (l : Lease) (spec : GuardSpec) (g : GuardChan) (arm : Bool) (s : State) :
    (setArmed k l spec g arm s).slots = (s.setLease k { l with params := .guard spec arm g }).slots := by
  unfold setArmed
  dsimp only
  split <;> rfl

theorem setArmed_inbox (k : Slot) (l : Lease) (spec : GuardSpec) (g h : GuardChan) (arm : Bool) (s : State) :
    vget (setArmed k l spec g arm s).guardInbox h = if h = g ∧ l.state.isActive = true
      then vget s.guardInbox g ++ [if arm then .arm else .disarm] else vget s.guardInbox h := by
  unfold setArmed
  dsimp only
  by_cases hl : l.state.isActive = true
  · rw [if_pos hl]
    by_cases hg : h = g
    · subst hg
      simp [hl, State.tellGuard]
    · simp [hg, State.tellGuard, vget_vset_ne]
  · simp [hl]

theorem isActive_iff (st : LeaseState) : st.isActive = true ↔ st = .active := by
  cases st <;> simp [LeaseState.isActive]

section
variable {p : Port} {s : State} {k : Slot} {l : Lease} (h : Names s p k l) (hp : l.holder = p)
include h hp

theorem setGuardBody_passed {spec : GuardSpec} {armed : Bool} {g : GuardChan}
    (hf : (argByte (s.args p) 0x06).toNat ≤ 1) (hs : l.state = .active ∨ l.state.isGrace = true)
    (hg : l.params = .guard spec armed g) : setGuardBody p (s.take p)
      = (setArmed k l spec g (argByte (s.args p) 0x06 == 1#8) (s.take p), Reply.ok []) := by
  have hst : (l.state.isActive || l.state.isGrace) = true := by
    rw [Bool.or_eq_true, isActive_iff]
    exact hs
  simp [setGuardBody, checkHolder_names h hp, firstFailure, badFlag_eq hf, hst, hg, flagOf_eq hf]

end

/-- Settles O33. -/
theorem setGuard : Obligations.SetGuard := by
  intro p s k l flag ht hn hp
  have he := exec_setGuard p s
  refine ⟨fun h => refuses he ht ?_, fun h hs hg => refuses he ht ?_, fun h hs hc => refuses he ht ?_,
    fun spec armed g h hs hpar => ?_⟩
  · have : badFlag (argByte (s.args p) 0x06) = true := by simpa [badFlag] using h
    simp [setGuardBody, checkHolder_names hn hp, firstFailure, this]
  · have hf : badFlag (argByte (s.args p) 0x06) = false := badFlag_eq h
    have hst : (l.state.isActive || l.state.isGrace) = false := by
      rw [Bool.or_eq_false_iff]
      exact ⟨by rw [← Bool.not_eq_true, isActive_iff]; exact hs, hg⟩
    simp [setGuardBody, checkHolder_names hn hp, firstFailure, hf, hst]
  · have hf : badFlag (argByte (s.args p) 0x06) = false := badFlag_eq h
    have hst : (l.state.isActive || l.state.isGrace) = true := by
      rw [Bool.or_eq_true, isActive_iff]
      exact hs
    cases hpar : l.params <;> simp [hpar, KindParams.code] at hc <;>
      simp [setGuardBody, checkHolder_names hn hp, firstFailure, hf, hst, hpar]
  · have hb := setGuardBody_passed hn hp h hs hpar
    have hkept := kept_setGuardBody p (s.take p)
    rw [hb] at hkept
    have hslots := setArmed_slots k l spec g (argByte (s.args p) 0x06 == 1#8) (s.take p)
    have hinbox := fun x => setArmed_inbox k l spec g x (argByte (s.args p) 0x06 == 1#8) (s.take p)
    refine ⟨_, command_next he ht hb, hkept.answers _, ?_, fun j hj => ?_, fun j => ?_, fun ha => ?_, fun ha => ?_,
      fun x hx => ?_, ?_⟩
    · rw [State.complete_lease, State.lease, hslots]
      exact (State.setLease_lease ..).trans (if_pos rfl)
    · rw [State.complete_lease, State.lease, hslots]
      exact (State.setLease_lease ..).trans (if_neg hj)
    · rw [State.complete_handle, State.handle, hslots]
      exact State.setLease_handle ..
    · rw [State.complete_guardInbox, hinbox, if_pos ⟨rfl, (isActive_iff _).mpr ha⟩]
      simp [flag]
    · rw [State.complete_guardInbox, hinbox, if_neg (by simp [isActive_iff, ha])]
      rfl
    · rw [State.complete_guardInbox, hinbox, if_neg (by simp [hx])]
      rfl
    · exact onlyWindow_complete (u := { setArmed k l spec g (argByte (s.args p) 0x06 == 1#8) (s.take p) with
          slots := s.slots, guardInbox := s.guardInbox }) _
        (congrArg (fun u : State => { u with windows := s.windows, lastServed := s.lastServed })
          (setArmed_only k l spec g (argByte (s.args p) 0x06 == 1#8) (s.take p)))

/-! ## SET_LEVELS and RESTART_PATTERN (R105, R111) -/

theorem working_iff (st : LeaseState) : st.working = true ↔ st = .active ∨ ∃ q left, st = .handover q left := by
  cases st <;> simp [LeaseState.working]

/-- What a line shows is read off the state before the checks restart. -/
theorem appliedConfig_restart (b s : State) (n : Line) : appliedConfig (restartChecks b s) n = appliedConfig s n := by
  have : SameLine s (restartChecks b s) n :=
    ⟨by simp, by simp, liveHolding_congr (by simp) fun k _ => by simp, (restartChecks_rest b s n).1⟩
  exact this.applied.symm

theorem appliedConfig_complete (s : State) (p : Port) (r : Reply) (n : Line) :
    appliedConfig (s.complete p r) n = appliedConfig s n := by
  have : SameLine s (s.complete p r) n := ⟨rfl, rfl, liveHolding_congr rfl fun _ _ => rfl, rfl⟩
  exact this.applied.symm

theorem appliedConfig_take (s : State) (p : Port) (n : Line) : appliedConfig (s.take p) n = appliedConfig s n := by
  have : SameLine s (s.take p) n := ⟨rfl, rfl, liveHolding_congr rfl fun _ _ => rfl, rfl⟩
  exact this.applied.symm

theorem restartChecks_cell_eq (b s : State) (n : Line) : (restartChecks b s).cell n
    = if appliedConfig b n = appliedConfig s n ∧ checkedLevel b n = checkedLevel s n then s.cell n
      else { s.cell n with mismatch := 0 } := by
  simp only [restartChecks, State.cell, vget_vmap]

theorem replaceLevels_only (k : Slot) (l : Lease) (dt : DriveType) (safe : Option Levels) (lv : Levels) (s : State) :
    { replaceLevels k l dt safe lv s with slots := s.slots, cells := s.cells } = s := rfl

/-- The state of SET_LEVELS before the checks restart. -/
def levelsReplaced (k : Slot) (l : Lease) (dt : DriveType) (safe : Option Levels) (lv : Levels) (s : State) : State :=
  (s.setLease k { l with params := .drive dt lv safe }).mapCells l.lines fun n c => { c with assigned := some (has lv n) }

theorem replaceLevels_eq (k : Slot) (l : Lease) (dt : DriveType) (safe : Option Levels) (lv : Levels) (s : State) :
    replaceLevels k l dt safe lv s = restartChecks s (levelsReplaced k l dt safe lv s) := rfl

section
variable {k : Slot} {l : Lease} {dt : DriveType} {lv₀ lv : Levels} {safe : Option Levels} {s : State}

theorem levelsReplaced_changed (hk : s.lease k = some l) :
    RecordChanged s (levelsReplaced k l dt safe lv s) k l { l with params := .drive dt lv safe } where
  before := hk
  after := by simp [levelsReplaced]
  others j hj := by simp [levelsReplaced, hj]
  live := rfl

/-- The lines of the lease take their new level, and a line goes on being checked if its configuration stays. -/
theorem replaceLevels_cell (hk : s.lease k = some l) (hp : l.params = .drive dt lv₀ safe) (n : Line) :
    (replaceLevels k l dt safe lv s).cell n = if has l.lines n then
        { s.cell n with
          assigned := some (has lv n)
          mismatch := if appliedConfig (replaceLevels k l dt safe lv s) n = appliedConfig s n then (s.cell n).mismatch
            else 0 }
      else s.cell n := by
  have hrec := levelsReplaced_changed (dt := dt) (lv := lv) (safe := safe) hk
  have hcell : (levelsReplaced k l dt safe lv s).cell n
      = if has l.lines n then { s.cell n with assigned := some (has lv n) } else s.cell n := by
    simp [levelsReplaced]
  have hchecked := fun ha => hrec.checked (n := n) (by simp [levelsReplaced]) (by simp [levelsReplaced]) ha
  rw [replaceLevels_eq, restartChecks_cell_eq, appliedConfig_restart, hcell]
  by_cases hn : has l.lines n = true
  · rw [if_pos hn, if_pos hn]
    by_cases ha : appliedConfig s n = appliedConfig (levelsReplaced k l dt safe lv s) n
    · rw [if_pos ⟨ha, hchecked ha⟩, if_pos ha.symm]
    · rw [if_neg (fun h => ha h.1), if_neg (fun h => ha h.symm)]
  · have ha : appliedConfig s n = appliedConfig (levelsReplaced k l dt safe lv s) n :=
      hrec.applied (by simp [levelsReplaced]) (by simp [levelsReplaced]) (by simp [levelsReplaced]) rfl
        (fun v => by rw [hp]; cases v <;> rfl) (by rw [hcell, if_neg hn])
    rw [if_neg hn, if_pos ⟨ha, hchecked ha⟩, if_neg hn]

end

section
variable {p : Port} {s : State} {k : Slot} {l : Lease} (h : Names s p k l) (hp : l.holder = p)
include h hp

theorem setLevelsBody_passed {dt : DriveType} {lv : Levels} {safe : Option Levels} (hw : l.state.working = true)
    (hd : l.params = .drive dt lv safe) : setLevelsBody p (s.take p)
      = (replaceLevels k l dt safe (argSet (s.args p) 0x06 &&& l.lines) (s.take p), Reply.ok []) := by
  simp [setLevelsBody, checkHolder_names h hp, hw, hd]

theorem restartPatternBody_passed {spec : PatternSpec} {c : PatChan} (hw : l.state.working = true)
    (hc : l.params = .pattern spec c) :
    restartPatternBody p (s.take p) = ((s.take p).tellPattern c .restart, Reply.ok []) := by
  simp [restartPatternBody, checkHolder_names h hp, hw, hc]

end

theorem has_and (a b : LineSet) (n : Line) : has (a &&& b) n = (has a n && has b n) := BitVec.getLsbD_and ..

/-- Settles O34. -/
theorem setLevelsAndRestartPattern : Obligations.SetLevelsAndRestartPattern := by
  intro p s k l hn hp working
  have hworking : l.state.working = true ↔ working := working_iff _
  refine ⟨fun ht => ⟨fun hw => ?_, fun hw hc => ?_, fun dt lv safe hw hd => ?_⟩,
    fun ht => ⟨fun hw => ?_, fun hw hc => ?_, fun spec c hw hc => ?_⟩⟩
  · refine refuses (exec_setLevels p s) ht ?_
    simp [setLevelsBody, checkHolder_names hn hp, show ¬ l.state.working = true from fun h => hw (hworking.mp h)]
  · refine refuses (exec_setLevels p s) ht ?_
    cases hpar : l.params <;> simp [hpar, KindParams.code] at hc <;>
      simp [setLevelsBody, checkHolder_names hn hp, hworking.mpr hw, hpar]
  · have hb := setLevelsBody_passed hn hp (hworking.mpr hw) hd
    have hkept := kept_setLevelsBody p (s.take p)
    rw [hb] at hkept
    have hcell := replaceLevels_cell (lv := argSet (s.args p) 0x06 &&& l.lines) (s := s.take p) hn.lease hd
    have hrec := levelsReplaced_changed (dt := dt) (lv := argSet (s.args p) 0x06 &&& l.lines) (safe := safe)
      (s := s.take p) hn.lease
    refine ⟨_, command_next (exec_setLevels p s) ht hb, hkept.answers _, ?_, fun j hj => ?_, fun j => ?_, fun n hl => ?_,
      fun n hl => ?_, ?_⟩
    · rw [State.complete_lease, replaceLevels_eq, restartChecks_lease]
      exact hrec.after
    · rw [State.complete_lease, replaceLevels_eq, restartChecks_lease]
      exact hrec.others j hj
    · rw [State.complete_handle, replaceLevels_eq, restartChecks_handle]
      simp [levelsReplaced]
    · rw [State.complete_cell, hcell, if_neg (by simp [hl])]
      rfl
    · rw [State.complete_cell, hcell, if_pos hl, appliedConfig_complete, appliedConfig_take, has_and, hl, Bool.and_true]
      rfl
    · exact onlyWindow_complete (u := { replaceLevels k l dt safe (argSet (s.args p) 0x06 &&& l.lines) (s.take p) with
          slots := s.slots, cells := s.cells }) _ rfl
  · refine refuses (exec_restartPattern p s) ht ?_
    simp [restartPatternBody, checkHolder_names hn hp, show ¬ l.state.working = true from fun h => hw (hworking.mp h)]
  · refine refuses (exec_restartPattern p s) ht ?_
    cases hpar : l.params <;> simp [hpar, KindParams.code] at hc <;>
      simp [restartPatternBody, checkHolder_names hn hp, hworking.mpr hw, hpar]
  · have hb := restartPatternBody_passed hn hp (hworking.mpr hw) hc
    refine ⟨_, command_next (exec_restartPattern p s) ht hb, answers_complete (Reply.ok []) rfl rfl, ?_, fun d hd => ?_,
      onlyWindow_complete (u := { (s.take p).tellPattern c .restart with patInbox := s.patInbox }) _ rfl⟩
    · simp
    · simp [State.tellPattern, vget_vset_ne _ _ hd]

end Sys2Proof.Machine

/-! PROOFS. READ_LEVELS and CLEAR_FAULT: O35. -/

namespace Sys2Proof.Machine

/-! ## READ_LEVELS (R115) -/

theorem has_or (a b : LineSet) (n : Line) : has (a ||| b) n = (has a n || has b n) := BitVec.getLsbD_or ..

theorem has_setOf (ns : List Line) (n : Line) : has (setOf ns) n = decide (n ∈ ns) := by
  have hfold : ∀ (acc : LineSet), has (ns.foldl (fun acc n => acc ||| single n) acc) n = (has acc n || decide (n ∈ ns)) := by
    induction ns with
    | nil => simp
    | cons m ns ih =>
      intro acc
      rw [List.foldl_cons, ih, has_or, has_single]
      by_cases hm : n = m <;> simp [hm]
  rw [setOf, hfold]
  simp [has]

theorem has_debouncedLevels (s : State) (ls : LineSet) (n : Line) :
    has (debouncedLevels s ls) n = (has ls n && (s.cell n).debounced) := by
  rw [debouncedLevels, has_setOf]
  simp [linesOf_mem, Bool.decide_and]

theorem isClosed_iff (st : LeaseState) : st.isClosed = true ↔ ∃ r, st = .closed r := by
  cases st <;> simp [LeaseState.isClosed]

theorem takeChanged_lease (p : Port) (k j : Slot) (l : Lease) (s : State) : (takeChanged p k l s).lease j
    = if j = k then some { l with params := l.params.setChanged 0#16 } else s.lease j := by
  simp [takeChanged, dropSlotKinds, State.setLease_lease]

theorem takeChanged_map (p q : Port) (k : Slot) (l : Lease) (s : State) : (takeChanged p k l s).map q
    = if q = p then (s.map p).removeSlot k (s.handle k).gen SlotKind.edge else s.map q := by
  simp [takeChanged, dropSlotKinds_map]

/-- The levels, the changed set and the fault set that READ_LEVELS answers. -/
def levelsReply (s : State) (l : Lease) : Reply :=
  Reply.ok (bSet (debouncedLevels s l.lines) ++ bSet l.params.changed ++ bSet l.faults)

section
variable {p : Port} {s : State} {k : Slot} {l : Lease} (h : Names s p k l) (hp : l.holder = p)
include h hp

theorem readLevelsBody_passed (hf : (argByte (s.args p) 0x06).toNat ≤ 1) (hc : ∀ r, l.state ≠ .closed r) :
    readLevelsBody p (s.take p)
      = (if (argByte (s.args p) 0x06 == 1#8) && l.params.isWatch && l.state.live then takeChanged p k l (s.take p)
          else s.take p, levelsReply (s.take p) l) := by
  have hst : l.state.isClosed = false := by
    rw [← Bool.not_eq_true, isClosed_iff]
    exact fun ⟨r, e⟩ => hc r e
  simp [readLevelsBody, checkHolder_names h hp, firstFailure, badFlag_eq hf, hst, flagOf_eq hf, levelsReply]

theorem clearFaultBody_passed (hl : l.state.live = true) : clearFaultBody p (s.take p)
    = (clearFaults k l (argSet (s.args p) 0x06) (s.take p),
        Reply.ok (bSet (l.faults &&& ~~~(argSet (s.args p) 0x06)))) := by
  simp [clearFaultBody, checkHolder_names h hp, hl]

end

/-- The three words of the answer. -/
theorem levelsReply_shown {s t : State} {p : Port} {u : State} {l : Lease}
    (h : Answers s t p (levelsReply u l).status (levelsReply u l).result) :
    windowByte t p 0x24 ++ windowByte t p 0x25 = debouncedLevels u l.lines
      ∧ windowByte t p 0x26 ++ windowByte t p 0x27 = l.params.changed
      ∧ windowByte t p 0x28 ++ windowByte t p 0x29 = l.faults := by
  refine ⟨?_, ?_, ?_⟩
  · rw [← word_bSet (debouncedLevels u l.lines)]
    exact h.word 0 (by decide)
  · rw [← word_bSet l.params.changed]
    exact h.word 2 (by decide)
  · rw [← word_bSet l.faults]
    exact h.word 4 (by decide)

/-! ## CLEAR_FAULT (R120) -/

/-- The record of CLEAR_FAULT, with the checks of the removed lines afresh. -/
def faultsCleared (k : Slot) (l : Lease) (named : LineSet) (s : State) : State :=
  restartLines (l.faults &&& named) (s.setLease k { l with faults := l.faults &&& ~~~named })

theorem clearFaults_eq (k : Slot) (l : Lease) (named : LineSet) (s : State) :
    clearFaults k l named s = restartChecks s (faultsCleared k l named s) := rfl

theorem faultsCleared_changed {k : Slot} {l : Lease} {named : LineSet} {s : State} (h : s.lease k = some l) :
    RecordChanged s (faultsCleared k l named s) k l { l with faults := l.faults &&& ~~~named } := by
  refine ⟨h, ?_, fun j hj => ?_, rfl⟩
  · simp [faultsCleared, State.setLease_lease]
  · simp [faultsCleared, State.setLease_lease, hj]

/-- A line that stays in or out of the fault set shows what it showed; a removed line's check starts afresh. -/
theorem clearFaults_cell {k : Slot} {l : Lease} {named : LineSet} {s : State} (h : s.lease k = some l) (n : Line) :
    (clearFaults k l named s).cell n
      = if has (l.faults &&& named) n then { s.cell n with mismatch := 0 } else s.cell n := by
  have hcell : (faultsCleared k l named s).cell n
      = if has (l.faults &&& named) n then { s.cell n with mismatch := 0 } else s.cell n := by
    simp [faultsCleared, restartLines]
  rw [clearFaults_eq, restartChecks_cell_eq, hcell]
  by_cases hn : has (l.faults &&& named) n = true
  · rw [if_pos hn]
    split <;> rfl
  · have hrec := faultsCleared_changed (named := named) h
    have hprof : (faultsCleared k l named s).profile n = s.profile n := by simp [faultsCleared]
    have hfault : has (l.faults &&& ~~~named) n = has l.faults n := by
      simp [has] at hn ⊢
      exact hn
    have happ : appliedConfig s n = appliedConfig (faultsCleared k l named s) n :=
      hrec.applied (by simp [faultsCleared]) (by simp [faultsCleared]) hprof hfault (fun _ => rfl)
        (by rw [hcell, if_neg hn])
    rw [if_neg hn, if_pos ⟨happ, hrec.checked (by simp [faultsCleared]) hprof happ⟩]

theorem clearFaults_only (k : Slot) (l : Lease) (named : LineSet) (s : State) :
    { clearFaults k l named s with slots := s.slots, cells := s.cells } = s := rfl

/-- Settles O35. -/
theorem readLevelsAndClearFault : Obligations.ReadLevelsAndClearFault := by
  intro p s k l hn hp flag named
  refine ⟨fun ht => ⟨fun h => ?_, fun h hc => ?_, fun h hc => ?_⟩, fun ht => ⟨fun h => ?_, fun h => ?_⟩⟩
  · refine refuses (exec_readLevels p s) ht ?_
    have : badFlag (argByte (s.args p) 0x06) = true := by simpa [badFlag] using h
    simp [readLevelsBody, checkHolder_names hn hp, firstFailure, this]
  · refine refuses (exec_readLevels p s) ht ?_
    have hf : badFlag (argByte (s.args p) 0x06) = false := badFlag_eq h
    simp [readLevelsBody, checkHolder_names hn hp, firstFailure, hf, (isClosed_iff _).mpr hc]
  · have hb := readLevelsBody_passed hn hp h hc
    have hkept := kept_readLevelsBody p (s.take p)
    rw [hb] at hkept
    have hans := hkept.answers (levelsReply (s.take p) l)
    obtain ⟨hdeb, hchanged, hfaults⟩ := levelsReply_shown hans
    refine ⟨_, command_next (exec_readLevels p s) ht hb, hans.status, fun n => ?_, hchanged, hfaults,
      fun h₁ h₂ h₃ => ?_, fun hno => ?_⟩
    · rw [hdeb]
      exact has_debouncedLevels (s.take p) l.lines n
    · have hyes : ((argByte (s.args p) 0x06 == 1#8) && l.params.isWatch && l.state.live) = true := by
        rw [h₂, h₃]
        simpa using h₁
      rw [if_pos hyes]
      have hmap := fun q => takeChanged_map p q k l (s.take p)
      refine ⟨?_, ?_, ⟨?_, fun j hj => ?_⟩, fun q hq => ?_, fun j hj => ?_, fun j => ?_, ?_⟩
      · rw [State.complete_lease, takeChanged_lease, if_pos rfl]
      · rw [State.complete_map, hmap, if_pos rfl, State.take_handle, kindsFor_removeSlot, State.take_map]
      · rw [State.complete_map, hmap, if_pos rfl]
        exact removeSlot_only ..
      · rw [State.complete_map, hmap, if_pos rfl]
        exact slots_removeSlot_ne _ _ _ hj
      · rw [State.complete_map, hmap, if_neg hq, State.take_map]
      · rw [State.complete_lease, takeChanged_lease, if_neg hj, State.take_lease]
      · rw [State.complete_handle]
        simp [takeChanged, dropSlotKinds]
      · exact onlyWindow_complete (u := { takeChanged p k l (s.take p) with slots := s.slots, maps := s.maps }) _ rfl
    · have hne : ¬((argByte (s.args p) 0x06 == 1#8) && l.params.isWatch && l.state.live) = true := by
        rcases hno with h | h | h
        · simp [show argByte (s.args p) 0x06 ≠ 1#8 from h]
        · simp [h]
        · simp [h]
      rw [if_neg hne]
      exact onlyWindow_complete _ rfl
  · exact refuses (exec_clearFault p s) ht (by simp [clearFaultBody, checkHolder_names hn hp, h])
  · have hb := clearFaultBody_passed hn hp h
    have hkept := kept_clearFaultBody p (s.take p)
    rw [hb] at hkept
    have hrec := faultsCleared_changed (named := argSet (s.args p) 0x06) (s := s.take p) hn.lease
    refine ⟨_, command_next (exec_clearFault p s) ht hb, hkept.answers _, ?_, fun j hj => ?_, fun j => ?_, fun n => ?_, ?_⟩
    · rw [State.complete_lease, clearFaults_eq, restartChecks_lease]
      exact hrec.after
    · rw [State.complete_lease, clearFaults_eq, restartChecks_lease]
      exact hrec.others j hj
    · rw [State.complete_handle, clearFaults_eq, restartChecks_handle]
      simp [faultsCleared]
    · rw [State.complete_cell]
      exact clearFaults_cell (s := s.take p) hn.lease n
    · exact onlyWindow_complete (u := { clearFaults k l (argSet (s.args p) 0x06) (s.take p) with
          slots := s.slots, cells := s.cells }) _ rfl

end Sys2Proof.Machine

/-! PROOFS. SET_LINE_PROFILE: O36. -/

namespace Sys2Proof.Machine

/-! ## Argument bytes and the values they read as -/

theorem lineOf_eq_some {b : Byte} {n : Line} (h : b.toNat = n.val) : lineOf b = some n := by
  have := n.isLt
  rw [lineOf, dif_pos (by omega)]
  exact congrArg some (Fin.ext h)

theorem lineOf_above {b : Byte} (h : 15 < b.toNat) : lineOf b = none := dif_neg (by omega)

theorem restModeOf_above {b : Byte} (h : 4 < b.toNat) : restModeOf b = none := by
  unfold restModeOf
  split <;> first | omega | rfl

/-- A rest mode byte is the code of the mode it gives. -/
theorem restModeOf_code {b : Byte} {m : RestMode} (h : restModeOf b = some m) : BitVec.ofNat 8 m.code = b := by
  apply BitVec.eq_of_toNat_eq
  unfold restModeOf at h
  split at h <;> cases h <;> rename_i hb <;> rw [hb] <;> rfl

theorem byte_toNat (b : Byte) : BitVec.ofNat 8 b.toNat = b := by simp

theorem flag_byte {b : Byte} (h : b.toNat ≤ 1) : BitVec.ofNat 8 (b == 1#8).toNat = b := by
  obtain rfl | rfl : b = 0#8 ∨ b = 1#8 := by
    rcases Nat.le_one_iff_eq_zero_or_eq_one.mp h with h | h
    · exact .inl (BitVec.eq_of_toNat_eq h)
    · exact .inr (BitVec.eq_of_toNat_eq h)
  all_goals rfl

theorem badFlag_above {b : Byte} (h : 1 < b.toNat) : badFlag b = true := by simpa [badFlag] using h

/-! ## SET_LINE_PROFILE (R128) -/

/-- The profile of the argument bytes. -/
def argProfile (a : Args) (rest : RestMode) : Profile :=
  ⟨rest, argNat a 0x06, argNat a 0x07, argByte a 0x08 == 1#8, false⟩

/-- The state of SET_LINE_PROFILE before the checks restart. -/
def profileWritten (n : Line) (f : Profile) (s : State) : State :=
  (s.setProfile n f).setCell n
    { s.cell n with
      stability := 0
      mismatch := if (liveHolding s n).isSome then (s.cell n).mismatch else 0 }

theorem writeProfile_eq (n : Line) (f : Profile) (s : State) :
    writeProfile n f s = restartChecks s (profileWritten n f s) := rfl

theorem liveHolding_profileWritten (n m : Line) (f : Profile) (s : State) :
    liveHolding (profileWritten n f s) m = liveHolding s m := liveHolding_congr rfl fun _ _ => rfl

theorem profileWritten_cell (n m : Line) (f : Profile) (s : State) : (profileWritten n f s).cell m
    = if m = n then { s.cell n with stability := 0
                                    mismatch := if (liveHolding s n).isSome then (s.cell n).mismatch else 0 }
      else s.cell m := by
  simp [profileWritten, State.setCell_cell]

theorem writeProfile_profile (n m : Line) (f : Profile) (s : State) :
    (writeProfile n f s).profile m = if m = n then f else s.profile m := by
  rw [writeProfile_eq, restartChecks_profile]
  simp [profileWritten, State.setProfile_profile]

theorem writeProfile_cell_ne {n m : Line} (h : m ≠ n) (f : Profile) (s : State) :
    (writeProfile n f s).cell m = s.cell m := by
  have hcell : (profileWritten n f s).cell m = s.cell m := by rw [profileWritten_cell, if_neg h]
  have hsame : SameLine s (profileWritten n f s) m :=
    ⟨rfl, by simp [profileWritten, State.setProfile_profile, h], liveHolding_profileWritten .., by rw [hcell]⟩
  rw [writeProfile_eq, restartChecks_cell_same hsame, hcell]

/-- A held line shows and checks what it did; the count of a line at rest restarts. -/
theorem writeProfile_cell_self (n : Line) (f : Profile) (s : State) : (writeProfile n f s).cell n
    = { s.cell n with stability := 0
                      mismatch := if (liveHolding s n).isSome then (s.cell n).mismatch else 0 } := by
  rw [writeProfile_eq, restartChecks_cell_eq, profileWritten_cell, if_pos rfl]
  cases hl : liveHolding s n with
  | none => split <;> rfl
  | some e =>
    have hl' : liveHolding (profileWritten n f s) n = some e := (liveHolding_profileWritten ..).trans hl
    have happ : appliedConfig s n = appliedConfig (profileWritten n f s) n := by
      have hass : ((profileWritten n f s).cell n).assigned = (s.cell n).assigned := by
        rw [profileWritten_cell, if_pos rfl]
      unfold appliedConfig
      rw [hl, hl', hass]
      rfl
    have hchk : checkedLevel s n = checkedLevel (profileWritten n f s) n := by
      unfold checkedLevel
      rw [hl, hl', happ]
      rfl
    rw [if_pos ⟨happ, hchk⟩]

theorem writeProfile_only (n : Line) (f : Profile) (s : State) :
    { writeProfile n f s with profiles := s.profiles, cells := s.cells } = s := rfl

section
variable {s : State} {n : Line} {rest : RestMode}

theorem setLineProfileBody_passed (hn : lineOf (argByte (s.args 0) 0x04) = some n)
    (hr : restModeOf (argByte (s.args 0) 0x05) = some rest) (hd : argNat (s.args 0) 0x06 ≤ 31)
    (hc : argNat (s.args 0) 0x08 ≤ 1) : setLineProfileBody 0 (s.take 0)
      = (writeProfile n (argProfile (s.args 0) rest) (s.take 0),
          Reply.ok (profileBytes n (argProfile (s.args 0) rest) ++ bFlag (s.profile n).restFault)) := by
  simp [setLineProfileBody, hn, hr, Config.maxDebounce, badFlag_eq hc, flagOf_eq hc, argProfile, Nat.not_lt.mpr hd]

theorem setLineProfileBody_bad
    (h : 15 < argNat (s.args 0) 0x04 ∨ 4 < argNat (s.args 0) 0x05 ∨ 31 < argNat (s.args 0) 0x06
      ∨ 1 < argNat (s.args 0) 0x08) : setLineProfileBody 0 (s.take 0) = refuse (s.take 0) .badArgument := by
  cases hn : lineOf (argByte (s.args 0) 0x04) with
  | none => simp [setLineProfileBody, hn]
  | some n =>
    cases hr : restModeOf (argByte (s.args 0) 0x05) with
    | none => simp [setLineProfileBody, hn, hr]
    | some rest =>
      have hbad : Config.maxDebounce < argNat (s.args 0) 0x06 ∨ badFlag (argByte (s.args 0) 0x08) = true := by
        rcases h with h | h | h | h
        · rw [lineOf_above h] at hn
          cases hn
        · rw [restModeOf_above h] at hr
          cases hr
        · exact .inl h
        · exact .inr (badFlag_above h)
      simp [setLineProfileBody, hn, hr, hbad]

end

theorem profileBytes_arg {a : Args} {n : Line} {rest : RestMode} (hn : argNat a 0x04 = n.val)
    (hr : restModeOf (argByte a 0x05) = some rest) (hc : argNat a 0x08 ≤ 1) :
    profileBytes n (argProfile a rest)
      = [argByte a 0x04, argByte a 0x05, argByte a 0x06, argByte a 0x07, argByte a 0x08] := by
  simp only [profileBytes, argProfile, b1, bFlag, restModeOf_code hr, ← hn, argNat, byte_toNat, flag_byte hc,
    List.cons_append, List.nil_append]

/-- Settles O36. -/
theorem setLineProfile : Obligations.SetLineProfile := by
  intro s a ht
  have he := exec_setLineProfile 0 s
  refine ⟨fun h => refuses he ht (setLineProfileBody_bad h), fun n rest hn hr hd hc => ?_⟩
  have hb := setLineProfileBody_passed (lineOf_eq_some hn) hr hd hc
  have hkept := kept_setLineProfileBody 0 (s.take 0)
  rw [hb] at hkept
  refine ⟨_, command_next he ht hb, ?_, ?_, fun m hm => ⟨?_, ?_⟩, ?_, ?_⟩
  · have := answers_complete (s := s) (p := 0)
      (Reply.ok (profileBytes n (argProfile (s.args 0) rest) ++ bFlag (s.profile n).restFault)) hkept.windows hkept.served
    rw [profileBytes_arg hn hr hc] at this ⊢
    exact this
  · rw [State.complete_profile, writeProfile_profile, if_pos rfl]
    rfl
  · rw [State.complete_profile, writeProfile_profile, if_neg hm, State.take_profile]
  · rw [State.complete_cell, writeProfile_cell_ne hm, State.take_cell]
  · rw [State.complete_cell]
    exact writeProfile_cell_self n _ (s.take 0)
  · exact onlyWindow_complete (u := { writeProfile n (argProfile (s.args 0) rest) (s.take 0) with
        profiles := s.profiles, cells := s.cells }) _
      (congrArg (fun u : State => { u with windows := s.windows, lastServed := s.lastServed })
        (writeProfile_only n (argProfile (s.args 0) rest) (s.take 0)))

end Sys2Proof.Machine

/-! PROOFS. A pass over the slots, seen from one slot, and SET_CHARTER: O37. -/

namespace Sys2Proof.Machine

/-! ## A pass over the slots or ports, seen from one of them -/

section
variable {m : Nat} {R : State → State → Prop} {P : State → Prop} {f : Fin m → State → State} {k : Fin m}
  (refl : ∀ u, R u u) (trans : ∀ {u v w}, R u v → R v w → R u w) (keep : ∀ j u, P u → P (f j u))
  (beside : ∀ j u, j ≠ k → P u → R u (f j u))
include refl trans keep beside

theorem foldl_beside {ks : List (Fin m)} (hk : k ∉ ks) {s : State} (hs : P s) :
    P (ks.foldl (fun s k => f k s) s) ∧ R s (ks.foldl (fun s k => f k s) s) := by
  induction ks generalizing s with
  | nil => exact ⟨hs, refl s⟩
  | cons j ks ih =>
    have hj : j ≠ k := fun e => hk (by simp [e])
    obtain ⟨h₁, h₂⟩ := ih (fun h => hk (by simp [h])) (keep j s hs)
    exact ⟨h₁, trans (beside j s hj hs) h₂⟩

/-- The work for `k` itself stands between work for others. -/
theorem foldl_at {s : State} (hs : P s) :
    ∃ u, P u ∧ R s u ∧ P (f k u) ∧ R (f k u) ((List.finRange m).foldl (fun s k => f k s) s) := by
  obtain ⟨front, back, hks⟩ := List.append_of_mem (List.mem_finRange k)
  have hnd := List.nodup_finRange m
  rw [hks] at hnd
  obtain ⟨-, hback, hdis⟩ := List.nodup_append.mp hnd
  have hfront : k ∉ front := fun h => hdis k h k (by simp) rfl
  obtain ⟨h₁, h₂⟩ := foldl_beside refl trans keep beside hfront hs
  obtain ⟨-, h₄⟩ := foldl_beside refl trans keep beside (List.nodup_cons.mp hback).1 (keep k _ h₁)
  refine ⟨_, h₁, h₂, keep k _ h₁, ?_⟩
  rw [hks, List.foldl_append]
  exact h₄

end

theorem forSlots_at {R : State → State → Prop} {P : State → Prop} {f : Slot → State → State} {k : Slot}
    (refl : ∀ u, R u u) (trans : ∀ {u v w}, R u v → R v w → R u w) (keep : ∀ j u, P u → P (f j u))
    (beside : ∀ j u, j ≠ k → P u → R u (f j u)) {s : State} (hs : P s) :
    ∃ u, P u ∧ R s u ∧ P (f k u) ∧ R (f k u) (forSlots f s) := foldl_at refl trans keep beside hs

theorem forPorts_at {R : State → State → Prop} {P : State → Prop} {f : Port → State → State} {k : Port}
    (refl : ∀ u, R u u) (trans : ∀ {u v w}, R u v → R v w → R u w) (keep : ∀ j u, P u → P (f j u))
    (beside : ∀ j u, j ≠ k → P u → R u (f j u)) {s : State} (hs : P s) :
    ∃ u, P u ∧ R s u ∧ P (f k u) ∧ R (f k u) (forPorts f s) := foldl_at refl trans keep beside hs

/-! ## The entries that a scan refuses -/

/-- An entry that its charter does not permit leaves with WAIT_REFUSED (R36). -/
theorem scan_refuses {s : State} {e : QueueEntry} (he : e ∈ s.queue) (hp : permits (s.charter e.port) e.request = false) :
    e ∉ (scan s).queue ∧ HoldsTicket (scan s) e.port e.ticket TicketKind.waitRefused := by
  have hout : e ∉ (scan s).queue := fun h => by
    obtain ⟨older, younger, hq⟩ := List.append_of_mem h
    have := (scan_waits s older e younger hq).1
    rw [(scan_examined s).fuller.charter, hp] at this
    cases this
  refine ⟨hout, ?_⟩
  have key := (scan_invariant (s := s)
    (fun _ u => e ∈ u.queue ∨ HoldsTicket u e.port e.ticket TicketKind.waitRefused) (.inl he)
    (fun older x rest u _ _ hq _ hu => ?_) (fun older x rest u _ _ hq hpx hb hu => ?_)
    fun _ _ _ _ _ _ _ _ _ hu => hu).1
  · exact key.resolve_left hout
  · by_cases hx : x = e
    · subst hx
      refine .inr ?_
      unfold HoldsTicket
      rw [postTicket_map, if_pos rfl]
      exact insertTicket_self ⟨x.ticket, TicketKind.waitRefused, x.arrival⟩ _
    · rcases hu with hu | ⟨y, hy, h₁, h₂⟩
      · rw [hq] at hu
        exact .inl (by simpa [show e ≠ x from fun h => hx h.symm] using hu)
      · obtain ⟨z, hz, e₁, e₂⟩ := (refuse_examined x TicketKind.waitRefused (older ++ rest) u).keeps.tickets _ y hy
        exact .inr ⟨z, hz, e₁.trans h₁, by rw [← h₂, ← BitVec.and_assoc, BitVec.and_comm z.kinds, e₂]⟩
  · have hx : e ≠ x := fun h => by rw [← h, hp] at hpx; cases hpx
    rcases hu with hu | ⟨y, hy, h₁, h₂⟩
    · rw [hq] at hu
      exact .inl (by simpa [hx] using hu)
    · exact .inr ⟨y, by rw [(scanGrant_quiet ..).2.2]; exact hy, h₁, h₂⟩

/-- The scan counts the entries that their charters do not permit. -/
theorem scanCounted_refused (s : State) :
    (scanCounted s).2 = s.queue.countP fun e => !permits (s.charter e.port) e.request := by
  suffices ∀ (es older : List QueueEntry) (u : State), u.charters = s.charters →
      (scanList older es u).2.2 = es.countP fun e => !permits (s.charter e.port) e.request from this _ _ _ rfl
  intro es
  induction es with
  | nil => intro older u _; rfl
  | cons e es ih =>
    intro older u hu
    have hc : u.charter e.port = s.charter e.port := by simp [State.charter, hu]
    simp only [scanList, hc]
    cases hp : permits (s.charter e.port) e.request with
    | false =>
      rw [if_pos (by rfl), List.countP_cons_of_pos (by simp [hp])]
      dsimp only
      rw [ih _ _ (by simpa using hu)]
    | true =>
      rw [if_neg (by simp), List.countP_cons_of_neg (by simp [hp])]
      split
      · exact ih _ _ (by simpa using hu)
      · exact ih _ _ hu

/-! ## SET_CHARTER (R139 to R142) -/

/-- What the flagging of other records leaves of slot `k`. -/
structure FlagBeside (k : Slot) (s t : State) : Prop where
  slot : vget t.slots k = vget s.slots k
  entry : ∀ q, vget (t.map q).slots k = vget (s.map q).slots k

theorem flagRecord_beside (q : Port) (c : Charter) {j k : Slot} (s : State) (h : j ≠ k) :
    FlagBeside k s (flagRecord q c j s) := by
  unfold flagRecord
  split
  · split
    · refine ⟨?_, fun r => ?_⟩
      · simp [State.setLease, vget_vset_ne _ _ h.symm]
      · rw [postSlot_map]
        split
        · rename_i e
          rw [e, slots_postSlot_ne _ _ _ _ h.symm, State.setLease_map]
        · simp
    · exact ⟨rfl, fun _ => rfl⟩
  · exact ⟨rfl, fun _ => rfl⟩

/-- The record of port `q` in slot `k` under the new charter: flagged, with CHARTER_NARROWED, if it newly does not
fit (R140). -/
theorem flagRecords_at {q : Port} {c : Charter} {s : State} {k : Slot} {l : Lease} (hk : s.lease k = some l) :
    (flagRecords q c s).lease k
        = some { l with outOfCharter := l.outOfCharter || (decide (l.holder = q) && !fits c l) }
      ∧ (flagRecords q c s).handle k = s.handle k
      ∧ (narrows q c l = true → Holds (flagRecords q c s) l.holder k (s.handle k).gen SlotKind.charterNarrowed) := by
  obtain ⟨u, -, before, -, after⟩ := forSlots_at (R := FlagBeside k) (P := fun _ => True) (f := flagRecord q c) (k := k)
    (fun _ => ⟨rfl, fun _ => rfl⟩)
    (fun a b => ⟨b.slot.trans a.slot, fun q => (b.entry q).trans (a.entry q)⟩)
    (fun _ _ _ => trivial) (fun j u hj _ => flagRecord_beside q c u hj) (s := s) trivial
  have hu : u.lease k = some l := by rw [← hk, State.lease, before.slot]; rfl
  have hh : (flagRecords q c s).handle k = s.handle k := by
    have h₁ : (flagRecords q c s).handle k = (flagRecord q c k u).handle k := by
      simp only [State.handle, flagRecords, after.slot]
    have h₂ : (flagRecord q c k u).handle k = u.handle k := by
      unfold flagRecord
      rw [hu]
      dsimp only
      split
      · simp
      · rfl
    have h₃ : u.handle k = s.handle k := by simp only [State.handle, before.slot]
    rw [h₁, h₂, h₃]
  have hlease : (flagRecords q c s).lease k = (flagRecord q c k u).lease k := by
    simp only [State.lease, flagRecords, after.slot]
  refine ⟨?_, hh, fun hn => ?_⟩
  · rw [hlease, flagRecord, hu]
    dsimp only
    by_cases hn : narrows q c l = true
    · have : decide (l.holder = q) = true ∧ (!fits c l) = true := by
        simp only [narrows, Bool.and_eq_true] at hn
        exact hn.1
      rw [if_pos hn, this.1, this.2]
      simp [State.setLease_lease]
    · have hsame : (l.outOfCharter || (decide (l.holder = q) && !fits c l)) = l.outOfCharter := by
        cases ho : l.outOfCharter with
        | true => rfl
        | false => simpa [narrows, ho] using hn
      rw [if_neg hn, hu, hsame]
  · have hmap : vget ((flagRecords q c s).map l.holder).slots k
        = vget ((flagRecord q c k u).map l.holder).slots k := after.entry _
    have hgen : (u.handle k).gen = (s.handle k).gen := by simp only [State.handle, before.slot]
    unfold Holds kindsFor
    rw [hmap, flagRecord, hu]
    dsimp only
    rw [if_pos hn, postSlot_map, if_pos rfl, State.setLease_handle, ← hgen]
    have := kindsFor_postSlot ((u.setLease k { l with outOfCharter := true }).map l.holder) k (u.handle k).gen
      SlotKind.charterNarrowed .none
    unfold kindsFor at this
    rw [this, or_and_self]

theorem kindsFor_postPort (m : NoticeMap) (kd : KindSet) (k : Slot) (gen : Byte) :
    kindsFor (m.postPort kd) k gen = kindsFor m k gen := rfl

/-- The engine's own part under a command that writes a charter. -/
theorem Kept.engineKept_charters {s u : State} {p : Port} {c : Vector Charter 4}
    (h : Kept { s.take p with charters := c } u) (ha : u.arrivals = s.arrivals) (r : Reply) :
    EngineKept s (u.complete p r) :=
  ⟨h.profiles, h.patChans, h.guardChans, h.buses, h.rstn, ha, h.pending⟩

theorem flagRecord_rest (q : Port) (c : Charter) (k : Slot) (s : State) : (flagRecord q c k s).queue = s.queue
    ∧ (flagRecord q c k s).arrivals = s.arrivals ∧ (flagRecord q c k s).reports = s.reports := by
  unfold flagRecord
  split
  · split
    · simp
    · exact ⟨rfl, rfl, rfl⟩
  · exact ⟨rfl, rfl, rfl⟩

theorem flagRecords_port (q r : Port) (c : Charter) (s : State) : ((flagRecords q c s).map r).port = (s.map r).port := by
  refine forSlots_keeps (fun s => (s.map r).port) (flagRecord q c) (fun k s => ?_) s
  unfold flagRecord
  split
  · split
    · rw [postSlot_map]
      split
      · rename_i e
        rw [e, State.setLease_map]
        rfl
      · rfl
    · rfl
  · rfl

theorem policyOf_above {b : Byte} (h : 1 < b.toNat) : policyOf b = none := by
  unfold policyOf
  split <;> first | omega | rfl

theorem policyOf_flag {b : Byte} (h : b.toNat ≤ 1) : policyOf b = some (if b = 1#8 then .retire else .hold) := by
  obtain rfl | rfl : b = 0#8 ∨ b = 1#8 := by
    rcases Nat.le_one_iff_eq_zero_or_eq_one.mp h with h | h
    · exact .inl (BitVec.eq_of_toNat_eq h)
    · exact .inr (BitVec.eq_of_toNat_eq h)
  all_goals rfl

/-- A number of two argument bytes gives the bytes back. -/
theorem b2_bytes (x y : Byte) : b2 (x.toNat * 256 + y.toNat) = [x, y] := by
  have hx := x.isLt
  have hy := y.isLt
  simp only [b2]
  congr 1
  · apply BitVec.eq_of_toNat_eq
    simp only [BitVec.toNat_ofNat]
    omega
  · congr 1
    apply BitVec.eq_of_toNat_eq
    simp only [BitVec.toNat_ofNat]
    omega

theorem bSet_bytes (x y : Byte) : bSet (x ++ y) = [x, y] := by
  rw [bSet, ← b2_bytes, BitVec.toNat_append, ← Nat.shiftLeft_add_eq_or_of_lt (BitVec.isLt _), Nat.shiftLeft_eq]

/-- The charter that the argument bytes give. -/
def argCharter (a : Args) : Charter :=
  ⟨argSet a 0x05, argNat a 0x07, argWord a 0x08, argNat a 0x0A, argNat a 0x0B, argByte a 0x0C == 1#8,
    argByte a 0x0D == 1#8, if argByte a 0x0E = 1#8 then .retire else .hold⟩

/-- The argument bytes of a charter in bounds (R139). -/
structure CharterArgs (a : Args) : Prop where
  limit : argNat a 0x07 ≤ 24
  termLow : 0 < argWord a 0x08
  termHigh : argWord a 0x08 ≤ 6000
  grace : argNat a 0x0A ≤ 200
  pin : argNat a 0x0C ≤ 1
  guard : argNat a 0x0D ≤ 1
  policy : argNat a 0x0E ≤ 1

theorem CharterArgs.noFaults {a : Args} (h : CharterArgs a) : (charterFaults a).any id = false := by
  have h₀ := h.termLow
  simp [charterFaults, Config.maxLeases, Config.maxUnits, Config.maxGrace, badFlag_eq h.pin, badFlag_eq h.guard,
    Nat.not_lt.mpr h.limit, Nat.not_lt.mpr h.termHigh, Nat.not_lt.mpr h.grace, Nat.pos_iff_ne_zero.mp h₀]

theorem CharterArgs.charter {a : Args} (h : CharterArgs a) :
    charterOf a (if argByte a 0x0E = 1#8 then .retire else .hold) = argCharter a := by
  simp only [charterOf, argCharter, flagOf_eq h.pin, flagOf_eq h.guard]

/-- The charter reads back in the bytes it was given in. -/
theorem CharterArgs.bytes {a : Args} (h : CharterArgs a) : charterBytes (argCharter a)
    = [argByte a 0x05, argByte a 0x06, argByte a 0x07, argByte a 0x08, argByte a 0x09, argByte a 0x0A, argByte a 0x0B,
        argByte a 0x0C, argByte a 0x0D, argByte a 0x0E] := by
  have hpolicy : BitVec.ofNat 8 (argCharter a).policy.code = argByte a 0x0E := by
    have hb := h.policy
    rw [FaultPolicy.code_byte]
    obtain e | e : argByte a 0x0E = 0#8 ∨ argByte a 0x0E = 1#8 := by
      rcases Nat.le_one_iff_eq_zero_or_eq_one.mp hb with h | h
      · exact .inl (BitVec.eq_of_toNat_eq h)
      · exact .inr (BitVec.eq_of_toNat_eq h)
    all_goals simp [argCharter, e]
  have hset : bSet (argCharter a).lines = [argByte a 0x05, argByte a 0x06] := bSet_bytes ..
  have hterm : b2 (argCharter a).maxTerm = [argByte a 0x08, argByte a 0x09] := b2_bytes ..
  unfold charterBytes
  rw [hset, hterm]
  simp only [b1, bFlag, hpolicy]
  simp only [argCharter, argNat, byte_toNat, flag_byte h.pin, flag_byte h.guard, List.cons_append, List.nil_append]

section
variable {s : State} {q : Port}

/-- The state of SET_CHARTER before the queue is examined. -/
def charterWritten (q : Port) (s : State) : State := writeCharter q (argCharter (s.args 0)) (s.take 0)

/-- The answer of SET_CHARTER. -/
def charterReply (q : Port) (s : State) : Reply :=
  Reply.ok (charterBytes (argCharter (s.args 0)) ++ b1 (countFlagged q (argCharter (s.args 0)) (s.take 0))
    ++ b1 (scanCounted (charterWritten q s)).2)

theorem setCharterBody_passed (hq : argNat (s.args 0) 0x04 = q.val) (h : CharterArgs (s.args 0)) :
    setCharterBody 0 (s.take 0) = (endStepScan (s.take 0) (charterWritten q s), charterReply q s) := by
  have hport : portOf (argByte (s.args 0) 0x04) = some q := portOf_eq_some hq
  simp only [setCharterBody, State.take_args, hport, policyOf_flag h.policy, h.charter, h.noFaults]
  rfl

theorem setCharterBody_bad
    (h : 3 < argNat (s.args 0) 0x04 ∨ 24 < argNat (s.args 0) 0x07 ∨ argWord (s.args 0) 0x08 = 0
      ∨ 6000 < argWord (s.args 0) 0x08 ∨ 200 < argNat (s.args 0) 0x0A ∨ 1 < argNat (s.args 0) 0x0C
      ∨ 1 < argNat (s.args 0) 0x0D ∨ 1 < argNat (s.args 0) 0x0E) :
    setCharterBody 0 (s.take 0) = refuse (s.take 0) .badArgument := by
  cases hp : portOf (argByte (s.args 0) 0x04) with
  | none => simp [setCharterBody, hp]
  | some q =>
    cases hf : policyOf (argByte (s.args 0) 0x0E) with
    | none => simp [setCharterBody, hp, hf]
    | some policy =>
      have hbad : (charterFaults (s.args 0)).any id = true := by
        unfold charterFaults
        simp only [List.any_cons, List.any_nil, id, Bool.or_eq_true, Bool.or_false, decide_eq_true_eq, beq_iff_eq]
        rcases h with h | h | h | h | h | h | h | h
        · rw [portOf_above h] at hp
          cases hp
        · exact .inl h
        · exact .inr (.inl h)
        · exact .inr (.inr (.inl h))
        · exact .inr (.inr (.inr (.inl h)))
        · exact .inr (.inr (.inr (.inr (.inl (badFlag_above h)))))
        · exact .inr (.inr (.inr (.inr (.inr (badFlag_above h)))))
        · rw [policyOf_above h] at hf
          cases hf
      simp [setCharterBody, hp, hf, hbad]

theorem charterWritten_charter (q r : Port) (s : State) :
    (charterWritten q s).charter r = if r = q then argCharter (s.args 0) else s.charter r := by
  have h := (kept_writeCharter q (argCharter (s.args 0)) (s.take 0)).charters
  rw [State.charter, charterWritten, h]
  exact vget_vset ..

theorem charterWritten_queue (q : Port) (s : State) : (charterWritten q s).queue = s.queue := by
  simp only [charterWritten, writeCharter, flagRecords, postPort_frame]
  exact forSlots_keeps State.queue (flagRecord q (argCharter (s.args 0))) (fun k s => (flagRecord_rest ..).1) _

theorem charterWritten_arrivals (q : Port) (s : State) : (charterWritten q s).arrivals = s.arrivals := by
  simp only [charterWritten, writeCharter, flagRecords, postPort_frame]
  exact forSlots_keeps State.arrivals (flagRecord q (argCharter (s.args 0))) (fun k s => (flagRecord_rest ..).2.1) _

theorem charterWritten_reports (q : Port) (s : State) : (charterWritten q s).reports = s.reports := by
  simp only [charterWritten, writeCharter, flagRecords, postPort_frame]
  exact forSlots_keeps State.reports (flagRecord q (argCharter (s.args 0))) (fun k s => (flagRecord_rest ..).2.2) _

theorem charterWritten_port (q : Port) (s : State) :
    ((charterWritten q s).map q).port = (s.map q).port ||| PortKind.charterChanged := by
  rw [charterWritten, writeCharter, postPort_map, if_pos rfl]
  exact congrArg (· ||| PortKind.charterChanged) (flagRecords_port ..)

theorem charterWritten_at {k : Slot} {l : Lease} (hk : s.lease k = some l) :
    (charterWritten q s).lease k = some { l with
        outOfCharter := l.outOfCharter || (decide (l.holder = q) && !fits (argCharter (s.args 0)) l) }
      ∧ (narrows q (argCharter (s.args 0)) l = true →
          Holds (charterWritten q s) l.holder k (s.handle k).gen SlotKind.charterNarrowed) := by
  obtain ⟨hl, -, hh⟩ := flagRecords_at (q := q) (c := argCharter (s.args 0))
    (s := { s.take 0 with charters := vset (s.take 0).charters q (argCharter (s.args 0)) }) hk
  refine ⟨?_, fun hn => ?_⟩
  · rw [charterWritten, writeCharter, postPort_lease]
    exact hl
  · have := hh hn
    unfold Holds at this ⊢
    rw [charterWritten, writeCharter, postPort_map]
    split
    · rename_i e
      rw [e] at this
      rw [kindsFor_postPort]
      exact this
    · exact this

end

/-- Settles O37. -/
theorem setCharter : Obligations.SetCharter := by
  intro s a ht
  have he := exec_setCharter 0 s
  refine ⟨fun h => refuses he ht (setCharterBody_bad h), fun q hq h₁ h₂ h₃ h₄ h₅ h₆ h₇ => ?_⟩
  have hargs : CharterArgs (s.args 0) := ⟨h₁, h₂, h₃, h₄, h₅, h₆, h₇⟩
  have hb := setCharterBody_passed hq hargs
  have hkept := kept_setCharterBody 0 (s.take 0)
  rw [hb] at hkept
  have hans := answers_complete (s := s) (p := 0) (charterReply q s) hkept.windows hkept.served
  have hend := endStepScan_keeps (s.take 0) (charterWritten q s)
  have hcharter : ∀ r, (endStepScan (s.take 0) (charterWritten q s)).charter r
      = if r = q then argCharter (s.args 0) else s.charter r := fun r => by
    rw [endStepScan_charter, charterWritten_charter]
  have hself : (endStepScan (s.take 0) (charterWritten q s)).charter q = argCharter (s.args 0) := by
    rw [hcharter, if_pos rfl]
  have hqueue : (endStepScan (s.take 0) (charterWritten q s)).queue = (scan (charterWritten q s)).queue := by
    rw [endStepScan, (same_restartChecks ..).queue]
  have hmap : ∀ r, (endStepScan (s.take 0) (charterWritten q s)).map r = (scan (charterWritten q s)).map r := fun r => by
    rw [endStepScan, restartChecks_map]
  refine ⟨_, command_next he ht hb, hans.status, ?_, fun r hr => ?_, ?_, fun k l hk => ?_, fun e hq' hp => ?_,
    fun i hi => ?_, ?_, ?_, ?_, ?_⟩
  · rw [State.complete_charter, hself]
    rfl
  · rw [State.complete_charter, hcharter, if_neg hr]
  · rw [State.complete_map, (hend.subjects q).1, charterWritten_port]
  · obtain ⟨hl, hn⟩ := charterWritten_at (q := q) hk
    have hsome : ((charterWritten q s).lease k).isSome := by simp [hl]
    rw [State.complete_lease, State.complete_charter, hend.lease k hsome, hl, hself]
    refine ⟨rfl, fun hh hf ho => ?_⟩
    have hheld := hend.holds hsome (hn (by simp [narrows, hh, hf, ho]))
    unfold Holds at hheld ⊢
    rw [State.complete_map]
    rw [hh] at hheld
    exact hheld
  · have hperm : permits ((charterWritten q s).charter e.port) e.request = false := by
      rw [State.complete_charter, endStepScan_charter] at hp
      exact hp
    obtain ⟨hout, y, hy, hh⟩ := scan_refuses (by rw [charterWritten_queue]; exact hq') hperm
    refine ⟨?_, y, ?_, hh⟩
    · rw [State.complete_queue, hqueue]
      exact hout
    · rw [State.complete_map, hmap]
      exact hy
  · rw [hans.byte i (by omega)]
    simp only [charterReply, Reply.ok, hargs.bytes]
    interval_cases i <;> rfl
  · have := hans.byte 10 (by decide)
    rw [show 0x2E = 0x24 + 10 from rfl, this]
    simp only [charterReply, Reply.ok, hargs.bytes, State.complete_charter, hself]
    simp only [List.cons_append, List.nil_append, b1, countFlagged, List.countP_eq_length_filter]
    rfl
  · have := hans.byte 11 (by decide)
    rw [show 0x2F = 0x24 + 11 from rfl, this]
    simp only [charterReply, Reply.ok, hargs.bytes, State.complete_charter, endStepScan_charter, scanCounted_refused,
      charterWritten_queue]
    rfl
  · refine hkept.engineKept_charters ?_ _
    exact (endStepScan_frame ..).2.1.trans (charterWritten_arrivals q s)
  · rw [State.complete_reports]
    have : (endStepScan (s.take 0) (charterWritten q s)).reports = (charterWritten q s).reports := by
      simp only [endStepScan_frame]
    rw [this, charterWritten_reports]

end Sys2Proof.Machine

/-! PROOFS. The reports of edges, faults, finished patterns and lines at rest: O46, O47 and O49. -/

namespace Sys2Proof.Machine

/-! ## The report that a row takes (R136) -/

theorem takeFirst_of {test : Report → Bool} {sort : Report → Prop} (ht : ∀ x, test x = true ↔ sort x) {s : State}
    {r : Report} {rest : List Report} (h : NextReport s sort r rest) (hr : sort r) :
    takeFirst test s.reports = some (r, rest) := by
  obtain ⟨older, younger, hs, rfl, hold⟩ := h
  rw [hs]
  clear hs
  induction older with
  | nil => simp [takeFirst, (ht r).mpr hr]
  | cons x older ih =>
    have hx : ¬ test x = true := fun hx => hold x (by simp) ((ht x).mp hx)
    simp [takeFirst, hx, ih fun y hy => hold y (by simp [hy])]

section
variable {s : State} {n : Line} {rest : List Report}

theorem takeFirst_line {r : Report} (h : NextReport s (fun r => r.line? = some n) r rest) (hr : r.line? = some n) :
    takeFirst (fun r => r.line? = some n) s.reports = some (r, rest) :=
  takeFirst_of (fun _ => by simp) h hr

theorem exec_edgeReport {h : Handle} {v : Level} (hn : NextReport s (fun r => r.line? = some n) (.edge h n v) rest) :
    exec (.edgeReport n) s = .next (edgeEffect h n v { s with reports := rest }) := by
  have : exec (.edgeReport n) s = execEdgeReport n s := rfl
  simp only [this, execEdgeReport, takeFirst_line hn rfl]

theorem exec_faultReport {h : Handle} (hn : NextReport s (fun r => r.line? = some n) (.fault h n) rest) :
    exec (.faultReport n) s = .next (endStep { s with reports := rest } (faultEffect h n { s with reports := rest })) := by
  have : exec (.faultReport n) s = execFaultReport n s := rfl
  simp only [this, execFaultReport, takeFirst_line hn rfl]

theorem exec_restFaultReport (hn : NextReport s (fun r => r.line? = some n) (.restFault n) rest) :
    exec (.restFaultReport n) s = .next (postLine n { s with reports := rest }) := by
  have : exec (.restFaultReport n) s = execRestFaultReport n s := rfl
  simp only [this, execRestFaultReport, takeFirst_line hn rfl]

theorem exec_patternDoneReport {k : Slot} {h : Handle} (hk : h.slot = k)
    (hn : NextReport s (fun r => ∃ g, r = .patternDone g ∧ g.slot = k) (.patternDone h) rest) :
    exec (.patternDoneReport k) s = .next (patternDoneEffect h { s with reports := rest }) := by
  have hexec : exec (.patternDoneReport k) s = execPatternDoneReport k s := rfl
  have htake := takeFirst_of
    (test := fun r => match r with | .patternDone h => decide (h.slot = k) | _ => false)
    (fun x => by cases x <;> simp) hn ⟨h, rfl, hk⟩
  rw [hexec]
  unfold execPatternDoneReport
  split <;> rename_i heq <;> cases heq.symm.trans htake
  rfl

end

/-! ## The record that a handle names -/

theorem named_of {s : State} {h : Handle} {l : Lease} (hl : s.lease h.slot = some l) (hh : s.handle h.slot = h) :
    named s h = some l := (if_pos hh).trans hl

/-- A slot post by a row of the engine, on a state whose maps and handles are those of `s`. -/
theorem posts_post {s u : State} {q : Port} {k : Slot} {kind : KindSet} {d : Detail} (hm : u.maps = s.maps)
    (hh : u.handle k = s.handle k) : PostedTo s (postSlot q k kind d u) q k kind
      ∧ MapKept s (postSlot q k kind d u) q k ∧ ∀ r, r ≠ q → (postSlot q k kind d u).map r = s.map r := by
  have hmap : ∀ r, u.map r = s.map r := fun r => by simp [State.map, hm]
  refine ⟨postedTo_postSlot (hmap q) hh rfl, mapKept_postSlot (hmap q) rfl, fun r hr => ?_⟩
  rw [postSlot_map, if_neg hr, hmap]

/-! ## EDGE_REPORT (R113, R114) -/

section
variable {s : State} {h : Handle} {n : Line} {v : Level} {l : Lease} {pull : Pull} {rising falling changed : LineSet}

theorem edgeEffect_joins (hl : s.lease h.slot = some l) (hh : s.handle h.slot = h) (hv : l.state.live = true)
    (hp : l.params = .watch pull rising falling changed) (hq : (if v then has rising n else has falling n) = true) :
    edgeEffect h n v s
      = (if changed = 0#16 then postSlot l.holder h.slot SlotKind.edge .none else id)
          (s.setLease h.slot { l with params := .watch pull rising falling (changed ||| single n) }) := by
  have hqual : qualifies l.params n v = true := by rw [hp]; exact hq
  unfold edgeEffect
  rw [named_of hl hh]
  dsimp only
  rw [if_pos ⟨hv, hqual⟩, hp]
  by_cases hc : changed = 0#16
  · simp [hc, KindParams.changed, KindParams.setChanged]
  · simp [hc, KindParams.changed, KindParams.setChanged]

theorem edgeEffect_discards (h' : ∀ l, s.lease h.slot = some l → s.handle h.slot = h → l.state.live = true →
    qualifies l.params n v = false) : edgeEffect h n v s = s := by
  unfold edgeEffect
  split
  · rename_i m hm
    obtain ⟨hh, hl⟩ := named_some hm
    exact if_neg fun ⟨hv, hq⟩ => by simp [h' m hl hh hv] at hq
  · rfl

end

/-- Settles O46. -/
theorem edgeReport : Obligations.EdgeReport := by
  intro s n h v rest hnext
  have hexec := exec_edgeReport hnext
  refine ⟨fun l pull rising falling changed hl hh hv hp hq => ⟨_, hexec, ?_⟩, fun hno => ?_⟩
  · rw [edgeEffect_joins (s := { s with reports := rest }) hl hh hv hp hq]
    by_cases hc : changed = 0#16
    · rw [if_pos hc]
      refine ⟨by simp, by simp [State.setLease_lease], fun j hj => ?_, fun j => ?_, fun _ => posts_post rfl ?_,
        fun h => absurd hc h, rfl⟩
      · rw [postSlot_lease]
        exact (State.setLease_lease ..).trans (if_neg hj)
      · rw [postSlot_handle]
        exact State.setLease_handle ..
      · exact State.setLease_handle ..
    · rw [if_neg hc]
      refine ⟨rfl, by simp [State.setLease_lease], fun j hj => ?_, fun j => ?_, fun h => absurd h hc, fun _ => rfl, rfl⟩
      · exact (State.setLease_lease ..).trans (if_neg hj)
      · exact State.setLease_handle ..
  · rw [hexec, edgeEffect_discards]
    intro l hl hh hv
    cases hp : l.params with
    | watch pull rising falling changed => exact hno l hl hh hv pull rising falling changed hp
    | drive _ _ _ => rfl
    | pattern _ _ => rfl
    | guard _ _ _ => rfl

/-! ## PATTERN_DONE_REPORT and REST_FAULT_REPORT (R109, R135) -/

/-- Settles O49. -/
theorem patternDoneAndRestFaultReports : Obligations.PatternDoneAndRestFaultReports := by
  refine ⟨fun s k h rest hk hnext => ?_, fun s n rest hnext => ?_⟩
  · subst hk
    have hexec := exec_patternDoneReport rfl hnext
    refine ⟨fun l hl hh hv => ⟨_, hexec, ?_⟩, fun hno => ?_⟩
    · have he : patternDoneEffect h { s with reports := rest }
          = postSlot l.holder h.slot SlotKind.patternDone .none { s with reports := rest } := by
        unfold patternDoneEffect
        rw [named_of (s := { s with reports := rest }) hl hh]
        exact if_pos hv
      rw [he]
      obtain ⟨h₁, h₂, h₃⟩ := posts_post (s := s) (u := { s with reports := rest }) (q := l.holder) (k := h.slot)
        (kind := SlotKind.patternDone) (d := .none) rfl rfl
      exact ⟨by simp, h₁, h₂, h₃, rfl⟩
    · rw [hexec]
      unfold patternDoneEffect
      split
      · rename_i m hm
        obtain ⟨hh, hl⟩ := named_some hm
        rw [if_neg (by simp [hno m hl hh])]
      · rfl
  · refine ⟨_, exec_restFaultReport hnext, by simp [postLine], ?_, ?_, fun q hq => ?_, rfl⟩
    · simp only [postLine, State.setMap_map, if_pos]
      rfl
    · simp only [postLine, State.setMap_map, if_pos]
      rfl
    · simp only [postLine, State.setMap_map, if_neg hq]
      rfl

/-! ## Steps that retire a lease (R59) -/

/-- A kind of the record stays through a retirement. -/
theorem retire_holds {u : State} {q : Port} {k j : Slot} {kind : KindSet} (r : CloseReason) {gen : Byte}
    (hg : (u.handle k).gen = gen) (h : Holds u q k gen kind) : Holds (retire j r u) q k gen kind := by
  have hmap : (retire j r u).map q = u.map q ∨ (retire j r u).map q = (withdrawOffer j u).map q := by
    unfold retire
    split
    · split
      · exact .inr (by simp)
      · exact .inl rfl
    · exact .inl rfl
  have hoffer : Holds (withdrawOffer j u) q k gen kind := by
    unfold withdrawOffer
    split
    · split
      · refine holds_postSlot (u := endOffer j u) ?_ (fun e => ?_) rfl
        · unfold Holds at h ⊢
          simpa using h
        · simpa [e] using hg
      all_goals exact h
    · exact h
  rcases hmap with e | e
  · unfold Holds at h ⊢
    rwa [e]
  · unfold Holds at hoffer ⊢
    rwa [e]

section
variable {s v b : State}

theorem endStep_engineKept (h : Kept s v) (ha : v.arrivals = s.arrivals) : EngineKept s (endStep b v) := by
  have hk := kept_endStep b h
  exact ⟨hk.profiles, hk.patChans, hk.guardChans, hk.buses, hk.rstn, by simp [ha], hk.pending⟩

theorem endStep_hostSide (h : Kept s v) : HostSideKept s (endStep b v) := by
  have hk := kept_endStep b h
  exact ⟨hk.windows, hk.served, hk.charters⟩

/-- The fault set of a retiring lease is emptied, whatever it was. -/
theorem Retired.faults {t : State} {k : Slot} {l : Lease} {x : LineSet} {r : CloseReason}
    (h : Retired s t k { l with faults := x } r) : Retired s t k l r :=
  ⟨h.record, h.handle, h.lines, h.settling, h.offer, h.pattern, h.guard⟩

end

/-! ## FAULT_REPORT (R117 to R119) -/

/-- The line joins the fault set and LINE_FAULT is posted. -/
def faulted (k : Slot) (n : Line) (l : Lease) (s : State) : State :=
  postSlot l.holder k SlotKind.lineFault .none (s.setLease k { l with faults := l.faults ||| single n })

section
variable {s : State} {h : Handle} {n : Line} {l : Lease}

theorem faultEffect_joins (hl : s.lease h.slot = some l) (hh : s.handle h.slot = h) (hv : l.state.live = true)
    (hn : has l.lines n = true) (hf : has l.faults n = false) : faultEffect h n s
      = if (s.charter l.holder).policy = .retire ∧ l.term.isSome then retire h.slot .fault (faulted h.slot n l s)
        else faulted h.slot n l s := by
  unfold faultEffect
  rw [named_of hl hh]
  dsimp only
  rw [if_pos ⟨hv, hn, by simp [hf]⟩]
  simp [faulted]

theorem faultEffect_discards (h' : s.lease h.slot = some l → s.handle h.slot = h → l.state.live = true →
    has l.lines n = true → has l.faults n = true) (hl : named s h = some l ∨ named s h = none) :
    faultEffect h n s = s := by
  unfold faultEffect
  rcases hl with e | e
  · obtain ⟨hh, hl⟩ := named_some e
    rw [e]
    exact if_neg fun ⟨hv, hn, hf⟩ => hf (h' hl hh hv hn)
  · rw [e]

theorem faulted_changed {k : Slot} (hl : s.lease k = some l) :
    RecordChanged s (faulted k n l s) k l { l with faults := l.faults ||| single n } := by
  refine ⟨hl, ?_, fun j hj => ?_, rfl⟩
  · simp [faulted, State.setLease_lease]
  · simp [faulted, State.setLease_lease, hj]

/-- A fault by itself triggers no scan. -/
theorem endStep_faulted {k : Slot} (hl : s.lease k = some l) :
    endStep s (faulted k n l s) = restartChecks s (faulted k n l s) := by
  have hstill : Still s (faulted k n l s) :=
    ((calm_setLease hl (alike_faults l (l.faults ||| single n))).trans (calm_postSlot ..)).still
  rw [endStep, hstill.notTriggered fun p hp => by rwa [isQuiet_congr (show (faulted k n l s).portRecs = s.portRecs by simp [faulted])],
    if_neg (by simp)]

/-- The other lines show what they showed. -/
theorem faulted_cell_ne {k : Slot} (hl : s.lease k = some l) {m : Line} (hm : m ≠ n) :
    (restartChecks s (faulted k n l s)).cell m = s.cell m := by
  have hrec := faulted_changed (n := n) hl
  have hcell : (faulted k n l s).cell m = s.cell m := by simp [faulted]
  have hprof : (faulted k n l s).profile m = s.profile m := by simp [faulted]
  have happ : appliedConfig s m = appliedConfig (faulted k n l s) m :=
    hrec.applied (by simp [faulted]) (by simp [faulted]) hprof (by simp [has_or, has_single, hm]) (fun _ => rfl)
      (by rw [hcell])
  rw [restartChecks_cell_eq, if_pos ⟨happ, hrec.checked (by simp [faulted]) hprof happ⟩, hcell]

/-- A line in the fault set is at high impedance (R123). -/
theorem faulted_applied {k : Slot} (hl : s.lease k = some l) (hv : l.state.live = true) (hn : vget s.heldBy n = some k) :
    appliedConfig (faulted k n l s) n = .highImpedance := by
  have hlive : liveHolding (faulted k n l s) n = some (k, { l with faults := l.faults ||| single n }) := by
    unfold liveHolding holding
    rw [show vget (faulted k n l s).heldBy n = some k by simpa [faulted] using hn]
    dsimp only
    rw [(faulted_changed (n := n) hl).after]
    simp [Option.filter, hv]
  unfold appliedConfig
  rw [hlive]
  simp [has_or, has_single]

end

/-- Settles O47. -/
theorem faultReport : Obligations.FaultReport := by
  intro s n h rest hs hnext
  have hexec := exec_faultReport hnext
  refine ⟨fun l hl hh hv hn hf => ⟨fun hpol => ⟨_, hexec, ?_⟩, fun hpol hterm => ⟨_, hexec, ?_⟩⟩, fun hno => ?_⟩
  · have hstay : ¬((s.charter l.holder).policy = .retire ∧ l.term.isSome = true) := by
      rintro ⟨h₁, h₂⟩
      rcases hpol with h₃ | h₃
      · rw [h₁] at h₃
        cases h₃
      · simp [h₃] at h₂
    have hb : ({ s with reports := rest } : State).lease h.slot = some l := hl
    have he : faultEffect h n { s with reports := rest } = faulted h.slot n l { s with reports := rest } :=
      (faultEffect_joins (s := { s with reports := rest }) hl hh hv hn hf).trans (if_neg hstay)
    rw [he, endStep_faulted hb]
    have hrec := faulted_changed (n := n) hb
    obtain ⟨h₁, h₂, h₃⟩ := posts_post (s := s) (q := l.holder) (k := h.slot) (kind := SlotKind.lineFault) (d := .none)
      (u := ({ s with reports := rest } : State).setLease h.slot { l with faults := l.faults ||| single n }) rfl
      (State.setLease_handle ..)
    refine ⟨by simp [faulted], ?_, ?_, ?_, ?_, fun q hq => ?_, fun j hj => ?_, fun j => ?_, fun m hm => ?_, ?_, rfl⟩
    · rw [restartChecks_lease]
      exact hrec.after
    · rw [appliedConfig_restart]
      exact faulted_applied hb hv (hs.lines hl hv n hn)
    · obtain ⟨e, he, hg⟩ := h₁
      exact ⟨e, by rw [restartChecks_map]; exact he, hg⟩
    · unfold MapKept at h₂ ⊢
      rw [restartChecks_map]
      exact h₂
    · rw [restartChecks_map]
      exact h₃ q hq
    · rw [restartChecks_lease]
      exact hrec.others j hj
    · rw [restartChecks_handle]
      simp [faulted]
      rfl
    · exact faulted_cell_ne hb hm
    · have hcell : (faulted h.slot n l { s with reports := rest }).cell n = s.cell n := by
        simp [faulted]
        rfl
      rcases restartChecks_cell { s with reports := rest } (faulted h.slot n l { s with reports := rest }) n with e | e <;>
        rw [e, hcell]
  · have he : faultEffect h n { s with reports := rest }
        = retire h.slot .fault (faulted h.slot n l { s with reports := rest }) :=
      (faultEffect_joins (s := { s with reports := rest }) hl hh hv hn hf).trans
        (if_pos ⟨hpol, Option.isSome_iff_ne_none.mpr hterm⟩)
    have hkept : Kept s (faultEffect h n { s with reports := rest }) := (kept_reports s rest).trans (kept_faultEffect ..)
    rw [he] at hkept ⊢
    have hrec := faulted_changed (s := { s with reports := rest }) (n := n) (k := h.slot) hl
    have hret := retire_retired (s := faulted h.slot n l { s with reports := rest }) hrec.after hv
      (fun m hm => by simpa [faulted] using hs.lines hl hv m hm) .fault
    have hhandle : ∀ j, (faulted h.slot n l { s with reports := rest }).handle j = s.handle j := fun j => by
      simp only [faulted, postSlot_handle, State.setLease_handle]
      rfl
    have hret' : Retired s _ h.slot l .fault :=
      (hret.from_eq (hhandle _) fun m => by simp only [faulted, postSlot_profile, State.setLease_profile]; rfl).faults
    have hend := endStep_keeps { s with reports := rest } (retire h.slot .fault (faulted h.slot n l { s with reports := rest }))
    refine ⟨by simp [faulted], hret'.endKeeps hend, ?_, hend.othersKept (fun j hj => ?_) fun j => ?_,
      endStep_engineKept hkept (by simp [faulted]), endStep_hostSide hkept⟩
    · refine hend.holds (by rw [hret.record]; rfl) (retire_holds _ ?_ ?_)
      · rw [hhandle, hh]
      · unfold Holds
        rw [faulted, postSlot_map, if_pos rfl, State.setLease_handle,
          show (({ s with reports := rest } : State).handle h.slot).gen = h.gen from congrArg Handle.gen hh,
          kindsFor_postSlot, or_and_self]
    · rw [retire_lease_ne _ _ hj]
      exact hrec.others j hj
    · rw [retire_handle, hhandle]
  · rw [hexec]
    have he : faultEffect h n { s with reports := rest } = { s with reports := rest } := by
      cases hm : named { s with reports := rest } h with
      | none => unfold faultEffect; rw [hm]
      | some m => exact faultEffect_discards (hno m) (.inl hm)
    rw [he, endStep_still (.refl _) (fun _ => id) fun _ => ⟨rfl, rfl⟩]

end Sys2Proof.Machine

/-! PROOFS. SETTLE_COMPLETE: O48. -/

namespace Sys2Proof.Machine

/-! ## What a scan leaves of a slot that is not FREE -/

/-- A scan writes no line to a slot that holds a record. -/
theorem scan_heldBy_taken {s : State} {k : Slot} (hk : (s.lease k).isSome) (n : Line)
    (h : vget (scan s).heldBy n = some k) : vget s.heldBy n = some k := by
  refine (scan_invariant (fun _ u => vget u.heldBy n = some k → vget s.heldBy n = some k) id
    (fun older e rest u _ _ _ _ hu hn => hu (by simpa using hn)) (fun older e rest u he _ _ _ hb hu hn => ?_)
    fun _ _ _ _ _ _ _ _ _ hu => hu).1 h
  obtain ⟨j, hj⟩ : ∃ j, freeSlot? u = some j := (blockedBy_none hb).2.1
  rw [scanGrant_heldBy _ hj] at hn
  split at hn
  · obtain rfl : j = k := Option.some.inj hn
    have hsome := hk
    rw [← he.keeps.lease j hk, freeSlot_none hj] at hsome
    cases hsome
  · exact hu hn

/-! ## Details of a post (R153) -/

theorem reason_postSlot (m : NoticeMap) (k : Slot) (gen : Byte) (kind : KindSet) (r : CloseReason) :
    (vget (m.postSlot k gen kind (.reason r)).slots k).bind (·.reason) = some r := by
  unfold NoticeMap.postSlot
  simp only [vget_vset_self, Option.bind_some]
  cases vget m.slots k with
  | none => rfl
  | some e =>
    dsimp only
    split <;> rfl

theorem outcome_postSlot (m : NoticeMap) (k : Slot) (gen : Byte) (kind : KindSet) (o : RecallOutcome) :
    (vget (m.postSlot k gen kind (.outcome o)).slots k).bind (·.outcome) = some o := by
  unfold NoticeMap.postSlot
  simp only [vget_vset_self, Option.bind_some]
  cases vget m.slots k with
  | none => rfl
  | some e =>
    dsimp only
    split <;> rfl

/-! ## SETTLE_COMPLETE (R62) -/

section
variable {s : State} {k : Slot} {l : Lease}

theorem exec_settleComplete {h : Handle} {rest : List Report} (hk : h.slot = k)
    (hn : NextReport s (fun r => ∃ g, r = .settleComplete g ∧ g.slot = k) (.settleComplete h) rest) :
    exec (.settleComplete k) s = .next (settleEffect h { s with reports := rest }) := by
  have hexec : exec (.settleComplete k) s = execSettleComplete k s := rfl
  have htake := takeFirst_of
    (test := fun r => match r with | .settleComplete h => decide (h.slot = k) | _ => false)
    (fun x => by cases x <;> simp) hn ⟨h, rfl, hk⟩
  rw [hexec]
  unfold execSettleComplete
  split <;> rename_i heq <;> cases heq.symm.trans htake
  rfl

theorem settleEffect_retiring {h : Handle} {reason : CloseReason} (hl : s.lease h.slot = some l)
    (hh : s.handle h.slot = h) (hr : l.state = .retiring reason) :
    settleEffect h s = endStepScan s (closeRecord h.slot l reason s) := by
  unfold settleEffect
  rw [named_of hl hh]
  dsimp only
  rw [hr]

theorem settleEffect_discards {h : Handle}
    (hno : ∀ l reason, s.lease h.slot = some l → s.handle h.slot = h → l.state ≠ .retiring reason) :
    settleEffect h s = s := by
  unfold settleEffect
  split
  · rename_i m hm
    obtain ⟨hh, hl⟩ := named_some hm
    split
    · rename_i reason hr
      exact absurd hr (hno m reason hl hh)
    all_goals rfl
  · rfl

/-- The record of a lease that has settled, not by a port reset. -/
def closedLease (l : Lease) (reason : CloseReason) : Lease :=
  { l with
    state := .closed reason
    term := l.term.map fun x => ({ x with remaining := none } : Term) }

theorem closeRecord_closed {reason : CloseReason} (hr : reason ≠ .portReset) : closeRecord k l reason s
    = postSlot l.holder k SlotKind.retired (.reason reason) ((unholdLines k s).setLease k (closedLease l reason)) :=
  if_neg hr

theorem closeRecord_freed : closeRecord k l .portReset s = freeRecord k (unholdLines k s) := by
  simp [closeRecord]

theorem closeRecord_heldBy (reason : CloseReason) (n : Line) : vget (closeRecord k l reason s).heldBy n
    = if vget s.heldBy n = some k then none else vget s.heldBy n := by
  by_cases hr : reason = .portReset
  · subst hr
    rw [closeRecord_freed, (freeRecord_frame k (unholdLines k s)).2.1, unholdLines_heldBy]
  · rw [closeRecord_closed hr, (postSlot_frame ..).2.2.1]
    exact unholdLines_heldBy k s n

/-- The other records, the handles and the queue stay. -/
theorem closeRecord_others (hk : s.lease k = some l) (reason : CloseReason) :
    (∀ j, j ≠ k → (closeRecord k l reason s).lease j = s.lease j)
      ∧ (∀ j, (closeRecord k l reason s).handle j = s.handle j) ∧ (closeRecord k l reason s).queue = s.queue := by
  have hk' : (unholdLines k s).lease k = some l := (unholdLines_lease ..).trans hk
  by_cases hr : reason = .portReset
  · subst hr
    rw [closeRecord_freed]
    refine ⟨fun j hj => ?_, fun j => ?_, by simp⟩
    · rw [freeRecord_lease hk', if_neg hj, unholdLines_lease]
    · rw [freeRecord_handle, unholdLines_handle]
  · rw [closeRecord_closed hr]
    refine ⟨fun j hj => ?_, fun j => by simp, by simp⟩
    rw [postSlot_lease, State.setLease_lease, if_neg hj, unholdLines_lease]

end

/-- Settles O48. -/
theorem settleComplete : Obligations.SettleComplete := by
  intro s k h rest hk hnext
  subst hk
  have hexec := exec_settleComplete rfl hnext
  refine ⟨fun l reason hl hh hr => ⟨_, hexec, ?_⟩, fun hno => ?_⟩
  · have hkept : Kept s (settleEffect h { s with reports := rest }) := (kept_reports s rest).trans (kept_settleEffect ..)
    have hb : ({ s with reports := rest } : State).lease h.slot = some l := hl
    rw [settleEffect_retiring (s := { s with reports := rest }) hl hh hr] at hkept ⊢
    obtain ⟨hother, hhandle, hqueue⟩ := closeRecord_others hb reason
    have hheld := closeRecord_heldBy (s := { s with reports := rest }) (k := h.slot) (l := l) reason
    have hend := endStepScan_keeps { s with reports := rest } (closeRecord h.slot l reason { s with reports := rest })
    have harr : (closeRecord h.slot l reason { s with reports := rest }).arrivals = s.arrivals := by
      by_cases hr : reason = .portReset
      · subst hr
        rw [closeRecord_freed]
        simp
      · rw [closeRecord_closed hr]
        simp
    have hrep : (closeRecord h.slot l reason { s with reports := rest }).reports = rest := by
      by_cases hr : reason = .portReset
      · subst hr
        rw [closeRecord_freed]
        simp
      · rw [closeRecord_closed hr]
        simp
    refine ⟨(endStepScan_frame ..).2.2.2.2.2.2.2.1.trans hrep, hend.othersKept hother hhandle,
      ⟨hkept.profiles, hkept.patChans, hkept.guardChans, hkept.buses, hkept.rstn,
        (endStepScan_frame ..).2.1.trans harr, hkept.pending⟩,
      ⟨hkept.windows, hkept.served, hkept.charters⟩, fun x hx => ?_, fun hr => ?_, fun hr => ?_, fun hempty => ?_⟩
    · have := hend.queue.subset hx
      rw [hqueue] at this
      exact this
    · have hrec : (closeRecord h.slot l reason { s with reports := rest }).lease h.slot = some (closedLease l reason) := by
        rw [closeRecord_closed hr, postSlot_lease, State.setLease_lease, if_pos rfl]
      have hsome : ((closeRecord h.slot l reason { s with reports := rest }).lease h.slot).isSome := by
        rw [hrec]
        rfl
      have hmap : (closeRecord h.slot l reason { s with reports := rest }).map l.holder
          = (s.map l.holder).postSlot h.slot h.gen SlotKind.retired (.reason reason) := by
        rw [closeRecord_closed hr, postSlot_map, if_pos rfl, State.setLease_handle, unholdLines_handle,
          State.setLease_map, unholdLines_map]
        exact congrArg (fun x => (s.map l.holder).postSlot h.slot x SlotKind.retired (.reason reason))
          (congrArg Handle.gen hh)
      refine ⟨(hend.lease _ hsome).trans hrec, (hend.handle _ hsome).trans (hhandle _), fun n hn => ?_, ?_, ?_⟩
      · rw [endStepScan, (same_restartChecks ..).heldBy] at hn
        have := scan_heldBy_taken hsome n hn
        rw [hheld] at this
        split at this
        · cases this
        · exact absurd this ‹_›
      · refine hend.holds hsome ?_
        unfold Holds
        rw [hmap, kindsFor_postSlot, or_and_self]
      · rw [hend.entry _ _ hsome, hmap]
        exact reason_postSlot ..
    · subst hr
      have hb' : (unholdLines h.slot { s with reports := rest }).lease h.slot = some l := (unholdLines_lease ..).trans hb
      have hfree : (closeRecord h.slot l .portReset { s with reports := rest }).lease h.slot = none := by
        rw [closeRecord_freed, freeRecord_lease hb', if_pos rfl]
      have := (scan_freeSlot hfree).freed
      rw [hhandle] at this
      rw [endStepScan, restartChecks_lease, restartChecks_handle]
      rw [show ({ s with reports := rest } : State).handle h.slot = h from hh] at this
      exact this
    · have hscan : scan (closeRecord h.slot l reason { s with reports := rest })
          = closeRecord h.slot l reason { s with reports := rest } := scan_empty (hqueue.trans hempty)
      rw [endStepScan, hscan]
      refine ⟨fun n => ?_, fun hr => ?_, fun hr => ?_⟩
      · rw [(same_restartChecks ..).heldBy, hheld]
      · subst hr
        have hb' : (unholdLines h.slot { s with reports := rest }).lease h.slot = some l := (unholdLines_lease ..).trans hb
        refine ⟨?_, ?_, fun q => ?_⟩
        · rw [restartChecks_lease, closeRecord_freed, freeRecord_lease hb', if_pos rfl]
        · rw [(same_restartChecks ..).maps, closeRecord_freed, (freeRecord_frame ..).2.2.2.2.2.2.2.2.2.2.2.2.2.2.2.1]
          simp
        · rw [restartChecks_portRec, closeRecord_freed, freeRecord_portRec hb']
          simp only [unholdLines_portRec]
          split <;> rfl
      · rw [(same_restartChecks ..).portRecs, closeRecord_closed hr]
        simp
  · rw [hexec, settleEffect_discards]
    exact fun l reason hl hh => hno l reason hl hh

end Sys2Proof.Machine

/-! PROOFS. The rows of the ends: TERM_END, GRACE_END, OFFER_LAPSE, WAIT_EXPIRY and QUIET_END; O44 and O45. -/

namespace Sys2Proof.Machine

/-! ## Entry to GRACE (R47, R48) -/

section
variable {s : State} {k : Slot} {l : Lease}

/-- A live lease enters GRACE: an open offer ends, the lines and the channel are told, GRACE_ENTERED is posted. -/
def graceEntered (k : Slot) (l : Lease) (s : State) : State :=
  postSlot l.holder k SlotKind.graceEntered .none (enterGrace k l (withdrawOffer k s))

theorem enterGrace_lease (u : State) (j : Slot) :
    (enterGrace k l u).lease j = if j = k then some { l with state := .grace l.grace } else u.lease j := by
  simp [enterGrace, State.setLease_lease]

@[simp] theorem enterGrace_handle (u : State) (j : Slot) : (enterGrace k l u).handle j = u.handle j := by
  simp [enterGrace]

theorem enterGrace_cell (u : State) (n : Line) : (enterGrace k l u).cell n
    = if has l.lines n then { u.cell n with assigned := (graceLevel l.params n).or (u.cell n).assigned, mismatch := 0 }
      else u.cell n := by
  unfold enterGrace
  rw [tellGrace_cell, writeLevels_cell]
  rfl

theorem graceEntered_lease (j : Slot) : (graceEntered k l s).lease j
    = if j = k then some { l with state := .grace l.grace } else s.lease j := by
  rw [graceEntered, postSlot_lease, enterGrace_lease]
  split
  · rfl
  · exact withdrawOffer_lease_ne s ‹_›

theorem graceEntered_handle (j : Slot) : (graceEntered k l s).handle j = s.handle j := by simp [graceEntered]

theorem graceEntered_cell (n : Line) : (graceEntered k l s).cell n
    = if has l.lines n then { s.cell n with assigned := (graceLevel l.params n).or (s.cell n).assigned, mismatch := 0 }
      else s.cell n := by
  rw [graceEntered, postSlot_cell, enterGrace_cell, withdrawOffer_cell]

theorem graceEntered_inGrace (hk : s.lease k = some l) : InGrace s (graceEntered k l s) k l := by
  refine ⟨by rw [graceEntered_lease, if_pos rfl], graceEntered_handle k, ?_, fun target left hs => ?_, fun n hn => ?_,
    fun spec c hp => ?_, fun spec armed g hp => ?_⟩
  · unfold Holds
    rw [graceEntered, postSlot_map, if_pos rfl, enterGrace_handle, withdrawOffer_handle, kindsFor_postSlot, or_and_self]
  · refine holds_postSlot (u := enterGrace k l (withdrawOffer k s)) ?_ (fun _ => ?_) rfl
    · unfold Holds
      rw [enterGrace_map, withdrawOffer_handover hk hs, postSlot_map, if_pos rfl, endOffer_handle, kindsFor_postSlot,
        or_and_self]
    · rw [enterGrace_handle, withdrawOffer_handle]
  · rw [graceEntered_cell, if_pos hn]
    cases l.params <;> rfl
  · simp [graceEntered, enterGrace, tellGrace, hp, State.tellPattern]
  · simp [graceEntered, enterGrace, tellGrace, hp, State.tellGuard]

theorem withdrawOffer_only (k : Slot) (s : State) :
    { withdrawOffer k s with slots := s.slots, maps := s.maps } = s := by
  unfold withdrawOffer endOffer
  repeat' split
  all_goals rfl

theorem enterGrace_only (k : Slot) (l : Lease) (s : State) : { enterGrace k l s with
    slots := s.slots, cells := s.cells, patInbox := s.patInbox, guardInbox := s.guardInbox } = s := by
  unfold enterGrace tellGrace
  dsimp only
  split <;> rfl

theorem graceEntered_only (k : Slot) (l : Lease) (s : State) : { graceEntered k l s with
    slots := s.slots, maps := s.maps, cells := s.cells, patInbox := s.patInbox, guardInbox := s.guardInbox } = s :=
  (congrArg (fun u : State => { u with slots := s.slots, maps := s.maps, cells := s.cells, patInbox := s.patInbox,
                                       guardInbox := s.guardInbox })
    (enterGrace_only k l (withdrawOffer k s)) :).trans
    (congrArg (fun u : State => { u with cells := s.cells, patInbox := s.patInbox, guardInbox := s.guardInbox })
      (withdrawOffer_only k s))

theorem graceEntered_calm (hk : s.lease k = some l) (hl : l.state.live = true) : Calm s (graceEntered k l s) := by
  obtain ⟨m, hm, ha⟩ := withdrawOffer_alike hk
  exact (calm_withdrawOffer k s).trans ((calm_enterGrace hm ha hl).trans (calm_postSlot ..))

/-- Entry to GRACE stands when the checks restart. -/
theorem InGrace.restart {b t : State} (h : InGrace s t k l) : InGrace s (restartChecks b t) k l := by
  refine ⟨by rw [restartChecks_lease, h.record], by rw [restartChecks_handle, h.handle], ?_, fun target left hs => ?_,
    fun n hn => ?_, fun spec c hp => ?_, fun spec armed g hp => ?_⟩
  · have := h.notice
    unfold Holds at this ⊢
    rwa [restartChecks_map]
  · have := h.offer target left hs
    unfold Holds at this ⊢
    rwa [restartChecks_map]
  · rw [← h.lines n hn]
    rcases restartChecks_cell b t n with e | e
    · exact e
    · rw [e, h.lines n hn]
  · simpa using h.pattern spec c hp
  · simpa using h.guard spec armed g hp

/-- The lines of other leases show what they showed. -/
theorem graceEntered_sameLine (hk : s.lease k = some l) (hl : l.state.live = true) {n : Line}
    (hn : has l.lines n = false) : (restartChecks s (graceEntered k l s)).cell n = s.cell n := by
  have hrec : RecordChanged s (graceEntered k l s) k l { l with state := .grace l.grace } :=
    ⟨hk, by rw [graceEntered_lease, if_pos rfl], fun j hj => by rw [graceEntered_lease, if_neg hj], hl.symm ▸ rfl⟩
  have hcell : (graceEntered k l s).cell n = s.cell n := by rw [graceEntered_cell, if_neg (by simp [hn])]
  have hheld : (graceEntered k l s).heldBy = s.heldBy := by simp [graceEntered]
  have hprof : (graceEntered k l s).profile n = s.profile n := by simp [graceEntered, State.profile]
  have happ : appliedConfig s n = appliedConfig (graceEntered k l s) n :=
    hrec.applied (by simp [graceEntered]) hheld hprof rfl (fun _ => rfl) (by rw [hcell])
  rw [restartChecks_cell_eq, if_pos ⟨happ, hrec.checked hheld hprof happ⟩, hcell]

/-! ## TERM_END (R45) -/

theorem working_of {st : LeaseState} (h : st = .active ∨ ∃ q left, st = .handover q left) : st.working = true :=
  (working_iff st).mpr h

theorem termEndStep_retires (hk : s.lease k = some l) (hw : l.state.working = true) (hr : l.remaining = some 0)
    (hg : l.grace = 0) : termEndStep k s = retire k .expired s := by
  simp [termEndStep, hk, hw, hr, hg]

theorem termEndStep_grace (hk : s.lease k = some l) (hw : l.state.working = true) (hr : l.remaining = some 0)
    (hg : 0 < l.grace) : termEndStep k s = graceEntered k l s := by
  have : l.grace ≠ 0 := by omega
  simp [termEndStep, hk, hw, hr, this, graceEntered]

theorem termEndStep_idle (h : ∀ l, s.lease k = some l → l.state.working = false ∨ l.remaining ≠ some 0) :
    termEndStep k s = s := by
  unfold termEndStep
  split
  · rename_i l hk
    refine if_neg fun ⟨h₁, h₂⟩ => ?_
    rcases h l hk with e | e
    · simp [e] at h₁
    · exact e h₂
  · rfl

theorem endStep_self (s : State) : endStep s s = s := endStep_still (.refl _) (fun _ => id) fun _ => ⟨rfl, rfl⟩

/-- A row that retires a lease that holds its lines. -/
theorem retire_ends (hs : Safe s) (hk : s.lease k = some l) (hl : l.state.live = true) (r : CloseReason) :
    let t := endStep s (retire k r s)
    Retired s t k l r ∧ OthersKept s t k ∧ EngineKept s t ∧ HostSideKept s t ∧ t.reports = s.reports := by
  have hend := endStep_keeps s (retire k r s)
  exact ⟨(retire_retired hk hl (hs.lines hk hl) r).endKeeps hend,
    hend.othersKept (fun j hj => retire_lease_ne _ _ hj) fun j => retire_handle .., endStep_engineKept (kept_retire ..) (by simp),
    endStep_hostSide (kept_retire ..), by simp⟩

end

/-- Settles O44. -/
theorem termEnd : Obligations.TermEnd := by
  intro s k hs
  have hexec : exec (.termEnd k) s = .next (endStep s (termEndStep k s)) := rfl
  refine ⟨fun l hk hw hr => ⟨fun hg => ⟨_, hexec, ?_⟩, fun hg => ⟨_, hexec, ?_⟩⟩, fun hno => ?_⟩
  · have hlive := live_of_working (working_of hw)
    have hend : endStep s (graceEntered k l s) = restartChecks s (graceEntered k l s) := by
      rw [endStep, (graceEntered_calm hk hlive).still.notTriggered, if_neg (by simp)]
      exact fun p hp => by rwa [isQuiet_congr (show (graceEntered k l s).portRecs = s.portRecs by simp [graceEntered])]
    rw [termEndStep_grace hk (working_of hw) hr hg, hend]
    refine ⟨(graceEntered_inGrace hk).restart, fun j hj _ => ⟨?_, ?_⟩, fun n hn => graceEntered_sameLine hk hlive hn, ?_⟩
    · rw [restartChecks_lease, graceEntered_lease, if_neg hj]
    · rw [restartChecks_handle, graceEntered_handle]
    · exact graceEntered_only k l s
  · rw [termEndStep_retires hk (working_of hw) hr hg]
    exact retire_ends hs hk (live_of_working (working_of hw)) .expired
  · rw [hexec, termEndStep_idle, endStep_self]
    intro l hk
    rcases hno l hk with ⟨h₁, h₂⟩ | h
    · refine .inl ?_
      rw [← Bool.not_eq_true, working_iff]
      rintro (h | ⟨q, left, h⟩)
      · exact h₁ h
      · exact h₂ q left h
    · exact .inr h

/-! ## The other ends (R38, R49, R50, R51) -/

section
variable {s : State} {k : Slot} {l : Lease}

theorem graceEndStep_zero (hk : s.lease k = some l) (hs : l.state = .grace 0) :
    graceEndStep k s = retire k .expired s := by
  simp [graceEndStep, hk, hs]

theorem offerLapseStep_zero {q : Port} (hk : s.lease k = some l) (hs : l.state = .handover q 0)
    (hr : l.remaining ≠ some 0) : offerLapseStep k s
      = postSlot l.holder k SlotKind.offerLapsed .none (s.setLease k { l with state := .active }) := by
  simp [offerLapseStep, hk, hs, hr, endOffer_handover hk hs]

/-- The end of an offer changes no configuration and triggers no scan. -/
theorem endStep_offerEnded {q target : Port} {left : Nat} {kind : KindSet} (hk : s.lease k = some l)
    (hs : l.state = .handover target left) :
    endStep s (postSlot q k kind .none (s.setLease k { l with state := .active }))
      = postSlot q k kind .none (s.setLease k { l with state := .active }) := by
  have hrec : Rewritten s (postSlot q k kind .none (s.setLease k { l with state := .active })) k l
      { l with state := .active } :=
    ⟨⟨hk, by simp [State.setLease_lease], fun j hj => by simp [State.setLease_lease, hj], by rw [hs]; rfl⟩, rfl,
      fun _ => rfl⟩
  exact endStep_still ((calm_setLease hk (live_handover hs)).trans (calm_postSlot ..)).still (fun p hp => by exact hp)
    (hrec.sameShown (by simp) (by simp) (by simp) fun n => by simp)

end

section
variable {s : State} {p : Port} {e : QueueEntry}

theorem waitExpiryStep_zero (hs : Safe s) (he : e ∈ s.queue) (hp : e.port = p) (hw : e.waitRemaining = 0) :
    waitExpiryStep p e.ticket s = postTicket e TicketKind.waitExpired (removeEntry p e.ticket s) := by
  have hfind : s.queue.find? (fun x => x.port = p && x.ticket = e.ticket) = some e := by
    cases hf : s.queue.find? (fun x => x.port = p && x.ticket = e.ticket) with
    | none =>
      rw [List.find?_eq_none] at hf
      exact absurd (by simp [hp]) (hf e he)
    | some x =>
      have hx := List.find?_some hf
      simp only [Bool.and_eq_true, decide_eq_true_eq] at hx
      rw [entry_of_key hs.waits.2.1 he (List.mem_of_find?_eq_some hf) (hx.1.trans hp.symm) hx.2]
  unfold waitExpiryStep
  rw [hfind]
  exact if_pos hw

theorem mem_removeEntry {x : QueueEntry} {ticket : Byte} :
    x ∈ (removeEntry p ticket s).queue ↔ x ∈ s.queue ∧ (x.port = p → x.ticket ≠ ticket) := by
  simp only [removeEntry, List.mem_filter, Bool.not_eq_true', Bool.and_eq_false_imp, decide_eq_true_eq,
    decide_eq_false_iff_not]

theorem EndKeeps.holdsTicket {t u : State} (a : EndKeeps t u) {ticket : Byte} {kind : KindSet}
    (h : HoldsTicket t p ticket kind) : HoldsTicket u p ticket kind := by
  obtain ⟨x, hx, h₁, h₂⟩ := h
  obtain ⟨y, hy, g₁, g₂⟩ := a.tickets p x hx
  exact ⟨y, hy, g₁.trans h₁, by rw [← h₂, ← BitVec.and_assoc, BitVec.and_comm y.kinds, g₂]⟩

theorem holdsTicket_postTicket (e : QueueEntry) (kind : KindSet) (u : State) :
    HoldsTicket (postTicket e kind u) e.port e.ticket kind := by
  unfold HoldsTicket
  rw [postTicket_map, if_pos rfl]
  exact insertTicket_self ⟨e.ticket, kind, e.arrival⟩ _

theorem EndKeeps.recordsKept {t u : State} (a : EndKeeps t u) (h : t.slots = s.slots) : RecordsKept s u := by
  intro j hj
  have hl : t.lease j = s.lease j := by simp [State.lease, h]
  have hh : t.handle j = s.handle j := by simp [State.handle, h]
  rw [← hl] at hj
  exact ⟨(a.lease j hj).trans hl, (a.handle j hj).trans hh⟩

/-- A quiet time that has ended. -/
def quietEnded (p : Port) (s : State) : State :=
  postPort p PortKind.quietEnded (s.setPortRec p { s.portRec p with quiet := none })

theorem quietEndStep_zero (h : (s.portRec p).quiet = some 0) : quietEndStep p s = quietEnded p s := by
  simp [quietEndStep, h, quietEnded]

theorem quietEnded_portRec (q : Port) : (quietEnded p s).portRec q
    = if q = p then { s.portRec p with quiet := none } else s.portRec q := by
  simp [quietEnded, State.setPortRec_portRec]

theorem quietEnded_port (q : Port) : ((quietEnded p s).map q).port
    = if q = p then (s.map p).port ||| PortKind.quietEnded else (s.map q).port := by
  rw [quietEnded, postPort_map]
  split
  · simp [NoticeMap.postPort]
  · simp

end

/-- Settles O45. -/
theorem countdownEnds : Obligations.CountdownEnds := by
  refine ⟨fun s k l hs hk => ⟨fun hg => ?_, fun q hq hr => ?_⟩, fun s p hs => ⟨fun e he hp hw => ?_, fun hq => ?_⟩⟩
  · have hexec : exec (.graceEnd k) s = .next (endStep s (graceEndStep k s)) := rfl
    rw [graceEndStep_zero hk hg] at hexec
    exact ⟨_, hexec, retire_ends hs hk (by rw [hg]; rfl) .expired⟩
  · have hexec : exec (.offerLapse k) s = .next (endStep s (offerLapseStep k s)) := rfl
    rw [offerLapseStep_zero hk hq hr, endStep_offerEnded hk hq] at hexec
    obtain ⟨h₁, h₂, h₃⟩ := posts_post (s := s) (u := s.setLease k { l with state := .active }) (q := l.holder) (k := k)
      (kind := SlotKind.offerLapsed) (d := .none) rfl (State.setLease_handle ..)
    refine ⟨_, hexec, by simp [State.setLease_lease], h₁, h₂, h₃, fun j hj => ?_, fun j => by simp, rfl⟩
    simp [State.setLease_lease, hj]
  · have hexec : exec (.waitExpiry p e.ticket) s = .next (endStep s (waitExpiryStep p e.ticket s)) := rfl
    rw [waitExpiryStep_zero hs he hp hw] at hexec
    have hend := endStep_keeps s (postTicket e TicketKind.waitExpired (removeEntry p e.ticket s))
    have hkept : Kept s (postTicket e TicketKind.waitExpired (removeEntry p e.ticket s)) := by constructor <;> simp
    refine ⟨_, hexec, fun x hx => ?_, ?_, hend.recordsKept (by simp), endStep_engineKept hkept (by simp),
      endStep_hostSide hkept, by simp⟩
    · have hx := hend.queue.subset hx
      have hx : x ∈ (removeEntry p e.ticket s).queue := by simpa using hx
      rw [mem_removeEntry] at hx
      exact ⟨hx.1, fun h => hx.2 (by rw [h, hp]) (by rw [h])⟩
    · have := hend.holdsTicket (holdsTicket_postTicket e TicketKind.waitExpired (removeEntry p e.ticket s))
      rw [hp] at this
      exact this
  · have hexec : exec (.quietEnd p) s = .next (if (s.portRec p).quiet = some 0 then endStepScan s (quietEndStep p s)
        else s) := rfl
    rw [if_pos hq, quietEndStep_zero hq] at hexec
    have hend := endStepScan_keeps s (quietEnded p s)
    have hkept : Kept s (endStepScan s (quietEnded p s)) := kept_endStepScan s (by constructor <;> simp [quietEnded])
    refine ⟨_, hexec, ?_, ?_, ?_, fun x hx => ?_, fun r hr => ⟨?_, ?_⟩, hend.recordsKept (by simp [quietEnded]),
      ⟨hkept.profiles, hkept.patChans, hkept.guardChans, hkept.buses, hkept.rstn,
        (endStepScan_frame ..).2.1.trans (by simp [quietEnded]), hkept.pending⟩,
      ⟨hkept.windows, hkept.served, hkept.charters⟩,
      (endStepScan_frame ..).2.2.2.2.2.2.2.1.trans (by simp [quietEnded])⟩
    · rw [(hend.records p).1, quietEnded_portRec, if_pos rfl]
    · rw [(hend.records p).2, quietEnded_portRec, if_pos rfl]
    · rw [(hend.subjects p).1, quietEnded_port, if_pos rfl]
    · have := hend.queue.subset hx
      simpa [quietEnded] using this
    · rw [(hend.records r).1, quietEnded_portRec, if_neg hr]
    · rw [(hend.subjects r).1, quietEnded_port, if_neg hr]

end Sys2Proof.Machine

/-! PROOFS. What the work on one slot leaves of the rest of the part. -/

namespace Sys2Proof.Machine

/-! ## Work on one slot -/

/-- What work on slot `j` leaves alone: the other records with their entries and settle records, the lines that the slot
does not hold, and the channels that its live lease does not have. -/
structure AtSlot (j : Slot) (s t : State) : Prop where
  slots : ∀ k, k ≠ j → vget t.slots k = vget s.slots k
  handle : t.handle j = s.handle j
  entry : ∀ q k, k ≠ j → vget (t.map q).slots k = vget (s.map q).slots k
  subjects : ∀ q, (t.map q).port = (s.map q).port ∧ (t.map q).lines = (s.map q).lines
    ∧ (t.map q).tickets = (s.map q).tickets
  settling : ∀ k, k ≠ j → vget t.settling k = vget s.settling k
  heldBy : t.heldBy = s.heldBy
  queue : t.queue = s.queue
  profiles : t.profiles = s.profiles
  records : ∀ q, (t.portRec q).quiet = (s.portRec q).quiet ∧ (t.portRec q).ticketCounter = (s.portRec q).ticketCounter
  cells : ∀ n, vget s.heldBy n ≠ some j → t.cell n = s.cell n
  pat : ∀ c, patOf s j ≠ some c → vget t.patInbox c = vget s.patInbox c
  guard : ∀ g, guardOf s j ≠ some g → vget t.guardInbox g = vget s.guardInbox g
  patGrows : ∀ c, vget s.patInbox c <+: vget t.patInbox c
  guardGrows : ∀ g, vget s.guardInbox g <+: vget t.guardInbox g
  patOwn : ∀ c, patOf t j = some c → patOf s j = some c
  guardOwn : ∀ g, guardOf t j = some g → guardOf s j = some g

section
variable {s t u : State} {j k : Slot} {l m : Lease}

theorem AtSlot.refl (j : Slot) (s : State) : AtSlot j s s :=
  ⟨fun _ _ => rfl, rfl, fun _ _ _ => rfl, fun _ => ⟨rfl, rfl, rfl⟩, fun _ _ => rfl, rfl, rfl, rfl, fun _ => ⟨rfl, rfl⟩,
    fun _ _ => rfl, fun _ _ => rfl, fun _ _ => rfl, fun _ => List.prefix_rfl, fun _ => List.prefix_rfl, fun _ => id,
    fun _ => id⟩

theorem AtSlot.trans (a : AtSlot j s t) (b : AtSlot j t u) : AtSlot j s u where
  slots k hk := (b.slots k hk).trans (a.slots k hk)
  handle := b.handle.trans a.handle
  entry q k hk := (b.entry q k hk).trans (a.entry q k hk)
  subjects q := ⟨(b.subjects q).1.trans (a.subjects q).1, (b.subjects q).2.1.trans (a.subjects q).2.1,
    (b.subjects q).2.2.trans (a.subjects q).2.2⟩
  settling k hk := (b.settling k hk).trans (a.settling k hk)
  heldBy := b.heldBy.trans a.heldBy
  queue := b.queue.trans a.queue
  profiles := b.profiles.trans a.profiles
  records q := ⟨(b.records q).1.trans (a.records q).1, (b.records q).2.trans (a.records q).2⟩
  cells n hn := (b.cells n (by rwa [a.heldBy])).trans (a.cells n hn)
  pat c hc := (b.pat c fun h => hc (a.patOwn c h)).trans (a.pat c hc)
  guard g hg := (b.guard g fun h => hg (a.guardOwn g h)).trans (a.guard g hg)
  patGrows c := (a.patGrows c).trans (b.patGrows c)
  guardGrows g := (a.guardGrows g).trans (b.guardGrows g)
  patOwn c h := a.patOwn c (b.patOwn c h)
  guardOwn g h := a.guardOwn g (b.guardOwn g h)

theorem AtSlot.handles (a : AtSlot j s t) (k : Slot) : t.handle k = s.handle k := by
  by_cases hk : k = j
  · rw [hk, a.handle]
  · simp only [State.handle, a.slots k hk]

theorem AtSlot.lease (a : AtSlot j s t) (hk : k ≠ j) : t.lease k = s.lease k := by
  simp only [State.lease, a.slots k hk]

/-- The record of the slot is rewritten. -/
theorem atSlot_setLease (m : Lease) (hp : ∀ c, patOf (s.setLease j m) j = some c → patOf s j = some c)
    (hg : ∀ g, guardOf (s.setLease j m) j = some g → guardOf s j = some g) : AtSlot j s (s.setLease j m) where
  slots k hk := by simp [State.setLease, vget_vset_ne _ _ hk]
  handle := by simp
  entry _ _ _ := rfl
  subjects _ := ⟨rfl, rfl, rfl⟩
  settling _ _ := rfl
  heldBy := rfl
  queue := rfl
  profiles := rfl
  records _ := ⟨rfl, rfl⟩
  cells _ _ := rfl
  pat _ _ := rfl
  guard _ _ := rfl
  patGrows _ := List.prefix_rfl
  guardGrows _ := List.prefix_rfl
  patOwn := hp
  guardOwn := hg

theorem atSlot_alike (hk : s.lease j = some l) (h : Alike l m) : AtSlot j s (s.setLease j m) := by
  have ha : AlikeSlot (s.lease j) ((s.setLease j m).lease j) := (calm_setLease hk h).still.lease j
  exact atSlot_setLease m (fun c hc => by rwa [← ha.patOf]) fun g hg => by rwa [← ha.guardOf]

/-- A post on the slot's subject. -/
theorem atSlot_postSlot (q : Port) (kind : KindSet) (d : Detail) (s : State) : AtSlot j s (postSlot q j kind d s) := by
  have hlease : ∀ k, (postSlot q j kind d s).lease k = s.lease k := fun k => by simp
  refine ⟨fun _ _ => by simp, by simp, fun r k hk => ?_, fun r => ?_, fun _ _ => by simp, by simp, by simp, by simp,
    fun _ => by simp, fun _ _ => by simp, fun _ _ => by simp, fun _ _ => by simp, fun _ => by simp, fun _ => by simp,
    fun c hc => ?_, fun g hg => ?_⟩
  · rw [postSlot_map]
    split
    · rename_i e
      rw [e]
      exact slots_postSlot_ne _ _ _ _ hk
    · rfl
  · rw [postSlot_map]
    split
    · rename_i e
      rw [e]
      exact ⟨rfl, rfl, rfl⟩
    · exact ⟨rfl, rfl, rfl⟩
  · unfold patOf at *
    rwa [hlease] at hc
  · unfold guardOf at *
    rwa [hlease] at hg

/-! ## Offers -/

theorem atSlot_endOffer (j : Slot) (s : State) : AtSlot j s (endOffer j s) := by
  cases hk : s.lease j with
  | none =>
    rw [show endOffer j s = s by simp [endOffer, hk]]
    exact .refl j s
  | some l =>
    cases hs : l.state
    case handover target left =>
      rw [endOffer_handover hk hs]
      exact atSlot_alike hk (live_handover hs)
    all_goals
      rw [show endOffer j s = s by simp [endOffer, hk, hs]]
      exact .refl j s

theorem atSlot_withdrawOffer (j : Slot) (s : State) : AtSlot j s (withdrawOffer j s) := by
  unfold withdrawOffer
  split
  · split
    · exact (atSlot_endOffer j s).trans (atSlot_postSlot ..)
    all_goals exact .refl j s
  · exact .refl j s

theorem atSlot_cancelOffer (q : Port) (j : Slot) (s : State) : AtSlot j s (cancelOffer q j s) := by
  unfold cancelOffer
  split
  · split
    · split
      · exact (atSlot_endOffer j s).trans (atSlot_postSlot ..)
      · exact .refl j s
    all_goals exact .refl j s
  · exact .refl j s

/-! ## Retirement and GRACE -/

theorem freeChannel_patInbox (params : KindParams) (s : State) (c : PatChan) :
    vget (freeChannel params s).patInbox c
      = if params.patChan = some c then vget s.patInbox c ++ [.free] else vget s.patInbox c := by
  cases params with
  | pattern spec d =>
    by_cases h : c = d
    · subst h
      simp [freeChannel, State.tellPattern, KindParams.patChan]
    · simp [freeChannel, State.tellPattern, KindParams.patChan, vget_vset_ne _ _ h, Ne.symm h]
  | drive _ _ _ | watch _ _ _ _ | guard _ _ _ => simp [freeChannel, KindParams.patChan, State.tellGuard]

theorem freeChannel_guardInbox (params : KindParams) (s : State) (g : GuardChan) :
    vget (freeChannel params s).guardInbox g
      = if params.guardChan = some g then vget s.guardInbox g ++ [.free] else vget s.guardInbox g := by
  cases params with
  | guard spec armed d =>
    by_cases h : g = d
    · subst h
      simp [freeChannel, State.tellGuard, KindParams.guardChan]
    · simp [freeChannel, State.tellGuard, KindParams.guardChan, vget_vset_ne _ _ h, Ne.symm h]
  | drive _ _ _ | watch _ _ _ _ | pattern _ _ => simp [freeChannel, KindParams.guardChan, State.tellPattern]

theorem patOf_live (hk : s.lease j = some l) (hl : l.state.live = true) : patOf s j = l.params.patChan := by
  rw [patOf_some hk, if_pos hl]

theorem guardOf_live (hk : s.lease j = some l) (hl : l.state.live = true) : guardOf s j = l.params.guardChan := by
  rw [guardOf_some hk, if_pos hl]

/-- The slot's lines start their settle countdowns and its channel is freed. -/
theorem atSlot_letGo {u : State} (hm : u.lease j = some m) (hml : m.state.live = true) (hp : m.params = l.params)
    (hh : ∀ n, has l.lines n = true → vget u.heldBy n = some j) (r : CloseReason) :
    AtSlot j u (freeChannel l.params (restLines j l.lines (u.setLease j (l.retired r)))) := by
  have hpat : patOf u j = l.params.patChan := by rw [patOf_live hm hml, hp]
  have hguard : guardOf u j = l.params.guardChan := by rw [guardOf_live hm hml, hp]
  have hlease : (freeChannel l.params (restLines j l.lines (u.setLease j (l.retired r)))).lease j
      = some (l.retired r) := by simp
  have hdead : (l.retired r).state.live = false := rfl
  refine ⟨fun k hk => ?_, by simp, fun _ _ _ => by simp, fun _ => by simp, fun k hk => ?_, by simp, by simp, by simp,
    fun _ => by simp, fun n hn => ?_, fun c hc => ?_, fun g hg => ?_, fun c => ?_, fun g => ?_, fun c hc => ?_,
    fun g hg => ?_⟩
  · simp [State.setLease, vget_vset_ne _ _ hk]
  · simp [restLines, vget_vset_ne _ _ hk]
  · have hno : ¬has l.lines n = true := fun h => hn (hh n h)
    rw [freeChannel_cell, restLines_cell, if_neg hno]
    rfl
  · rw [freeChannel_patInbox, if_neg (by rwa [← hpat])]
    simp
  · rw [freeChannel_guardInbox, if_neg (by rwa [← hguard])]
    simp
  · rw [freeChannel_patInbox]
    split <;> simp
  · rw [freeChannel_guardInbox]
    split <;> simp
  · rw [patOf_some hlease, hdead] at hc
    cases hc
  · rw [guardOf_some hlease, hdead] at hg
    cases hg

/-- A retirement is work on its slot, if the lease holds its lines. -/
theorem atSlot_retire (hs : Safe s) (j : Slot) (r : CloseReason) : AtSlot j s (retire j r s) := by
  cases hk : s.lease j with
  | none => rw [retire_free hk]; exact .refl j s
  | some l =>
    cases hl : l.state.live with
    | false => rw [retire_still hk hl]; exact .refl j s
    | true =>
      have hw := atSlot_withdrawOffer j s
      have hm : ∃ m, (withdrawOffer j s).lease j = some m ∧ m.state.live = true ∧ m.params = l.params := by
        cases hst : l.state
        case handover target left =>
          exact ⟨{ l with state := .active }, by simp [withdrawOffer, endOffer, hk, hst], rfl, rfl⟩
        all_goals exact ⟨l, by simp [withdrawOffer, hk, hst], hl, rfl⟩
      obtain ⟨m, hm, hml, hp⟩ := hm
      rw [retire_live hk hl]
      exact hw.trans (atSlot_letGo hm hml hp (fun n hn => by rw [hw.heldBy]; exact hs.lines hk hl n hn) r)

theorem tellGrace_patInbox (params : KindParams) (s : State) (c : PatChan) :
    vget (tellGrace params s).patInbox c
      = if params.patChan = some c then vget s.patInbox c ++ [.pause] else vget s.patInbox c := by
  cases params with
  | pattern spec d =>
    by_cases h : c = d
    · subst h
      simp [tellGrace, State.tellPattern, KindParams.patChan]
    · simp [tellGrace, State.tellPattern, KindParams.patChan, vget_vset_ne _ _ h, Ne.symm h]
  | drive _ _ _ | watch _ _ _ _ | guard _ _ _ => simp [tellGrace, KindParams.patChan, State.tellGuard]

theorem tellGrace_guardInbox (params : KindParams) (s : State) (g : GuardChan) :
    vget (tellGrace params s).guardInbox g
      = if params.guardChan = some g then vget s.guardInbox g ++ [.suspend] else vget s.guardInbox g := by
  cases params with
  | guard spec armed d =>
    by_cases h : g = d
    · subst h
      simp [tellGrace, State.tellGuard, KindParams.guardChan]
    · simp [tellGrace, State.tellGuard, KindParams.guardChan, vget_vset_ne _ _ h, Ne.symm h]
  | drive _ _ _ | watch _ _ _ _ | pattern _ _ => simp [tellGrace, KindParams.guardChan, State.tellPattern]

/-- Entry to GRACE is work on its slot. -/
theorem atSlot_enterGrace {u : State} (hm : u.lease j = some m) (ha : Alike m l) (hl : l.state.live = true)
    (hh : ∀ n, has l.lines n = true → vget u.heldBy n = some j) : AtSlot j u (enterGrace j l u) := by
  have hslot : AlikeSlot (u.lease j) ((enterGrace j l u).lease j) := (calm_enterGrace hm ha hl).still.lease j
  have hlive : m.state.live = true := by rw [← ha.live, hl]
  have hpat : patOf u j = l.params.patChan := by rw [patOf_live hm hlive, ← ha.pat]
  have hguard : guardOf u j = l.params.guardChan := by rw [guardOf_live hm hlive, ← ha.guard]
  refine ⟨fun k hk => ?_, by simp, fun _ _ _ => by simp, fun _ => by simp, fun k hk => by simp, by simp, by simp,
    by simp, fun _ => by simp [State.portRec], fun n hn => ?_, fun c hc => ?_, fun g hg => ?_, fun c => ?_, fun g => ?_,
    fun c hc => by rwa [← hslot.patOf], fun g hg => by rwa [← hslot.guardOf]⟩
  · simp [enterGrace, State.setLease, vget_vset_ne _ _ hk]
  · have hno : ¬has l.lines n = true := fun h => hn (hh n h)
    rw [enterGrace_cell, if_neg hno]
  · rw [enterGrace, tellGrace_patInbox, if_neg (by rwa [← hpat])]
    simp
  · rw [enterGrace, tellGrace_guardInbox, if_neg (by rwa [← hguard])]
    simp
  · rw [enterGrace, tellGrace_patInbox]
    split <;> simp
  · rw [enterGrace, tellGrace_guardInbox]
    split <;> simp

theorem atSlot_graceEntered (hs : Safe s) (hk : s.lease j = some l) (hl : l.state.live = true) :
    AtSlot j s (graceEntered j l s) := by
  obtain ⟨m, hm, ha⟩ := withdrawOffer_alike hk
  have hw := atSlot_withdrawOffer j s
  exact (hw.trans (atSlot_enterGrace hm ha hl fun n hn => by rw [hw.heldBy]; exact hs.lines hk hl n hn)).trans
    (atSlot_postSlot ..)

/-- A record that goes is work on its slot. -/
theorem atSlot_freeRecord (j : Slot) (s : State) : AtSlot j s (freeRecord j s) := by
  cases hk : s.lease j with
  | none => rw [freeRecord_none hk]; exact .refl j s
  | some l =>
    have hgone : (freeRecord j s).lease j = none := by rw [freeRecord_lease hk, if_pos rfl]
    refine ⟨fun k hj => ?_, by simp, fun _ _ _ => by simp [State.map], fun _ => by simp [State.map], fun _ _ => by simp,
      by simp, by simp, by simp, fun q => ?_, fun _ _ => by simp [State.cell], fun _ _ => by simp, fun _ _ => by simp,
      fun _ => by simp, fun _ => by simp, fun c hc => ?_, fun g hg => ?_⟩
    · rw [freeRecord_slots hk, vget_vset_ne _ _ hj]
    · rw [freeRecord_portRec hk]
      split <;> exact ⟨rfl, rfl⟩
    · rw [patOf_none hgone] at hc
      cases hc
    · rw [guardOf_none hgone] at hg
      cases hg

end

/-! ## The same, seen from another slot -/

/-- What work on other slots leaves of slot `k`. -/
structure Beside (k : Slot) (s t : State) : Prop where
  slot : vget t.slots k = vget s.slots k
  entry : ∀ q, vget (t.map q).slots k = vget (s.map q).slots k
  settling : vget t.settling k = vget s.settling k
  heldBy : t.heldBy = s.heldBy
  profiles : t.profiles = s.profiles
  cells : ∀ n, vget s.heldBy n = some k → t.cell n = s.cell n
  pat : ∀ c, patOf s k = some c → vget t.patInbox c = vget s.patInbox c
  guard : ∀ g, guardOf s k = some g → vget t.guardInbox g = vget s.guardInbox g
  patGrows : ∀ c, vget s.patInbox c <+: vget t.patInbox c
  guardGrows : ∀ g, vget s.guardInbox g <+: vget t.guardInbox g

section
variable {s t u a : State} {j k : Slot} {l : Lease} {r : CloseReason}

theorem Beside.refl (k : Slot) (s : State) : Beside k s s :=
  ⟨rfl, fun _ => rfl, rfl, rfl, rfl, fun _ _ => rfl, fun _ _ => rfl, fun _ _ => rfl, fun _ => List.prefix_rfl,
    fun _ => List.prefix_rfl⟩

theorem Beside.lease (h : Beside k s t) : t.lease k = s.lease k := by simp only [State.lease, h.slot]
theorem Beside.handle (h : Beside k s t) : t.handle k = s.handle k := by simp only [State.handle, h.slot]
theorem Beside.patOf (h : Beside k s t) : patOf t k = patOf s k := by simp only [Machine.patOf, h.lease]
theorem Beside.guardOf (h : Beside k s t) : guardOf t k = guardOf s k := by simp only [Machine.guardOf, h.lease]

theorem Beside.trans (a : Beside k s t) (b : Beside k t u) : Beside k s u where
  slot := b.slot.trans a.slot
  entry q := (b.entry q).trans (a.entry q)
  settling := b.settling.trans a.settling
  heldBy := b.heldBy.trans a.heldBy
  profiles := b.profiles.trans a.profiles
  cells n hn := (b.cells n (by rwa [a.heldBy])).trans (a.cells n hn)
  pat c hc := (b.pat c (by rwa [a.patOf])).trans (a.pat c hc)
  guard g hg := (b.guard g (by rwa [a.guardOf])).trans (a.guard g hg)
  patGrows c := (a.patGrows c).trans (b.patGrows c)
  guardGrows g := (a.guardGrows g).trans (b.guardGrows g)

theorem AtSlot.beside (h : AtSlot j s t) (hj : j ≠ k) (hs : Safe s) : Beside k s t where
  slot := h.slots k hj.symm
  entry q := h.entry q k hj.symm
  settling := h.settling k hj.symm
  heldBy := h.heldBy
  profiles := h.profiles
  cells n hn := h.cells n fun e => hj (Option.some.inj (e.symm.trans hn))
  pat c hc := h.pat c fun e => hj (hs.channels.2.1 c j k e hc)
  guard g hg := h.guard g fun e => hj (hs.channels.2.2.2 g j k e hg)
  patGrows := h.patGrows
  guardGrows := h.guardGrows

theorem Beside.holds (h : Beside k s t) {q : Port} {gen : Byte} {kind : KindSet} (hq : Holds s q k gen kind) :
    Holds t q k gen kind := by
  unfold Holds kindsFor at *
  rwa [h.entry]

/-- A retirement told from a state before work on other slots. -/
theorem Beside.retired (h : Beside k s a) (hr : Retired a t k l r) : Retired s t k l r :=
  hr.from_eq h.handle fun n => by simp only [State.profile, h.profiles]

/-- A retirement stands through work on other slots. -/
theorem Retired.beside (hr : Retired s t k l r) (h : Beside k t u) : Retired s u k l r := by
  refine ⟨by rw [h.lease, hr.record], by rw [h.handle, hr.handle], fun n hn => ?_, by rw [h.settling, hr.settling],
    fun target left e => h.holds (hr.offer target left e), fun spec c e => (h.patGrows c).subset (hr.pattern spec c e),
    fun spec armed g e => (h.guardGrows g).subset (hr.guard spec armed g e)⟩
  obtain ⟨h₁, h₂, h₃, h₄⟩ := hr.lines n hn
  rw [h.cells n h₄, h.heldBy]
  exact ⟨h₁, h₂, h₃, h₄⟩

/-- A pass of work on every slot, seen from slot `k`. -/
theorem forSlots_beside {f : Slot → State → State} (keep : ∀ j u, Safe u → Safe (f j u))
    (work : ∀ j u, Safe u → AtSlot j u (f j u)) (hs : Safe s) (k : Slot) :
    ∃ u, Safe u ∧ Beside k s u ∧ Safe (f k u) ∧ Beside k (f k u) (forSlots f s) :=
  forSlots_at (R := Beside k) (P := Safe) (.refl k) (fun a b => a.trans b) keep
    (fun j u hj hu => (work j u hu).beside hj hu) hs

end

end Sys2Proof.Machine

/-! PROOFS. RESET_PORT: O39. -/

namespace Sys2Proof.Machine

/-! ## The passes of a port reset -/

theorem atSlot_resetSlot (q : Port) (j : Slot) {s : State} (hs : Safe s) : AtSlot j s (resetSlot q j s) := by
  unfold resetSlot
  split
  · rename_i l hk
    split
    · split
      · exact atSlot_freeRecord ..
      · exact .refl j s
      all_goals
        split
        · exact (atSlot_alike hk (alike_setChanged _ _)).trans (atSlot_withdrawOffer ..)
        · exact atSlot_retire hs ..
    · exact .refl j s
  · exact .refl j s

theorem resetSlot_safe (q : Port) (j : Slot) {s : State} (hs : Safe s) : Safe (resetSlot q j s) :=
  (resetSlot_work (lost := fun _ _ => True) q j s).safe hs

theorem cancelOffer_safe (q : Port) (j : Slot) {s : State} (hs : Safe s) : Safe (cancelOffer q j s) :=
  (calm_cancelOffer q j s).still.safe hs

/-- Slot `k` through the pass that cancels the offers to a port. -/
theorem cancelOffersTo_at {s : State} (hs : Safe s) (q : Port) (k : Slot) :
    ∃ u, Safe u ∧ Beside k s u ∧ Beside k (cancelOffer q k u) (cancelOffersTo q s) := by
  obtain ⟨u, h₁, h₂, -, h₃⟩ := forSlots_beside (f := cancelOffer q) (fun j u hu => cancelOffer_safe q j hu)
    (fun j u _ => atSlot_cancelOffer q j u) hs k
  exact ⟨u, h₁, h₂, h₃⟩

section
variable {s : State} {q : Port} {k : Slot} {l : Lease}

theorem cancelOffer_idle (h : ∀ l left, s.lease k = some l → l.state ≠ .handover q left) : cancelOffer q k s = s := by
  unfold cancelOffer
  split
  · rename_i l hk
    split
    · rename_i target left hst
      exact if_neg fun (e : target = q) => h l left hk (by rw [← e]; exact hst)
    all_goals rfl
  · rfl

theorem cancelOffer_ends {left : Nat} (hk : s.lease k = some l) (hs : l.state = .handover q left) : cancelOffer q k s
    = postSlot l.holder k SlotKind.offerCancelled .none (s.setLease k { l with state := .active }) := by
  simp [cancelOffer, hk, hs, endOffer_handover hk hs]

/-- A record not offered to the port stays through the pass. -/
theorem cancelOffersTo_beside (hs : Safe s) (h : ∀ l left, s.lease k = some l → l.state ≠ .handover q left) :
    Beside k s (cancelOffersTo q s) := by
  obtain ⟨u, -, h₁, h₂⟩ := cancelOffersTo_at hs q k
  rw [cancelOffer_idle (s := u) fun l left hl => h l left (by rw [← h₁.lease, hl])] at h₂
  exact h₁.trans h₂

/-- A record offered to the port is ACTIVE again after the pass, and its holder is told. -/
theorem cancelOffersTo_ends {left : Nat} (hs : Safe s) (hk : s.lease k = some l) (hst : l.state = .handover q left) :
    (cancelOffersTo q s).lease k = some { l with state := .active } ∧ (cancelOffersTo q s).handle k = s.handle k
      ∧ Holds (cancelOffersTo q s) l.holder k (s.handle k).gen SlotKind.offerCancelled := by
  obtain ⟨u, -, h₁, h₂⟩ := cancelOffersTo_at hs q k
  have hu : u.lease k = some l := h₁.lease.trans hk
  rw [cancelOffer_ends hu hst] at h₂
  refine ⟨?_, ?_, h₂.holds ?_⟩
  · rw [h₂.lease, postSlot_lease, State.setLease_lease, if_pos rfl]
  · rw [h₂.handle, postSlot_handle, State.setLease_handle, h₁.handle]
  · unfold Holds
    rw [postSlot_map, if_pos rfl, State.setLease_handle, h₁.handle, kindsFor_postSlot, or_and_self]

end

/-! ## A pass over the records, with the offers to a port cancelled -/

section
variable {f : Slot → State → State} {s : State} {q : Port} {k : Slot} {l : Lease}
  (keep : ∀ j u, Safe u → Safe (f j u)) (work : ∀ j u, Safe u → AtSlot j u (f j u)) (hs : Safe s)
  (hk : s.lease k = some l)
include keep work hs hk

/-- A record that its own work leaves not offered to the port. -/
theorem offersCancelled_at (h : ∀ u, u.lease k = some l →
      ∀ m left, (f k u).lease k = some m → m.state ≠ .handover q left) :
    ∃ u, Safe u ∧ Beside k s u ∧ u.lease k = some l ∧ Beside k (f k u) (cancelOffersTo q (forSlots f s)) := by
  obtain ⟨u, hsafe, h₁, -, h₂⟩ := forSlots_beside keep work hs k
  have hu : u.lease k = some l := h₁.lease.trans hk
  have hsafe' : Safe (forSlots f s) := forSlots_inv Safe f keep s hs
  exact ⟨u, hsafe, h₁, hu, h₂.trans (cancelOffersTo_beside hsafe' fun m left hm => h u hu m left (by rw [← h₂.lease, hm]))⟩

/-- A record that its own work leaves as it is, and that is not offered to the port. -/
theorem offersCancelled_stays (hop : ∀ u, u.lease k = some l → f k u = u) (h : ∀ left, l.state ≠ .handover q left) :
    Beside k s (cancelOffersTo q (forSlots f s)) := by
  obtain ⟨u, -, h₁, hu, h₂⟩ := offersCancelled_at (q := q) keep work hs hk fun u hu m left hm => by
    rw [hop u hu, hu] at hm
    obtain rfl := Option.some.inj hm
    exact h left
  rw [hop u hu] at h₂
  exact h₁.trans h₂

/-- A record that its own work leaves as it is, and that is offered to the port. -/
theorem offersCancelled_ends {left : Nat} (hop : ∀ u, u.lease k = some l → f k u = u)
    (hst : l.state = .handover q left) :
    (cancelOffersTo q (forSlots f s)).lease k = some { l with state := .active }
      ∧ (cancelOffersTo q (forSlots f s)).handle k = s.handle k
      ∧ Holds (cancelOffersTo q (forSlots f s)) l.holder k (s.handle k).gen SlotKind.offerCancelled := by
  obtain ⟨u, -, h₁, -, h₂⟩ := forSlots_beside keep work hs k
  have hu : u.lease k = some l := h₁.lease.trans hk
  rw [hop u hu] at h₂
  have hhandle : (forSlots f s).handle k = s.handle k := h₂.handle.trans h₁.handle
  obtain ⟨h₃, h₄, h₅⟩ := cancelOffersTo_ends (forSlots_inv Safe f keep s hs) (h₂.lease.trans hu) hst
  rw [hhandle] at h₄ h₅
  exact ⟨h₃, h₄, h₅⟩

/-- A live lease that its own work retires. -/
theorem offersCancelled_retired {r : CloseReason} (hl : l.state.live = true)
    (hop : ∀ u, u.lease k = some l → f k u = retire k r u) :
    Retired s (cancelOffersTo q (forSlots f s)) k l r := by
  obtain ⟨u, hsafe, h₁, hu, h₂⟩ := offersCancelled_at (q := q) keep work hs hk fun u hu m left hm => by
    rw [hop u hu, retire_lease hu hl] at hm
    obtain rfl := Option.some.inj hm
    exact fun e => by cases e
  rw [hop u hu] at h₂
  exact (h₁.retired (retire_retired hu hl (hsafe.lines hu hl) r)).beside h₂

end

/-! ## The records of the port -/

/-- The reset of the records of port `q`, with the offers to it cancelled (R146). -/
def recordsReset (q : Port) (s : State) : State := cancelOffersTo q (forSlots (resetSlot q) s)

section
variable {s : State} {q : Port} {k : Slot} {l : Lease} (hs : Safe s) (hk : s.lease k = some l)
include hs hk

/-- A record that its own reset leaves not offered to the port. -/
theorem recordsReset_at (h : ∀ u, u.lease k = some l →
      ∀ m left, (resetSlot q k u).lease k = some m → m.state ≠ .handover q left) :
    ∃ u, Safe u ∧ Beside k s u ∧ u.lease k = some l ∧ Beside k (resetSlot q k u) (recordsReset q s) :=
  offersCancelled_at (fun j _ hu => resetSlot_safe q j hu) (fun j _ hu => atSlot_resetSlot q j hu) hs hk h

theorem recordsReset_retires (hq : l.holder = q) (hl : l.state.live = true) (ht : l.term ≠ none) :
    Retired s (recordsReset q s) k l .portReset := by
  refine offersCancelled_retired (fun j _ hu => resetSlot_safe q j hu) (fun j _ hu => atSlot_resetSlot q j hu) hs hk hl
    fun u hu => ?_
  have hterm : ¬l.term.isNone = true := by simpa [Option.isNone_iff_eq_none] using ht
  cases hst : l.state <;> simp_all [resetSlot, LeaseState.live]

/-- A pinned lease stays, ACTIVE, with its changed set emptied and its offer withdrawn. -/
theorem recordsReset_pinned (hq : l.holder = q) (hst : l.state = .active ∨ ∃ r left, l.state = .handover r left)
    (ht : l.term = none) :
    (recordsReset q s).lease k = some { l with state := .active, params := l.params.setChanged 0#16 }
      ∧ (recordsReset q s).handle k = s.handle k
      ∧ ∀ r left, l.state = .handover r left →
          Holds (recordsReset q s) r k (s.handle k).gen SlotKind.offerWithdrawn := by
  have hop : ∀ u, u.lease k = some l → resetSlot q k u
      = withdrawOffer k (u.setLease k { l with params := l.params.setChanged 0#16 }) := fun u hu => by
    rcases hst with e | ⟨r, left, e⟩ <;> simp [resetSlot, hu, hq, e, ht]
  have hset : ∀ u : State, (u.setLease k { l with params := l.params.setChanged 0#16 }).lease k
      = some { l with params := l.params.setChanged 0#16 } := fun u => (State.setLease_lease ..).trans (if_pos rfl)
  have hrec : ∀ u, u.lease k = some l →
      (resetSlot q k u).lease k = some { l with state := .active, params := l.params.setChanged 0#16 } := fun u hu => by
    rw [hop u hu]
    rcases hst with e | ⟨r, left, e⟩
    · have : withdrawOffer k (u.setLease k { l with params := l.params.setChanged 0#16 })
          = u.setLease k { l with params := l.params.setChanged 0#16 } := by simp [withdrawOffer, State.setLease_lease, e]
      rw [this, hset, ← e]
    · rw [withdrawOffer_handover (hset u) e, postSlot_lease, endOffer_handover (hset u) e, State.setLease_lease,
        if_pos rfl]
  obtain ⟨u, -, h₁, hu, h₂⟩ := recordsReset_at (q := q) hs hk fun u hu m left hm => by
    rw [hrec u hu] at hm
    obtain rfl := Option.some.inj hm
    exact fun e => by cases e
  refine ⟨h₂.lease.trans (hrec u hu), ?_, fun r left e => h₂.holds ?_⟩
  · rw [h₂.handle, hop u hu, withdrawOffer_handle, State.setLease_handle, h₁.handle]
  · unfold Holds
    rw [hop u hu, withdrawOffer_handover (hset u) e, postSlot_map, if_pos rfl, endOffer_handle, State.setLease_handle,
      h₁.handle, kindsFor_postSlot, or_and_self]

/-- A record that the reset leaves as it is. -/
theorem recordsReset_stays (h : (∃ r, l.state = .retiring r) ∨ l.holder ≠ q ∧ ∀ left, l.state ≠ .handover q left) :
    (recordsReset q s).lease k = some l ∧ (recordsReset q s).handle k = s.handle k := by
  have hb : Beside k s (recordsReset q s) := by
    refine offersCancelled_stays (fun j _ hu => resetSlot_safe q j hu) (fun j _ hu => atSlot_resetSlot q j hu) hs hk
      (fun u hu => ?_) fun left => ?_
    · rcases h with ⟨r, e⟩ | ⟨hne, -⟩
      · simp [resetSlot, hu, e]
      · simp [resetSlot, hu, hne]
    · rcases h with ⟨r, e⟩ | ⟨-, h⟩
      · exact fun e' => by rw [e] at e'; cases e'
      · exact h left
  exact ⟨hb.lease.trans hk, hb.handle⟩

theorem recordsReset_freed {r : CloseReason} (hq : l.holder = q) (hst : l.state = .closed r) :
    (recordsReset q s).lease k = none ∧ (recordsReset q s).handle k = s.handle k := by
  have hop : ∀ u, u.lease k = some l → resetSlot q k u = freeRecord k u := fun u hu => by simp [resetSlot, hu, hq, hst]
  have hrec : ∀ u, u.lease k = some l → (resetSlot q k u).lease k = none := fun u hu => by
    rw [hop u hu, freeRecord_lease hu, if_pos rfl]
  obtain ⟨u, -, h₁, hu, h₂⟩ := recordsReset_at (q := q) hs hk fun u hu m left hm => by
    rw [hrec u hu] at hm
    cases hm
  refine ⟨h₂.lease.trans (hrec u hu), ?_⟩
  rw [h₂.handle, hop u hu, freeRecord_handle, h₁.handle]

/-- A lease of another port that is offered to the port. -/
theorem recordsReset_offered {left : Nat} (hq : l.holder ≠ q) (hst : l.state = .handover q left) :
    (recordsReset q s).lease k = some { l with state := .active } ∧ (recordsReset q s).handle k = s.handle k
      ∧ Holds (recordsReset q s) l.holder k (s.handle k).gen SlotKind.offerCancelled :=
  offersCancelled_ends (fun j _ hu => resetSlot_safe q j hu) (fun j _ hu => atSlot_resetSlot q j hu) hs hk
    (fun u hu => by simp [resetSlot, hu, hq]) hst

end

/-! ## The rest of the reset -/

/-- The rest of a port reset: the entries leave, the map is emptied and the window cleared (R147, R148). -/
def emptied (q : Port) (u : State) : State := clearWindow q ((dropWaits q u).setMap q NoticeMap.empty)

theorem resetPortEffect_emptied (q : Port) (s : State) : resetPortEffect q s = emptied q (recordsReset q s) := by
  rw [resetPortEffect_eq, emptied, recordsReset]

theorem emptied_map (q r : Port) (u : State) :
    (emptied q u).map r = if r = q then NoticeMap.empty else u.map r := by
  have : (emptied q u).map r = ((dropWaits q u).setMap q NoticeMap.empty).map r := rfl
  rw [this, State.setMap_map]
  rfl

theorem emptied_lease (q : Port) (u : State) (k : Slot) : (emptied q u).lease k = u.lease k := rfl
theorem emptied_handle (q : Port) (u : State) (k : Slot) : (emptied q u).handle k = u.handle k := rfl
theorem emptied_queue (q : Port) (u : State) : (emptied q u).queue = u.queue.filter fun e => e.port ≠ q := rfl
theorem emptied_portRec (q r : Port) (u : State) : (emptied q u).portRec r = u.portRec r := rfl
theorem emptied_reports (q : Port) (u : State) : (emptied q u).reports = u.reports := rfl

theorem forSlots_atSlot {α : Type} (g : State → α) {f : Slot → State → State} {s : State}
    (keep : ∀ j u, Safe u → Safe (f j u)) (same : ∀ j u, Safe u → g (f j u) = g u) (hs : Safe s) :
    g (forSlots f s) = g s :=
  (forSlots_inv (fun u => Safe u ∧ g u = g s) f (fun j u hu => ⟨keep j u hu.1, (same j u hu.1).trans hu.2⟩) s ⟨hs, rfl⟩).2

/-- The queue, the quiet times and the ticket counters are not part of the reset of the records. -/
theorem recordsReset_rest {s : State} (hs : Safe s) (q : Port) : (recordsReset q s).queue = s.queue
    ∧ ((recordsReset q s).portRec q).quiet = (s.portRec q).quiet
    ∧ ((recordsReset q s).portRec q).ticketCounter = (s.portRec q).ticketCounter := by
  have key := forSlots_atSlot (fun u => (u.queue, (u.portRec q).quiet, (u.portRec q).ticketCounter))
    (f := resetSlot q) (fun j u hu => resetSlot_safe q j hu) (fun j u hu => by
      have a := atSlot_resetSlot q j hu
      rw [a.queue, (a.records q).1, (a.records q).2]) hs
  simp only [Prod.mk.injEq] at key
  refine ⟨?_, ?_, ?_⟩
  · rw [recordsReset, (cancelOffersTo_frame ..).2.2.2.2.2.1]
    exact key.1
  · simp only [recordsReset, cancelOffersTo_portRec]
    exact key.2.1
  · simp only [recordsReset, cancelOffersTo_portRec]
    exact key.2.2

theorem resetSlot_reports (q : Port) (j : Slot) (s : State) : (resetSlot q j s).reports = s.reports := by
  unfold resetSlot
  split
  · split
    · split
      · simp
      · rfl
      all_goals
        split
        · simp
        · simp
    · rfl
  · rfl

theorem recordsReset_reports (q : Port) (s : State) : (recordsReset q s).reports = s.reports := by
  rw [recordsReset, show ∀ u, (cancelOffersTo q u).reports = u.reports from fun u => by simp]
  exact forSlots_keeps State.reports (resetSlot q) (resetSlot_reports q) s

/-- A retirement stands when the map of a port goes to which the lease was not offered. -/
theorem Retired.throughEmptied {s u : State} {q : Port} {k : Slot} {l : Lease} {r : CloseReason}
    (h : Retired s u k l r) (ho : ∀ left, l.state ≠ .handover q left) : Retired s (emptied q u) k l r := by
  refine ⟨h.record, h.handle, h.lines, h.settling, fun target left e => ?_, h.pattern, h.guard⟩
  have hne : target ≠ q := fun hq => ho left (hq ▸ e)
  have := h.offer target left e
  unfold Holds at this ⊢
  rw [emptied_map, if_neg hne]
  exact this

/-- What a reset of port `q` makes of its record in slot `k`. -/
structure OwnReset (s t : State) (q : Port) (k : Slot) (l : Lease) : Prop where
  retired : l.state.live = true → l.term ≠ none → (∀ left, l.state ≠ .handover q left) → Retired s t k l .portReset
  pinned : (l.state = .active ∨ ∃ r left, l.state = .handover r left) → l.term = none →
    t.lease k = some { l with state := .active, params := l.params.setChanged 0#16 } ∧ t.handle k = s.handle k
      ∧ ∀ r left, r ≠ q → l.state = .handover r left → Holds t r k (s.handle k).gen SlotKind.offerWithdrawn
  retiring : ∀ r, l.state = .retiring r → t.lease k = some l ∧ t.handle k = s.handle k
  closed : ∀ r, l.state = .closed r → t.lease k = none ∨ (t.handle k).gen ≠ (s.handle k).gen

/-- What it makes of another port's record. -/
structure OtherReset (s t : State) (q : Port) (k : Slot) (l : Lease) : Prop where
  offered : (∃ left, l.state = .handover q left) → t.lease k = some { l with state := .active }
    ∧ Holds t l.holder k (s.handle k).gen SlotKind.offerCancelled
  kept : (∀ left, l.state ≠ .handover q left) → t.lease k = some l
  handle : t.handle k = s.handle k

section
variable {s t u b : State} {q p : Port} {k : Slot} {l : Lease}

theorem holds_emptied {r : Port} {gen : Byte} {kind : KindSet} (hr : r ≠ q) (h : Holds u r k gen kind) :
    Holds (emptied q u) r k gen kind := by
  unfold Holds at h ⊢
  rwa [emptied_map, if_neg hr]

/-- A record that stands after the reset stands after the scan. -/
theorem EndKeeps.leaseEmptied {m : Lease} (hend : EndKeeps (emptied q u) t) (h₁ : u.lease k = some m)
    (h₂ : u.handle k = s.handle k) : t.lease k = some m ∧ t.handle k = s.handle k := by
  have hsome : ((emptied q u).lease k).isSome := by
    rw [emptied_lease, h₁]
    rfl
  exact ⟨(hend.lease k hsome).trans h₁, (hend.handle k hsome).trans h₂⟩

theorem EndKeeps.holdsEmptied {m : Lease} {r : Port} {gen : Byte} {kind : KindSet} (hend : EndKeeps (emptied q u) t)
    (h₁ : u.lease k = some m) (hr : r ≠ q) (h : Holds u r k gen kind) : Holds t r k gen kind :=
  hend.holds (by rw [emptied_lease, h₁]; rfl) (holds_emptied hr h)

theorem resetPort_own (hs : Safe s) (hk : s.lease k = some l) (hq : l.holder = q) :
    OwnReset s (endStepScan b (resetPortEffect q s)) q k l := by
  rw [resetPortEffect_emptied]
  have hend := endStepScan_keeps b (emptied q (recordsReset q s))
  refine ⟨fun hl ht ho => ?_, fun hst ht => ?_, fun r hr => ?_, fun r hr => ?_⟩
  · exact ((recordsReset_retires hs hk hq hl ht).throughEmptied ho).endKeeps hend
  · obtain ⟨h₁, h₂, h₃⟩ := recordsReset_pinned hs hk hq hst ht
    obtain ⟨g₁, g₂⟩ := hend.leaseEmptied h₁ h₂
    exact ⟨g₁, g₂, fun r left hr e => hend.holdsEmptied h₁ hr (h₃ r left e)⟩
  · obtain ⟨h₁, h₂⟩ := recordsReset_stays (q := q) hs hk (.inl ⟨r, hr⟩)
    exact hend.leaseEmptied h₁ h₂
  · obtain ⟨h₁, h₂⟩ := recordsReset_freed hs hk hq hr
    have hfree := (scan_freeSlot ((emptied_lease q (recordsReset q s) k).trans h₁)).freed
    rw [emptied_handle, h₂] at hfree
    rw [endStepScan, restartChecks_lease, restartChecks_handle]
    exact hfree

theorem resetPort_other (hs : Safe s) (hk : s.lease k = some l) (hq : l.holder ≠ q) :
    OtherReset s (endStepScan b (resetPortEffect q s)) q k l := by
  rw [resetPortEffect_emptied]
  have hend := endStepScan_keeps b (emptied q (recordsReset q s))
  by_cases ho : ∃ left, l.state = .handover q left
  · obtain ⟨left, hst⟩ := ho
    obtain ⟨h₁, h₂, h₃⟩ := recordsReset_offered hs hk hq hst
    obtain ⟨g₁, g₂⟩ := hend.leaseEmptied h₁ h₂
    exact ⟨fun _ => ⟨g₁, hend.holdsEmptied h₁ hq h₃⟩, fun h => absurd hst (h left), g₂⟩
  · obtain ⟨h₁, h₂⟩ := recordsReset_stays (q := q) hs hk (.inr ⟨hq, fun left e => ho ⟨left, e⟩⟩)
    obtain ⟨g₁, g₂⟩ := hend.leaseEmptied h₁ h₂
    exact ⟨fun h => absurd h ho, fun _ => g₁, g₂⟩

/-- The records as they stand when the port's command is taken, and when another port's completes. -/
theorem OwnReset.around (h : OwnReset (s.take p) t q k l) (hslots : u.slots = t.slots) (hcells : u.cells = t.cells)
    (hheld : u.heldBy = t.heldBy) (hset : u.settling = t.settling) (hmaps : u.maps = t.maps)
    (hpat : u.patInbox = t.patInbox) (hguard : u.guardInbox = t.guardInbox) : OwnReset s u q k l := by
  have hlease : u.lease k = t.lease k := by simp only [State.lease, hslots]
  have hhandle : u.handle k = t.handle k := by simp only [State.handle, hslots]
  refine ⟨fun h₁ h₂ h₃ => ?_, fun h₁ h₂ => ?_, fun r hr => ?_, fun r hr => ?_⟩
  · exact ((h.retired h₁ h₂ h₃).to_eq hslots hcells hheld hset hmaps hpat hguard).from_eq rfl fun _ => rfl
  · obtain ⟨g₁, g₂, g₃⟩ := h.pinned h₁ h₂
    refine ⟨hlease.trans g₁, hhandle.trans g₂, fun r left hr e => ?_⟩
    have := g₃ r left hr e
    unfold Holds at this ⊢
    rwa [State.map, hmaps]
  · rw [hlease, hhandle]
    exact h.retiring r hr
  · rw [hlease, hhandle]
    exact h.closed r hr

theorem OtherReset.around (h : OtherReset (s.take p) t q k l) (hslots : u.slots = t.slots) (hmaps : u.maps = t.maps) :
    OtherReset s u q k l := by
  have hlease : u.lease k = t.lease k := by simp only [State.lease, hslots]
  have hhandle : u.handle k = t.handle k := by simp only [State.handle, hslots]
  refine ⟨fun ho => ?_, fun ho => hlease.trans (h.kept ho), hhandle.trans h.handle⟩
  obtain ⟨g₁, g₂⟩ := h.offered ho
  refine ⟨hlease.trans g₁, ?_⟩
  unfold Holds at g₂ ⊢
  rwa [State.map, hmaps]

end

/-- A scan posts to ports with waiting entries only. -/
theorem scan_otherMap {s : State} {q : Port} (h : ∀ e ∈ s.queue, e.port ≠ q) : (scan s).map q = s.map q := by
  refine (scan_invariant (fun _ u => u.map q = s.map q) rfl (fun older e rest u _ hsub hq _ hu => ?_)
    (fun older e rest u _ hsub hq _ hb hu => ?_) fun _ _ _ _ _ _ _ _ _ hu => hu).1
  all_goals have hne : q ≠ e.port := (h e (hsub.subset (by simp [hq]))).symm
  · rw [postTicket_map, if_neg hne]
    exact hu
  · obtain ⟨k, hk⟩ : ∃ k, freeSlot? u = some k := (blockedBy_none hb).2.1
    rw [scanGrant_map _ hk, if_neg hne]
    exact hu

/-! ## RESET_PORT (R145) -/

section
variable {s t b : State} {p q : Port}

/-- The state after the reset, before the completion of another port's command. -/
def portReset (q p : Port) (s : State) : State := endStepScan (s.take p) (resetPortEffect q (s.take p))

theorem resetPortStep_passed (hq : portOf (argByte (s.args p) 0x04) = some q) (ha : p = 0 ∨ q = p) :
    resetPortStep p (s.take p)
      = if q = p then portReset q p s else (portReset q p s).complete p (Reply.ok []) := by
  have hno : ¬(q ≠ p ∧ p ≠ 0) := by tauto
  simp only [resetPortStep, State.take_args, hq, if_neg hno, portReset]

theorem kept_recordsReset (q : Port) (s : State) : Kept s (recordsReset q s) :=
  (forSlots_kept (kept_resetSlot q) s).trans (kept_cancelOffersTo ..)

theorem emptied_window (q r : Port) (u : State) : (emptied q u).window r
    = if r = q then ⟨0#8, .idle, .portWasReset, (u.window q).sequence + 1#8, Vector.replicate 32 0#8,
        Vector.replicate 24 0#8⟩ else u.window r := State.setWindow_window ..

theorem portReset_window (q p r : Port) (s : State) : (portReset q p s).window r
    = if r = q then ⟨0#8, .idle, .portWasReset, (s.window q).sequence + 1#8, Vector.replicate 32 0#8,
        Vector.replicate 24 0#8⟩ else (s.take p).window r := by
  have hwin : ∀ r, (recordsReset q (s.take p)).window r = (s.take p).window r := fun r => by
    simp only [State.window, (kept_recordsReset q (s.take p)).windows]
  have hend : (portReset q p s).window r = (emptied q (recordsReset q (s.take p))).window r := by
    rw [portReset, resetPortEffect_emptied]
    simp only [State.window, endStepScan_frame]
  rw [hend, emptied_window, hwin, hwin]
  split
  · rw [State.take_window]
    split <;> simp_all
  · rfl

/-- The engine's own part through the emptying and the scan. -/
theorem Kept.reset (h : Kept s t) (ha : t.arrivals = s.arrivals) : EngineKept s (endStepScan b (emptied q t))
    ∧ (endStepScan b (emptied q t)).charters = s.charters
    ∧ (endStepScan b (emptied q t)).lastServed = s.lastServed := by
  obtain ⟨f₁, f₂, f₃, f₄, -, f₆, f₇, -, -, f₁₀, f₁₁, f₁₂⟩ := endStepScan_frame b (emptied q t)
  exact ⟨⟨f₄.trans h.profiles, f₆.trans h.patChans, f₇.trans h.guardChans, f₁₀.trans h.buses,
    f₁.trans h.rstn, f₂.trans ha, f₁₂.trans h.pending⟩, f₃.trans h.charters, f₁₁.trans h.served⟩

theorem EngineKept.taken (h : EngineKept (s.take p) t) : EngineKept s t := h
theorem EngineKept.completed (h : EngineKept s t) (r : Reply) : EngineKept s (t.complete p r) := h

theorem portReset_eq (q p : Port) (s : State) :
    portReset q p s = endStepScan (s.take p) (emptied q (recordsReset q (s.take p))) := by
  rw [portReset, resetPortEffect_emptied]

theorem portReset_engine (q p : Port) (s : State) : EngineKept s (portReset q p s)
    ∧ (portReset q p s).charters = s.charters ∧ (portReset q p s).reports = s.reports
    ∧ (portReset q p s).lastServed = p := by
  have harr : (recordsReset q (s.take p)).arrivals = (s.take p).arrivals :=
    ((forSlots_work (lost := fun _ _ => True) (resetSlot_work q) (s.take p)).trans (calm_cancelOffersTo q _).work).arrivals
  obtain ⟨h₁, h₂, h₃⟩ := (kept_recordsReset q (s.take p)).reset (b := s.take p) (q := q) harr
  rw [portReset_eq]
  refine ⟨h₁.taken, h₂, ?_, h₃⟩
  rw [(endStepScan_frame ..).2.2.2.2.2.2.2.1, emptied_reports, recordsReset_reports]
  rfl

end

/-- Settles O39. -/
theorem resetPort : Obligations.ResetPort := by
  intro p s target ht
  have hexec : exec (.resetPort p) s = .next (resetPortStep p (s.take p)) := by rw [exec_resetPort, if_pos ht]
  refine ⟨fun h => ?_, fun h hp hne => ?_, fun q hs hq ha => ?_⟩
  · have hstep : resetPortStep p (s.take p) = (s.take p).complete p (Reply.bare .badArgument) := by
      simp [resetPortStep, portOf_above (b := argByte (s.args p) 0x04) h]
    rw [hstep] at hexec
    exact ⟨_, hexec, answers_complete (Reply.bare .badArgument) rfl rfl, onlyWindow_complete _ rfl⟩
  · have hport : portOf (argByte (s.args p) 0x04) = some ⟨target, by omega⟩ := portOf_eq_some rfl
    have hother : (⟨target, by omega⟩ : Port) ≠ p := fun e => hne (congrArg Fin.val e)
    have hstep : resetPortStep p (s.take p) = (s.take p).complete p (Reply.bare .notAdmin) := by
      simp [resetPortStep, hport, hother, hp]
    rw [hstep] at hexec
    exact ⟨_, hexec, answers_complete (Reply.bare .notAdmin) rfl rfl, onlyWindow_complete _ rfl⟩
  · have hport : portOf (argByte (s.args p) 0x04) = some q := portOf_eq_some hq
    rw [resetPortStep_passed hport ha] at hexec
    have hsafe : Safe (s.take p) := (same_take s p).still.safe hs
    have hend : EndKeeps (emptied q (recordsReset q (s.take p))) (portReset q p s) := by
      rw [portReset, resetPortEffect_emptied]
      exact endStepScan_keeps ..
    obtain ⟨hengine, hcharters, hreports, hserved⟩ := portReset_engine q p s
    have hwindow := fun r => portReset_window q p r s
    obtain ⟨hqueue, hquiet, hticket⟩ := recordsReset_rest hsafe q
    have hmap : (portReset q p s).map q = NoticeMap.empty := by
      rw [portReset_eq, endStepScan, restartChecks_map, scan_otherMap, emptied_map, if_pos rfl]
      intro e he
      rw [emptied_queue, List.mem_filter] at he
      simpa using he.2
    have hwaits : ∀ e ∈ (portReset q p s).queue, e.port ≠ q := fun e he => by
      have := hend.queue.subset he
      rw [emptied_queue, List.mem_filter] at this
      simpa using this.2
    have hrec : ((portReset q p s).portRec q).quiet = (s.portRec q).quiet
        ∧ ((portReset q p s).portRec q).ticketCounter = (s.portRec q).ticketCounter :=
      ⟨(hend.records q).1.trans ((congrArg PortRec.quiet (emptied_portRec ..)).trans hquiet),
        (hend.records q).2.trans ((congrArg PortRec.ticketCounter (emptied_portRec ..)).trans hticket)⟩
    by_cases hqp : q = p
    · subst hqp
      rw [if_pos rfl] at hexec
      refine ⟨_, hexec, hengine, hcharters, hreports, hserved, hmap, hwaits, (hwindow q).trans (if_pos rfl),
        fun h => absurd rfl h, fun r hr _ => ?_, hrec.1, hrec.2, fun k l hk hl => ?_, fun k l hk hl => ?_⟩
      · rw [hwindow, if_neg hr, State.take_window, if_neg hr]
      · obtain ⟨h₁, h₂, h₃, h₄⟩ := (resetPort_own (b := s.take q) hsafe hk hl).around rfl rfl rfl rfl rfl rfl rfl
        exact ⟨h₁, h₂, h₃, h₄⟩
      · obtain ⟨h₁, h₂, h₃⟩ := (resetPort_other (b := s.take q) hsafe hk hl).around rfl rfl
        exact ⟨h₁, h₂, h₃⟩
    · rw [if_neg hqp] at hexec
      refine ⟨_, hexec, hengine.completed _, (State.complete_charters ..).trans hcharters,
        (State.complete_reports ..).trans hreports, (State.complete_lastServed ..).trans hserved, ?_,
        fun e he => hwaits e (by rwa [State.complete_queue] at he), ?_, fun _ => ?_, fun r hr hrp => ?_, ?_, ?_,
        fun k l hk hl => ?_, fun k l hk hl => ?_⟩
      · rw [State.complete_map, hmap]
      · rw [State.complete_window, if_neg hqp, hwindow, if_pos rfl]
      · rw [State.complete_window, if_pos rfl, hwindow, if_neg (Ne.symm hqp), State.take_window, if_pos rfl]
        have : padResult [] = Vector.replicate 24 0#8 := vext fun i => by simp [padResult]
        simp [Reply.ok, this]
      · rw [State.complete_window, if_neg hrp, hwindow, if_neg hr, State.take_window, if_neg hrp]
      · rw [State.complete_portRec]
        exact hrec.1
      · rw [State.complete_portRec]
        exact hrec.2
      · obtain ⟨h₁, h₂, h₃, h₄⟩ := (resetPort_own (b := s.take p) hsafe hk hl).around
          (u := (portReset q p s).complete p (Reply.ok [])) (by simp [portReset]) (by simp [portReset]) (by simp [portReset])
          (by simp [portReset]) (by simp [portReset]) (by simp [portReset]) (by simp [portReset])
        exact ⟨h₁, h₂, h₃, h₄⟩
      · obtain ⟨h₁, h₂, h₃⟩ := (resetPort_other (b := s.take p) hsafe hk hl).around
          (u := (portReset q p s).complete p (Reply.ok [])) (by simp [portReset]) (by simp [portReset])
        exact ⟨h₁, h₂, h₃⟩

end Sys2Proof.Machine

/-! PROOFS. FIRE_REPORT: O50. -/

namespace Sys2Proof.Machine

/-! ## The report -/

section
variable {s : State} {k : Slot} {l : Lease} {h : Handle} {carried : Bool} {rest : List Report}

theorem exec_fireReport (hk : h.slot = k)
    (hn : NextReport s (fun r => ∃ g c, r = .fire g c ∧ g.slot = k) (.fire h carried) rest) :
    exec (.fireReport k) s = .next (endStep { s with reports := rest } (fireEffect h carried { s with reports := rest })) := by
  have hexec : exec (.fireReport k) s = execFireReport k s := rfl
  have htake := takeFirst_of
    (test := fun r => match r with | .fire h _ => decide (h.slot = k) | _ => false)
    (fun x => by cases x <;> simp) hn ⟨h, carried, rfl, hk⟩
  rw [hexec]
  unfold execFireReport
  split <;> rename_i heq <;> cases heq.symm.trans htake
  rfl

/-- The recall of a guard that is ACTIVE is carried out. -/
theorem fireEffect_recalls {spec : GuardSpec} {armed : Bool} {g : GuardChan} {r : Recall} (hl : s.lease h.slot = some l)
    (hh : s.handle h.slot = h) (ha : l.state = .active) (hp : l.params = .guard spec armed g)
    (hr : spec.recallSpec = some r) : fireEffect h true s
      = postSlot l.holder h.slot SlotKind.guardFired (.outcome .done) (recallPort r.target r.quietTime s) := by
  have hact : l.state.isActive = true := (isActive_iff _).mpr ha
  simp [fireEffect, named_of hl hh, hp, hact, hr]

/-- Without a recall, or in another state, only the notice is posted. -/
theorem fireEffect_posts (hl : s.lease h.slot = some l) (hh : s.handle h.slot = h)
    (hc : carried = false ∨ (l.state ≠ .active ∧ l.params.code = 3)) : fireEffect h carried s
      = postSlot l.holder h.slot SlotKind.guardFired (.outcome (if carried then .dropped else .none)) s := by
  cases carried with
  | false => simp [fireEffect, named_of hl hh]
  | true =>
    obtain ⟨ha, hcode⟩ := hc.resolve_left (by simp)
    have hact : l.state.isActive = false := by rw [← Bool.not_eq_true, isActive_iff]; exact ha
    cases hp : l.params <;> simp [hp, KindParams.code] at hcode
    simp [fireEffect, named_of hl hh, hp, hact]

theorem fireEffect_ended (hno : ∀ l, s.lease h.slot = some l → s.handle h.slot ≠ h) : fireEffect h carried s = s := by
  unfold fireEffect
  split
  · rename_i m hm
    obtain ⟨hh, hl⟩ := named_some hm
    exact absurd hh (hno m hl)
  · rfl

end

/-! ## The waiting entries of a recalled port (R94) -/

section
variable {kind : KindSet}

/-- One notice after another. -/
def postAll (kind : KindSet) (es : List QueueEntry) (s : State) : State :=
  es.foldl (fun s e => postTicket e kind s) s

theorem cancelWaits_postAll (q : Port) (s : State) :
    cancelWaits q s = postAll TicketKind.waitCancelled (waitingOf s q) (dropWaits q s) := rfl

theorem postAll_keeps (es : List QueueEntry) (s : State) : ScanKeeps s (postAll kind es s) := by
  induction es generalizing s with
  | nil => exact .refl s
  | cons e es ih => exact (postTicket_keeps e kind s).trans (ih _)

theorem ScanKeeps.holdsTicket {s t : State} (a : ScanKeeps s t) {p : Port} {ticket : Byte}
    (h : HoldsTicket s p ticket kind) : HoldsTicket t p ticket kind := by
  obtain ⟨x, hx, h₁, h₂⟩ := h
  obtain ⟨y, hy, g₁, g₂⟩ := a.tickets p x hx
  exact ⟨y, hy, g₁.trans h₁, by rw [← h₂, ← BitVec.and_assoc, BitVec.and_comm y.kinds, g₂]⟩

theorem postAll_holds {es : List QueueEntry} {e : QueueEntry} (he : e ∈ es) (s : State) :
    HoldsTicket (postAll kind es s) e.port e.ticket kind := by
  induction es generalizing s with
  | nil => cases he
  | cons x es ih =>
    rcases List.mem_cons.mp he with rfl | he
    · exact (postAll_keeps es _).holdsTicket (holdsTicket_postTicket e kind s)
    · exact ih he _

/-- Nothing but ticket notices is posted. -/
theorem postAll_same {α : Type} (g : State → α) (h : ∀ e s, g (postTicket e kind s) = g s) (es : List QueueEntry)
    (s : State) : g (postAll kind es s) = g s := by
  induction es generalizing s with
  | nil => rfl
  | cons e es ih => exact (ih _).trans (h e s)

theorem beside_postAll (k : Slot) (es : List QueueEntry) (s : State) : Beside k s (postAll kind es s) := by
  have hmap : ∀ q, vget ((postAll kind es s).map q).slots k = vget (s.map q).slots k := fun q =>
    postAll_same (fun s => vget (s.map q).slots k) (fun e s => by
      rw [postTicket_map]
      split
      · rename_i hq
        rw [hq]
        rfl
      · rfl) es s
  refine ⟨?_, hmap, ?_, ?_, ?_, fun n _ => ?_, fun c _ => ?_, fun g _ => ?_, fun c => ?_, fun g => ?_⟩
  · exact postAll_same (fun s => vget s.slots k) (fun _ _ => by simp) es s
  · exact postAll_same (fun s => vget s.settling k) (fun _ _ => by simp) es s
  · exact postAll_same State.heldBy (fun _ _ => by simp) es s
  · exact postAll_same State.profiles (fun _ _ => by simp) es s
  · exact postAll_same (fun s => s.cell n) (fun _ _ => by simp) es s
  · exact postAll_same (fun s => vget s.patInbox c) (fun _ _ => by simp) es s
  · exact postAll_same (fun s => vget s.guardInbox g) (fun _ _ => by simp) es s
  · rw [postAll_same (fun s => vget s.patInbox c) (fun _ _ => by simp) es s]
  · rw [postAll_same (fun s => vget s.guardInbox g) (fun _ _ => by simp) es s]

end

/-! ## The recall (R94) -/

theorem atSlot_recallSlot (q : Port) (j : Slot) {s : State} (hs : Safe s) : AtSlot j s (recallSlot q j s) := by
  unfold recallSlot
  split
  · split
    · exact atSlot_retire hs ..
    · exact .refl j s
  · exact .refl j s

theorem recallSlot_safe (q : Port) (j : Slot) {s : State} (hs : Safe s) : Safe (recallSlot q j s) :=
  (recallSlot_work (lost := fun _ _ => True) q j s).safe hs

/-- The leases of port `q` retired, and the offers to it cancelled. -/
def leasesRecalled (q : Port) (s : State) : State := cancelOffersTo q (forSlots (recallSlot q) s)

/-- The rest of the recall, on the state `u` that the leases have left. -/
def recallRest (q : Port) (time : Nat) (u : State) : State :=
  postPort q PortKind.recalled (makeQuiet q time (cancelWaits q u))

theorem recallPort_eq (q : Port) (time : Nat) (s : State) :
    recallPort q time s = recallRest q time (leasesRecalled q s) := by
  rw [recallPort, recallRest, leasesRecalled]

section
variable {u : State} {q : Port} {time : Nat}

theorem beside_cancelWaits (k : Slot) (q : Port) (u : State) : Beside k u (cancelWaits q u) := by
  have : Beside k u (dropWaits q u) := ⟨rfl, fun _ => rfl, rfl, rfl, rfl, fun _ _ => rfl, fun _ _ => rfl, fun _ _ => rfl,
    fun _ => List.prefix_rfl, fun _ => List.prefix_rfl⟩
  rw [cancelWaits_postAll]
  exact this.trans (beside_postAll ..)

theorem beside_postPort (k : Slot) (q : Port) (kd : KindSet) (v : State) : Beside k v (postPort q kd v) := by
  refine ⟨rfl, fun r => ?_, rfl, rfl, rfl, fun _ _ => rfl, fun _ _ => rfl, fun _ _ => rfl, fun _ => List.prefix_rfl,
    fun _ => List.prefix_rfl⟩
  rw [postPort_map]
  split
  · rename_i h
    rw [h]
    rfl
  · rfl

theorem beside_makeQuiet (k : Slot) (q : Port) (time : Nat) (v : State) : Beside k v (makeQuiet q time v) := by
  unfold makeQuiet
  split
  · exact ⟨rfl, fun _ => rfl, rfl, rfl, rfl, fun _ _ => rfl, fun _ _ => rfl, fun _ _ => rfl, fun _ => List.prefix_rfl,
      fun _ => List.prefix_rfl⟩
  · exact .refl k v

theorem beside_recallRest (k : Slot) (q : Port) (time : Nat) (u : State) : Beside k u (recallRest q time u) :=
  ((beside_cancelWaits k q u).trans (beside_makeQuiet ..)).trans (beside_postPort ..)

theorem makeQuiet_same (q r : Port) (time : Nat) (v : State) :
    (makeQuiet q time v).queue = v.queue ∧ (makeQuiet q time v).map r = v.map r := by
  unfold makeQuiet
  split <;> exact ⟨rfl, rfl⟩

theorem makeQuiet_remaining (q : Port) (time : Nat) (v : State) :
    ((makeQuiet q time v).portRec q).quietRemaining = max (v.portRec q).quietRemaining time := by
  unfold makeQuiet
  split
  · rename_i h
    rw [State.setPortRec_portRec, if_pos rfl, Nat.max_eq_right (Nat.le_of_lt h)]
    rfl
  · rename_i h
    rw [Nat.max_eq_left (Nat.le_of_not_lt h)]

theorem recallRest_queue : (recallRest q time u).queue = u.queue.filter fun e => e.port ≠ q := by
  have h₁ : (recallRest q time u).queue = (makeQuiet q time (cancelWaits q u)).queue := rfl
  rw [h₁, (makeQuiet_same q q time _).1, cancelWaits_postAll,
    postAll_same State.queue (fun _ _ => by simp) _ (dropWaits q u)]
  rfl

theorem recallRest_remaining : ((recallRest q time u).portRec q).quietRemaining
    = max (u.portRec q).quietRemaining time := by
  have h₁ : (recallRest q time u).portRec q = (makeQuiet q time (cancelWaits q u)).portRec q := rfl
  rw [h₁, makeQuiet_remaining, cancelWaits_postAll,
    postAll_same (fun s => (s.portRec q).quietRemaining) (fun _ _ => by simp) _ (dropWaits q u)]
  rfl

theorem recallRest_port : ((recallRest q time u).map q).port = (u.map q).port ||| PortKind.recalled := by
  have hall : ((cancelWaits q u).map q).port = (u.map q).port := by
    rw [cancelWaits_postAll]
    refine postAll_same (fun s => (s.map q).port) (fun e s => ?_) _ (dropWaits q u)
    rw [postTicket_map]
    split
    · rename_i h
      rw [h]
      rfl
    · rfl
  rw [recallRest, postPort_map, if_pos rfl, (makeQuiet_same q q time _).2]
  exact congrArg (· ||| PortKind.recalled) hall

theorem recallRest_cancels {e : QueueEntry} (he : e ∈ u.queue) (hq : e.port = q) :
    HoldsTicket (recallRest q time u) e.port e.ticket TicketKind.waitCancelled := by
  have h : HoldsTicket (cancelWaits q u) e.port e.ticket TicketKind.waitCancelled := by
    rw [cancelWaits_postAll]
    exact postAll_holds (List.mem_filter.mpr ⟨he, by simpa using hq⟩) _
  obtain ⟨x, hx, hk⟩ := h
  refine ⟨x, ?_, hk⟩
  rw [recallRest, postPort_map, (makeQuiet_same q q time _).2, (makeQuiet_same q e.port time _).2, hq]
  rw [hq] at hx
  rw [if_pos rfl]
  exact hx

end

section
variable {s : State} {q : Port} {k : Slot} {l : Lease}

theorem leasesRecalled_rest (hs : Safe s) (q : Port) : (leasesRecalled q s).queue = s.queue
    ∧ (leasesRecalled q s).portRec q = s.portRec q ∧ ((leasesRecalled q s).map q).port = (s.map q).port := by
  have hport : ∀ u : State, ((cancelOffersTo q u).map q).port = (u.map q).port := fun u =>
    forSlots_keeps (fun u => (u.map q).port) (cancelOffer q) (fun j u => ((atSlot_cancelOffer q j u).subjects q).1) u
  have key := forSlots_atSlot (fun u => (u.queue, u.portRec q, (u.map q).port))
    (f := recallSlot q) (fun j u hu => recallSlot_safe q j hu) (fun j u hu => by
      have hrec : (recallSlot q j u).portRec q = u.portRec q := by
        unfold recallSlot
        split
        · split
          · simp [State.portRec]
          · rfl
        · rfl
      rw [(atSlot_recallSlot q j hu).queue, hrec, ((atSlot_recallSlot q j hu).subjects q).1]) hs
  simp only [Prod.mk.injEq] at key
  refine ⟨?_, ?_, ?_⟩
  · rw [leasesRecalled, (cancelOffersTo_frame ..).2.2.2.2.2.1]
    exact key.1
  · rw [leasesRecalled, cancelOffersTo_portRec]
    exact key.2.1
  · rw [leasesRecalled, hport]
    exact key.2.2

theorem leasesRecalled_handle (j : Slot) : (leasesRecalled q s).handle j = s.handle j :=
  ((forSlots_work (lost := fun _ _ => True) (recallSlot_work q) s).trans (calm_cancelOffersTo q _).work).handle j

/-- A record of the recalled port that is not live stays, and so does a record of another port that is not offered to
it. -/
theorem leasesRecalled_stays (hs : Safe s) (hk : s.lease k = some l)
    (h : l.state.live = false ∨ l.holder ≠ q ∧ ∀ left, l.state ≠ .handover q left) :
    Beside k s (leasesRecalled q s) := by
  refine offersCancelled_stays (fun j _ hu => recallSlot_safe q j hu) (fun j _ hu => atSlot_recallSlot q j hu) hs hk
    (fun u hu => ?_) fun left e => ?_
  · rcases h with hl | ⟨hne, -⟩
    · unfold recallSlot
      rw [hu]
      dsimp only
      split
      · exact retire_still hu hl _
      · rfl
    · simp [recallSlot, hu, hne]
  · rcases h with hl | ⟨-, h⟩
    · rw [e] at hl
      cases hl
    · exact h left e

theorem leasesRecalled_retires (hs : Safe s) (hk : s.lease k = some l) (hq : l.holder = q) (hl : l.state.live = true) :
    Retired s (leasesRecalled q s) k l .recalled :=
  offersCancelled_retired (fun j _ hu => recallSlot_safe q j hu) (fun j _ hu => atSlot_recallSlot q j hu) hs hk hl
    fun u hu => by simp [recallSlot, hu, hq]

theorem leasesRecalled_ends {left : Nat} (hs : Safe s) (hk : s.lease k = some l) (hq : l.holder ≠ q)
    (hst : l.state = .handover q left) : (leasesRecalled q s).lease k = some { l with state := .active }
      ∧ (leasesRecalled q s).handle k = s.handle k
      ∧ Holds (leasesRecalled q s) l.holder k (s.handle k).gen SlotKind.offerCancelled :=
  offersCancelled_ends (fun j _ hu => recallSlot_safe q j hu) (fun j _ hu => atSlot_recallSlot q j hu) hs hk
    (fun u hu => by simp [recallSlot, hu, hq]) hst

/-- The records are not freed by a recall. -/
theorem leasesRecalled_isSome (hs : Safe s) (hk : s.lease k = some l) : ((leasesRecalled q s).lease k).isSome := by
  by_cases hl : l.holder = q ∧ l.state.live = true
  · rw [(leasesRecalled_retires hs hk hl.1 hl.2).record]
    rfl
  · by_cases ho : ∃ left, l.state = .handover q left
    · obtain ⟨left, hst⟩ := ho
      have hne : l.holder ≠ q := fun hq => hl ⟨hq, by rw [hst]; rfl⟩
      rw [(leasesRecalled_ends hs hk hne hst).1]
      rfl
    · have : l.state.live = false ∨ l.holder ≠ q ∧ ∀ left, l.state ≠ .handover q left := by
        by_cases hq : l.holder = q
        · exact .inl (by simpa [hq] using hl)
        · exact .inr ⟨hq, fun left e => ho ⟨left, e⟩⟩
      rw [(leasesRecalled_stays hs hk this).lease, hk]
      rfl

end

/-! ## FIRE_REPORT (R88, R94) -/

/-- The work of a carried-out recall: the recall and the notice of the guard's firing. -/
def recallFired (q p : Port) (time : Nat) (k : Slot) (s : State) : State :=
  postSlot p k SlotKind.guardFired (.outcome .done) (recallRest q time (leasesRecalled q s))

section
variable {s t : State} {p q : Port} {time : Nat} {j k : Slot} {m : Lease}

theorem beside_postSlot (h : j ≠ k) (p : Port) (kd : KindSet) (d : Detail) (v : State) :
    Beside j v (postSlot p k kd d v) := by
  have a := atSlot_postSlot (j := k) p kd d v
  exact ⟨a.slots j h, fun r => a.entry r j h, a.settling j h, a.heldBy, a.profiles, fun n _ => by simp,
    fun c _ => by simp, fun g _ => by simp, a.patGrows, a.guardGrows⟩

theorem recallFired_retired {r : CloseReason} (h : Retired s (leasesRecalled q s) j m r) :
    Retired s (recallFired q p time k s) j m r := by
  have hrest := h.beside (beside_recallRest j q time _)
  by_cases hj : j = k
  · subst hj
    exact hrest.post ..
  · exact hrest.beside (beside_postSlot hj ..)

theorem recallFired_lease (j : Slot) : (recallFired q p time k s).lease j = (leasesRecalled q s).lease j := by
  rw [recallFired, postSlot_lease]
  exact (beside_recallRest j q time _).lease

theorem recallFired_holds {r : Port} {kind : KindSet} (h : Holds (leasesRecalled q s) r j (s.handle j).gen kind) :
    Holds (recallFired q p time k s) r j (s.handle j).gen kind := by
  refine holds_postSlot ((beside_recallRest j q time _).holds h) (fun e => ?_) rfl
  subst e
  rw [(beside_recallRest k q time _).handle, leasesRecalled_handle]

theorem recallFired_notice : Holds (recallFired q p time k s) p k (s.handle k).gen SlotKind.guardFired
    ∧ (vget ((recallFired q p time k s).map p).slots k).bind (·.outcome) = some .done := by
  have hgen : (recallRest q time (leasesRecalled q s)).handle k = s.handle k :=
    (beside_recallRest k q time _).handle.trans (leasesRecalled_handle k)
  unfold Holds
  rw [recallFired, postSlot_map, if_pos rfl, hgen, kindsFor_postSlot, or_and_self]
  exact ⟨rfl, outcome_postSlot ..⟩

end

theorem AtSlot.holdsTicket {s t : State} {j : Slot} (a : AtSlot j s t) {p : Port} {ticket : Byte} {kind : KindSet}
    (h : HoldsTicket s p ticket kind) : HoldsTicket t p ticket kind := by
  unfold HoldsTicket at *
  rwa [(a.subjects p).2.2]

/-- A post by itself triggers no scan. -/
theorem endStep_postSlot (p : Port) (k : Slot) (kd : KindSet) (d : Detail) (s : State) :
    endStep s (postSlot p k kd d s) = postSlot p k kd d s :=
  endStep_still (calm_postSlot ..).still (fun _ => id) fun _ => ⟨rfl, rfl⟩

theorem recallFired_reports (q p : Port) (time : Nat) (k : Slot) (s : State) :
    (recallFired q p time k s).reports = s.reports := by
  have hrest : ∀ u, (recallRest q time u).reports = u.reports := fun u => by
    have h₁ : (recallRest q time u).reports = (makeQuiet q time (cancelWaits q u)).reports := rfl
    have h₂ : (makeQuiet q time (cancelWaits q u)).reports = (cancelWaits q u).reports := by
      unfold makeQuiet
      split <;> rfl
    rw [h₁, h₂, cancelWaits_postAll, postAll_same State.reports (fun _ _ => by simp) _ (dropWaits q u)]
    rfl
  rw [recallFired, (postSlot_frame ..).2.2.2.2.2.2.2.2.2.2.2.2.2.2.2.2.1, hrest, leasesRecalled,
    show ∀ u, (cancelOffersTo q u).reports = u.reports from fun u => by simp]
  refine forSlots_keeps State.reports (recallSlot q) (fun j u => ?_) s
  unfold recallSlot
  split
  · split
    · simp
    · rfl
  · rfl

/-- Settles O50. -/
theorem fireReport : Obligations.FireReport := by
  intro s k h carried rest hk hnext
  subst hk
  have hexec := exec_fireReport rfl hnext
  refine ⟨fun l spec armed g r hs hl hh hc ha hp hr => ?_, fun l hl hh hc => ?_, fun hno => ?_⟩
  · intro q
    subst hc
    have hb : Safe { s with reports := rest } := ⟨hs.held, hs.counts, hs.channels, hs.waits⟩
    have he : fireEffect h true { s with reports := rest }
        = recallFired q l.holder r.quietTime h.slot { s with reports := rest } := by
      rw [fireEffect_recalls (s := { s with reports := rest }) hl hh ha hp hr, recallPort_eq]
      rfl
    have hkept : Kept s (fireEffect h true { s with reports := rest }) := (kept_reports s rest).trans (kept_fireEffect ..)
    have harr := (fireEffect_work (lost := fun _ _ => True) h true { s with reports := rest }).arrivals
    rw [he] at hexec hkept harr
    have hend := endStep_keeps { s with reports := rest }
      (recallFired q l.holder r.quietTime h.slot { s with reports := rest })
    obtain ⟨hqueue, hquiet, hport⟩ := leasesRecalled_rest hb q
    obtain ⟨hfired, hdone⟩ := recallFired_notice (q := q) (p := l.holder) (time := r.quietTime) (k := h.slot)
      (s := { s with reports := rest })
    have hqueue' : (recallFired q l.holder r.quietTime h.slot { s with reports := rest }).queue
        = s.queue.filter fun e => e.port ≠ q := by
      rw [recallFired, (postSlot_frame ..).2.2.2.2.2.2.1, recallRest_queue, hqueue]
    have hlease := fun j => recallFired_lease (q := q) (p := l.holder) (time := r.quietTime) (k := h.slot)
      (s := { s with reports := rest }) j
    have hsome : ∀ {j : Slot} {m : Lease}, s.lease j = some m →
        ((recallFired q l.holder r.quietTime h.slot { s with reports := rest }).lease j).isSome := fun {j m} hj => by
      rw [hlease]
      exact leasesRecalled_isSome hb hj
    refine ⟨_, hexec, ?_, endStep_engineKept hkept harr, endStep_hostSide hkept, fun j m hj hq hm => ?_,
      fun j m hj hq hm => ?_, fun j m hj hq => ⟨fun ⟨left, hst⟩ => ⟨?_, ?_⟩, fun hno => ?_⟩, fun e he => ?_,
      fun e he hq => ?_, ?_, ?_, ?_, ?_⟩
    · rw [(endStep_frame ..).2.2.2.2.2.2.2.1]
      exact recallFired_reports ..
    · exact ((recallFired_retired (leasesRecalled_retires hb hj hq hm)).endKeeps hend).from_eq rfl fun _ => rfl
    · rw [hend.lease j (hsome hj), hlease, (leasesRecalled_stays hb hj (.inl hm)).lease]
      exact hj
    · rw [hend.lease j (hsome hj), hlease]
      exact (leasesRecalled_ends hb hj hq hst).1
    · exact hend.holds (hsome hj) (recallFired_holds (leasesRecalled_ends hb hj hq hst).2.2)
    · rw [hend.lease j (hsome hj), hlease, (leasesRecalled_stays hb hj (.inr ⟨hq, hno⟩)).lease]
      exact hj
    · have he := hend.queue.subset he
      rw [hqueue', List.mem_filter] at he
      exact ⟨he.1, by simpa using he.2⟩
    · have hcancelled := recallRest_cancels (u := leasesRecalled q { s with reports := rest }) (time := r.quietTime)
        (by rw [hqueue]; exact he) hq
      rw [hq] at hcancelled
      exact hend.holdsTicket ((atSlot_postSlot ..).holdsTicket hcancelled)
    · rw [PortRec.quietRemaining, (hend.records q).1, ← PortRec.quietRemaining, recallFired,
        PortRec.quietRemaining, ((atSlot_postSlot ..).records q).1, ← PortRec.quietRemaining, recallRest_remaining, hquiet]
      rfl
    · rw [(hend.subjects q).1, recallFired, ((atSlot_postSlot ..).subjects q).1, recallRest_port, hport]
      rfl
    · have hgen : (({ s with reports := rest } : State).handle h.slot).gen = h.gen := congrArg Handle.gen hh
      rw [hgen] at hfired
      exact hend.holds (hsome hl) hfired
    · rw [hend.entry _ _ (hsome hl)]
      exact hdone
  · have he := fireEffect_posts (s := { s with reports := rest }) hl hh hc
    rw [he, endStep_postSlot] at hexec
    obtain ⟨h₁, h₂, h₃⟩ := posts_post (s := s) (u := { s with reports := rest }) (q := l.holder) (k := h.slot)
      (kind := SlotKind.guardFired) (d := .outcome (if carried then .dropped else .none)) rfl rfl
    refine ⟨_, hexec, by simp, h₁, h₂, ?_, h₃, rfl⟩
    rw [postSlot_map, if_pos rfl]
    exact outcome_postSlot ..
  · rw [hexec, fireEffect_ended (s := { s with reports := rest }) hno, endStep_self]

end Sys2Proof.Machine

/-! PROOFS. The end of a step told line by line and channel by channel, and what stands through it. -/

namespace Sys2Proof.Machine

/-! ## What a scan leaves alone, precisely -/

/-- What the end of a step may have done before the checks restart: nothing, or a scan. -/
structure Scanned (s x : State) : Prop where
  keeps : ScanKeeps s x
  later : Later s x
  unheld : ∀ n, vget x.heldBy n = none → x.cell n = s.cell n
  pat : ∀ c, vget x.patTaken c = false → vget x.patInbox c = vget s.patInbox c
  guard : ∀ g, vget x.guardTaken g = false → vget x.guardInbox g = vget s.guardInbox g
  queue : x.queue.Sublist s.queue
  profiles : x.profiles = s.profiles
  rstn : x.rstnAsserted = s.rstnAsserted

theorem Scanned.refl (s : State) : Scanned s s :=
  ⟨.refl s, .refl s, fun _ _ => rfl, fun _ _ => rfl, fun _ _ => rfl, .refl _, rfl, rfl⟩

section
variable {s : State} {k : Slot} {e : QueueEntry} (q : List QueueEntry) (hf : freeSlot? s = some k)
include hf

theorem scanGrant_patTaken (c : PatChan) : vget (scanGrant e { s with queue := q }).patTaken c
    = if (grantParams s e.request).patChan = some c then true else vget s.patTaken c := by
  rw [scanGrant_at q hf, (postSlot_frame ..).2.2.2.1, grantInto_patTaken]
  rfl

theorem scanGrant_guardTaken (g : GuardChan) : vget (scanGrant e { s with queue := q }).guardTaken g
    = if (grantParams s e.request).guardChan = some g then true else vget s.guardTaken g := by
  rw [scanGrant_at q hf, (postSlot_frame ..).2.2.2.2.1, grantInto_guardTaken]
  rfl

end

/-- The channels and lines that a scan leaves free have been told and shown nothing. -/
theorem scan_scanned (s : State) : Scanned s (scan s) := by
  have key := (scan_invariant (s := s) (fun _ u => Later s u ∧ (∀ n, vget u.heldBy n = none → u.cell n = s.cell n)
      ∧ (∀ c, vget u.patTaken c = false → vget u.patInbox c = vget s.patInbox c)
      ∧ ∀ g, vget u.guardTaken g = false → vget u.guardInbox g = vget s.guardInbox g)
    ⟨.refl s, fun _ _ => rfl, fun _ _ => rfl, fun _ _ => rfl⟩ (fun older e rest u _ _ _ _ hu => ?_)
    (fun older e rest u _ _ _ _ hb hu => ?_) fun _ _ _ _ _ _ _ _ _ hu => hu).1
  · obtain ⟨h₁, h₂, h₃, h₄⟩ := key
    exact ⟨h₁.examined.keeps, h₁, h₂, h₃, h₄, scan_queue s, by simp, by simp⟩
  · obtain ⟨h₁, h₂, h₃, h₄⟩ := hu
    exact ⟨h₁.trans (refuse_later ..), fun n hn => (postTicket_cell ..).trans (h₂ n (by simpa using hn)),
      fun c hc => by simpa using h₃ c (by simpa using hc), fun g hg => by simpa using h₄ g (by simpa using hg)⟩
  · obtain ⟨h₁, h₂, h₃, h₄⟩ := hu
    have hg := grant_later (q := older ++ rest) hb
    obtain ⟨k, hk⟩ : ∃ k, freeSlot? u = some k := (blockedBy_none hb).2.1
    obtain ⟨hpat, hguard⟩ := scanGrant_otherChannels (s := { u with queue := older ++ rest }) (e := e) hk
    refine ⟨h₁.trans hg, fun n hn => ?_, fun c hc => ?_, fun g hgt => ?_⟩
    · rw [scanGrant_heldBy _ hk] at hn
      split at hn
      · cases hn
      · rename_i hl
        rw [scanGrant_cell _ hk n (by simpa using hl)]
        exact h₂ n hn
    · rw [scanGrant_patTaken _ hk] at hc
      split at hc
      · cases hc
      · rename_i hp
        rw [(hpat c hp).2]
        exact h₃ c hc
    · rw [scanGrant_guardTaken _ hk] at hgt
      split at hgt
      · cases hgt
      · rename_i hp
        rw [(hguard g hp).2]
        exact h₄ g hgt

theorem endStep_scanned (b s : State) : ∃ x, endStep b s = restartChecks b x ∧ Scanned s x := by
  unfold endStep
  split
  · exact ⟨_, rfl, scan_scanned s⟩
  · exact ⟨_, rfl, .refl s⟩

/-! ## A held line -/

/-- A line and its lease as far as its configuration and its checks look at them. -/
structure HeldAlike (s t : State) (n : Line) (k : Slot) (l m : Lease) : Prop where
  heldBefore : vget s.heldBy n = some k
  heldAfter : vget t.heldBy n = some k
  before : s.lease k = some l
  after : t.lease k = some m
  live : m.state.live = l.state.live
  faults : m.faults = l.faults
  params : m.params = l.params
  profile : t.profile n = s.profile n
  rstn : t.rstnAsserted = s.rstnAsserted
  assigned : (t.cell n).assigned = (s.cell n).assigned

section
variable {s t : State} {n : Line} {k : Slot} {l m : Lease}

theorem liveHolding_held (hn : vget s.heldBy n = some k) (hk : s.lease k = some l) :
    liveHolding s n = if l.state.live then some (k, l) else none := by
  simp [liveHolding, holding, hn, hk, Option.filter_some]

theorem HeldAlike.shown (h : HeldAlike s t n k l m) :
    appliedConfig s n = appliedConfig t n ∧ checkedLevel s n = checkedLevel t n := by
  have h₁ := liveHolding_held h.heldBefore h.before
  have h₂ := liveHolding_held h.heldAfter h.after
  rw [h.live] at h₂
  have happ : appliedConfig s n = appliedConfig t n := by
    unfold appliedConfig
    rw [h₁, h₂, h.rstn, h.profile, h.assigned]
    cases l.state.live
    · rfl
    · simp only [if_true, h.faults, h.params]
  refine ⟨happ, ?_⟩
  unfold checkedLevel
  rw [happ, h₁, h₂, h.profile]
  cases l.state.live <;> rfl

/-- The checks of a line that shows what it showed go on. -/
theorem HeldAlike.cell (h : HeldAlike s t n k l m) : (restartChecks s t).cell n = t.cell n := by
  rw [restartChecks_cell_eq, if_pos h.shown]

/-- The checks of a line at rest go on. -/
theorem restartChecks_cell_rest (hs : vget s.heldBy n = none) (ht : vget t.heldBy n = none)
    (hr : t.rstnAsserted = s.rstnAsserted) (hp : t.profile n = s.profile n) (hc : t.cell n = s.cell n) :
    (restartChecks s t).cell n = s.cell n := by
  have hl : ∀ {u : State}, vget u.heldBy n = none → liveHolding u n = none := fun {u} h => by
    simp [liveHolding, holding, h]
  have : SameLine s t n := ⟨hr, hp, by rw [hl hs, hl ht], by rw [hc]⟩
  rw [restartChecks_cell_same this, hc]

end

/-! ## A lease in GRACE -/

section
variable {s t u v : State} {k : Slot} {l m : Lease}

/-- Entry to GRACE told from a state with the same handle, lines and channel. -/
theorem InGrace.from_eq (h : InGrace u t k l) (hh : u.handle k = s.handle k)
    (hc : ∀ n, has l.lines n = true → u.cell n = s.cell n)
    (hp : ∀ c, l.params.patChan = some c → vget u.patInbox c = vget s.patInbox c)
    (hg : ∀ g, l.params.guardChan = some g → vget u.guardInbox g = vget s.guardInbox g) : InGrace s t k l := by
  refine ⟨h.record, by rw [h.handle, hh], by rw [← hh]; exact h.notice, fun target left e => ?_, fun n hn => ?_,
    fun spec c e => ?_, fun spec armed g e => ?_⟩
  · rw [← hh]
    exact h.offer target left e
  · rw [← hc n hn]
    exact h.lines n hn
  · rw [← hp c (by rw [e]; rfl)]
    exact h.pattern spec c e
  · rw [← hg g (by rw [e]; rfl)]
    exact h.guard spec armed g e

/-- Entry to GRACE stands in a state with the same record, entries, lines and channel. -/
theorem InGrace.to_eq (h : InGrace s t k l) (hl : u.lease k = t.lease k) (hh : u.handle k = t.handle k)
    (he : ∀ q, vget (u.map q).slots k = vget (t.map q).slots k) (hc : ∀ n, has l.lines n = true → u.cell n = t.cell n)
    (hp : ∀ c, l.params.patChan = some c → vget u.patInbox c = vget t.patInbox c)
    (hg : ∀ g, l.params.guardChan = some g → vget u.guardInbox g = vget t.guardInbox g) : InGrace s u k l := by
  have hholds : ∀ {q gen kind}, Holds t q k gen kind → Holds u q k gen kind := fun {q gen kind} hq => by
    unfold Holds kindsFor at *
    rwa [he]
  refine ⟨hl.trans h.record, hh.trans h.handle, hholds h.notice, fun target left e => hholds (h.offer target left e),
    fun n hn => (hc n hn).trans (h.lines n hn), fun spec c e => ?_, fun spec armed g e => ?_⟩
  · rw [hp c (by rw [e]; rfl)]
    exact h.pattern spec c e
  · rw [hg g (by rw [e]; rfl)]
    exact h.guard spec armed g e

/-- Only the offer of the state is looked at. -/
theorem InGrace.of_state {st : LeaseState} (h : InGrace s t k { l with state := st })
    (ho : ∀ target left, l.state = .handover target left → ∃ left', st = .handover target left') : InGrace s t k l :=
  ⟨h.record, h.handle, h.notice, fun target left e => by
    obtain ⟨left', e'⟩ := ho target left e
    exact h.offer target left' e', h.lines, h.pattern, h.guard⟩

theorem Retired.of_state {st : LeaseState} {r : CloseReason} (h : Retired s t k { l with state := st } r)
    (ho : ∀ target left, l.state = .handover target left → ∃ left', st = .handover target left') : Retired s t k l r :=
  ⟨h.record, h.handle, h.lines, h.settling, fun target left e => by
    obtain ⟨left', e'⟩ := ho target left e
    exact h.offer target left' e', h.pattern, h.guard⟩

/-- Entry to GRACE through work on other slots. -/
theorem InGrace.beside (h : InGrace s t k l) (b : Beside k t u)
    (hh : ∀ n, has l.lines n = true → vget t.heldBy n = some k) : InGrace s u k l := by
  have hlive : ({ l with state := .grace l.grace } : Lease).state.live = true := rfl
  refine h.to_eq b.lease b.handle b.entry (fun n hn => b.cells n (hh n hn)) (fun c hc => b.pat c ?_)
    fun g hg => b.guard g ?_
  · rw [patOf_live h.record hlive]
    exact hc
  · rw [guardOf_live h.record hlive]
    exact hg

/-- Entry to GRACE through a scan. -/
theorem InGrace.scanned (h : InGrace s t k l) (a : Scanned t u) (hs : Safe t)
    (hh : ∀ n, has l.lines n = true → vget t.heldBy n = some k) : InGrace s u k l := by
  have hlive : ({ l with state := .grace l.grace } : Lease).state.live = true := rfl
  have hsome : (t.lease k).isSome := by rw [h.record]; rfl
  refine h.to_eq (a.keeps.lease k hsome) (a.keeps.handle k hsome) (fun q => a.keeps.entry q k hsome)
    (fun n hn => (a.keeps.held n k (hh n hn)).2) (fun c hc => a.later.pat c ?_) fun g hg => a.later.guard g ?_
  · rw [hs.channels.1]
    refine ⟨k, ?_⟩
    rw [patOf_live h.record hlive]
    exact hc
  · rw [hs.channels.2.2.1]
    refine ⟨k, ?_⟩
    rw [guardOf_live h.record hlive]
    exact hg

end

end Sys2Proof.Machine

/-! PROOFS. TERM_TICK at one slot (R44 to R49, R51). -/

namespace Sys2Proof.Machine

/-! ## Rewriting one record -/

/-- Nothing but records and notices has changed. -/
def RecordsOnly (s t : State) : Prop := { t with slots := s.slots, maps := s.maps } = s

section
variable {s t u : State} {k : Slot} {l m : Lease}

theorem RecordsOnly.trans (a : RecordsOnly s t) (b : RecordsOnly t u) : RecordsOnly s u :=
  (congrArg (fun v : State => { v with slots := s.slots, maps := s.maps }) b :).trans a

theorem recordsOnly_setLease (s : State) (k : Slot) (l : Lease) : RecordsOnly s (s.setLease k l) := rfl
theorem recordsOnly_postSlot (p : Port) (k : Slot) (kd : KindSet) (d : Detail) (s : State) :
    RecordsOnly s (postSlot p k kd d s) := rfl

theorem RecordsOnly.cells (a : RecordsOnly s t) : t.cells = s.cells := (congrArg State.cells a :)
theorem RecordsOnly.cell (a : RecordsOnly s t) (n : Line) : t.cell n = s.cell n := by rw [State.cell, a.cells]; rfl
theorem RecordsOnly.heldBy (a : RecordsOnly s t) : t.heldBy = s.heldBy := (congrArg State.heldBy a :)
theorem RecordsOnly.settling (a : RecordsOnly s t) : t.settling = s.settling := (congrArg State.settling a :)
theorem RecordsOnly.patInbox (a : RecordsOnly s t) : t.patInbox = s.patInbox := (congrArg State.patInbox a :)
theorem RecordsOnly.guardInbox (a : RecordsOnly s t) : t.guardInbox = s.guardInbox := (congrArg State.guardInbox a :)
theorem RecordsOnly.profiles (a : RecordsOnly s t) : t.profiles = s.profiles := (congrArg State.profiles a :)

theorem setLease_setLease (s : State) (k : Slot) (l m : Lease) : (s.setLease k l).setLease k m = s.setLease k m := by
  simp only [State.setLease, vget_vset_self]
  simp [vset]

theorem setLease_self (hk : s.lease k = some l) : s.setLease k l = s := by
  have : vset s.slots k { vget s.slots k with lease := some l } = s.slots := by
    apply vext
    intro j
    rw [vget_vset]
    split
    · rename_i e
      rw [e, ← hk]
      rfl
    · rfl
  unfold State.setLease
  rw [this]

/-! ## The countdowns of a record (R44, R46) -/

/-- TERM_LOW is due at the next tick of the lease. -/
def lowNext (l : Lease) : Bool :=
  decide (0 < l.warn) && !l.termLow && (l.term.bind (·.remaining)).any (fun r => decide (r - 1 ≤ l.warn))

/-- The record of a working lease after a tick, its state apart. -/
def ticked (l : Lease) : Lease :=
  { l with
    term := l.term.map fun x => ({ x with remaining := x.remaining.map (· - 1) } : Term)
    termLow := l.termLow || lowNext l }

/-- The record of a working lease after a tick that ends nothing of it. -/
def counted (l : Lease) : Lease := { ticked l with state := l.count.state }

theorem count_working (h : l.state.working = true) :
    l.count = { l with
      state := l.count.state
      term := l.term.map fun x => ({ x with remaining := x.remaining.map (· - 1) } : Term) } := by
  cases hs : l.state <;> simp_all [LeaseState.working, Lease.count] <;> rfl

theorem count_live (l : Lease) : l.count.state.live = l.state.live := by
  cases hs : l.state <;> simp [Lease.count, hs, LeaseState.live]

theorem count_working_iff (l : Lease) : l.count.state.working = l.state.working := by
  cases hs : l.state <;> simp [Lease.count, hs, LeaseState.working]

theorem counted_remaining (l : Lease) : (counted l).remaining = (l.term.bind (·.remaining)).map (· - 1) := by
  cases h : l.term <;> simp [counted, ticked, Lease.remaining, h]

theorem lowDue_count (h : l.state.working = true) : lowDue l.count = lowNext l := by
  have hrem : l.count.remaining = (l.term.bind (·.remaining)).map (· - 1) := by
    rw [count_working h]
    cases l.term <;> simp [Lease.remaining]
  have hw : l.count.warn = l.warn := by rw [count_working h]
  have hl : l.count.termLow = l.termLow := by rw [count_working h]
  unfold lowDue lowNext
  rw [count_working_iff, h, hw, hl, hrem]
  cases l.term.bind (·.remaining) <;> simp

/-- A working lease after its countdowns and TERM_LOW. -/
def lowTicked (k : Slot) (l : Lease) (s : State) : State :=
  if lowNext l then postSlot l.holder k SlotKind.termLow .none (s.setLease k (counted l)) else s.setLease k (counted l)

theorem termLowStep_working (h : l.state.working = true) :
    termLowStep k (s.setLease k l.count) = lowTicked k l s := by
  have hk : (s.setLease k l.count).lease k = some l.count := (State.setLease_lease ..).trans (if_pos rfl)
  unfold termLowStep lowTicked
  rw [hk]
  dsimp only
  rw [lowDue_count h]
  cases hlow : lowNext l with
  | true =>
    rw [if_pos rfl, if_pos rfl, setLease_setLease]
    have h₁ : ({ l.count with termLow := true } : Lease) = counted l := by
      rw [count_working h]
      simp [counted, ticked, hlow]
    have h₂ : l.count.holder = l.holder := by rw [count_working h]
    rw [h₁, h₂]
  | false =>
    rw [if_neg (by simp), if_neg (by simp)]
    have h₁ : l.count = counted l := by
      rw [count_working h]
      simp [counted, ticked, hlow]
    rw [← h₁]

theorem termLowStep_idle (h : l.state.working = false) :
    termLowStep k (s.setLease k l.count) = s.setLease k l.count := by
  have hk : (s.setLease k l.count).lease k = some l.count := (State.setLease_lease ..).trans (if_pos rfl)
  unfold termLowStep
  rw [hk]
  dsimp only
  rw [if_neg]
  simp [lowDue, count_working_iff, h]

theorem lowTicked_only (k : Slot) (l : Lease) (s : State) : RecordsOnly s (lowTicked k l s) := by
  unfold lowTicked
  split
  · exact (recordsOnly_setLease ..).trans (recordsOnly_postSlot ..)
  · exact recordsOnly_setLease ..

theorem lowTicked_lease (k : Slot) (l : Lease) (s : State) : (lowTicked k l s).lease k = some (counted l) := by
  unfold lowTicked
  split <;> simp [State.setLease_lease]

theorem lowTicked_handle (k : Slot) (l : Lease) (s : State) : (lowTicked k l s).handle k = s.handle k := by
  unfold lowTicked
  split <;> simp

theorem lowTicked_holds (h : lowNext l = true) : Holds (lowTicked k l s) l.holder k (s.handle k).gen SlotKind.termLow := by
  unfold lowTicked Holds
  rw [if_pos h, postSlot_map, if_pos rfl, State.setLease_handle, kindsFor_postSlot, or_and_self]

/-! ## The ends that do not come -/

theorem graceEndStep_idle (h : ∀ l, s.lease k = some l → l.state ≠ .grace 0) : graceEndStep k s = s := by
  unfold graceEndStep
  split
  · rename_i l hk
    split
    · exact absurd ‹_› (h l hk)
    all_goals rfl
  · rfl

theorem offerLapseStep_idle (h : ∀ l, s.lease k = some l → ∀ q, l.state ≠ .handover q 0) : offerLapseStep k s = s := by
  unfold offerLapseStep
  split
  · rename_i l hk
    split
    · exact absurd ‹_› (h l hk _)
    all_goals rfl
  · rfl

/-! ## A tick at one slot -/

theorem counted_ends {r : Nat} (hr : l.term.bind (·.remaining) = some r) (h₁ : r ≤ 1) :
    (counted l).remaining = some 0 := by
  rw [counted_remaining, hr]
  simp
  omega

theorem counted_working (hw : l.state.working = true) : (counted l).state.working = true := by
  rw [← hw, ← count_working_iff l]
  rfl

section
variable (hk : s.lease k = some l)
include hk

theorem tickSlot_of : tickSlot k s
    = offerLapseStep k (graceEndStep k (termEndStep k (termLowStep k (s.setLease k l.count)))) := by
  simp [tickSlot, hk]

/-- A working lease whose term does not end. -/
theorem tickSlot_goes_on (hw : l.state.working = true) (hr : ∀ r, l.term.bind (·.remaining) = some r → 2 ≤ r) :
    tickSlot k s = offerLapseStep k (lowTicked k l s) := by
  have hrec := lowTicked_lease k l s
  have hterm : termEndStep k (lowTicked k l s) = lowTicked k l s := by
    refine termEndStep_idle fun m hm => .inr ?_
    obtain rfl := Option.some.inj (hrec.symm.trans hm)
    rw [counted_remaining]
    cases h : l.term.bind (·.remaining) with
    | none => simp
    | some r =>
      have := hr r h
      simp
      omega
  have hgrace : graceEndStep k (lowTicked k l s) = lowTicked k l s := by
    refine graceEndStep_idle fun m hm e => ?_
    obtain rfl := Option.some.inj (hrec.symm.trans hm)
    have := count_working_iff l
    rw [show l.count.state = .grace 0 from e, hw] at this
    cases this
  rw [tickSlot_of hk, termLowStep_working hw, hterm, hgrace]

/-- A working lease whose term ends with a grace. -/
theorem tickSlot_enters {r : Nat} (hw : l.state.working = true) (hr : l.term.bind (·.remaining) = some r) (h₁ : r ≤ 1)
    (hg : 0 < l.grace) : tickSlot k s = graceEntered k (counted l) (lowTicked k l s) := by
  have hrec := lowTicked_lease k l s
  have hterm := termEndStep_grace hrec (counted_working hw) (counted_ends hr h₁) (show 0 < (counted l).grace from hg)
  have hstate : ∀ m, (graceEntered k (counted l) (lowTicked k l s)).lease k = some m → m.state = .grace l.grace :=
    fun m hm => by
      rw [graceEntered_lease, if_pos rfl] at hm
      obtain rfl := Option.some.inj hm
      rfl
  rw [tickSlot_of hk, termLowStep_working hw, hterm, graceEndStep_idle, offerLapseStep_idle]
  · intro m hm q e
    rw [hstate m hm] at e
    cases e
  · intro m hm e
    rw [hstate m hm] at e
    have := LeaseState.grace.inj e
    omega

/-- A working lease whose term ends without a grace. -/
theorem tickSlot_retires {r : Nat} (hw : l.state.working = true) (hr : l.term.bind (·.remaining) = some r) (h₁ : r ≤ 1)
    (hg : l.grace = 0) : tickSlot k s = retire k .expired (lowTicked k l s) := by
  have hrec := lowTicked_lease k l s
  have hworks := counted_working hw
  have hterm := termEndStep_retires hrec hworks (counted_ends hr h₁) (show (counted l).grace = 0 from hg)
  have hstate : ∀ m, (retire k .expired (lowTicked k l s)).lease k = some m → m.state = .retiring .expired :=
    fun m hm => by
      rw [retire_lease hrec (live_of_working hworks)] at hm
      obtain rfl := Option.some.inj hm
      rfl
  rw [tickSlot_of hk, termLowStep_working hw, hterm, graceEndStep_idle, offerLapseStep_idle]
  · intro m hm q e
    rw [hstate m hm] at e
    cases e
  · intro m hm e
    rw [hstate m hm] at e
    cases e

/-- A lease in GRACE. -/
theorem tickSlot_grace {left : Nat} (hs : l.state = .grace left) : tickSlot k s
    = if left ≤ 1 then retire k .expired (s.setLease k { l with state := .grace 0 })
      else s.setLease k { l with state := .grace (left - 1) } := by
  have hcount : l.count = { l with state := .grace (left - 1) } := by simp [Lease.count, hs]
  have hrec : ∀ m : Lease, (s.setLease k m).lease k = some m := fun m => (State.setLease_lease ..).trans (if_pos rfl)
  rw [tickSlot_of hk, termLowStep_idle (by rw [hs]; rfl), hcount, termEndStep_idle]
  · split
    · rename_i h
      rw [show left - 1 = 0 by omega, graceEndStep_zero (hrec _) rfl, offerLapseStep_idle]
      intro m hm q e
      rw [retire_lease (hrec _) rfl] at hm
      obtain rfl := Option.some.inj hm
      cases e
    · rename_i h
      rw [graceEndStep_idle, offerLapseStep_idle]
      · intro m hm q e
        obtain rfl := Option.some.inj ((hrec _).symm.trans hm)
        cases e
      · intro m hm e
        obtain rfl := Option.some.inj ((hrec _).symm.trans hm)
        have := LeaseState.grace.inj e
        omega
  · intro m hm
    obtain rfl := Option.some.inj ((hrec _).symm.trans hm)
    exact .inl rfl

/-- A lease without a running countdown. -/
theorem tickSlot_idle (hs : (l.state = .active ∧ l.term = none) ∨ ∃ r, l.state = .retiring r ∨ l.state = .closed r) :
    tickSlot k s = s := by
  rcases hs with ⟨h, ht⟩ | ⟨r, h⟩
  · have hw : l.state.working = true := by rw [h]; rfl
    have hlow : lowNext l = false := by simp [lowNext, ht]
    have hcounted : counted l = l := by
      have : l.count.state = l.state := by simp [Lease.count, h]
      have hterm : l.term.map (fun x => ({ x with remaining := x.remaining.map (· - 1) } : Term)) = l.term := by
        rw [ht]
        rfl
      unfold counted ticked
      rw [this, hlow, hterm, Bool.or_false]
    rw [tickSlot_goes_on hk hw (by simp [ht]), lowTicked, hlow, hcounted, if_neg (by simp), setLease_self hk]
    refine offerLapseStep_idle fun m hm q e => ?_
    obtain rfl := Option.some.inj (hk.symm.trans hm)
    rw [h] at e
    cases e
  · have hcount : l.count = l := by rcases h with h | h <;> simp [Lease.count, h]
    have hw : l.state.working = false := by rcases h with h | h <;> rw [h] <;> rfl
    have hlow := termLowStep_idle (s := s) (k := k) hw
    rw [hcount, setLease_self hk] at hlow
    rw [tickSlot_of hk, hcount, setLease_self hk, hlow, termEndStep_idle, graceEndStep_idle, offerLapseStep_idle]
    · intro m hm q e
      obtain rfl := Option.some.inj (hk.symm.trans hm)
      rcases h with h | h <;> rw [h] at e <;> cases e
    · intro m hm e
      obtain rfl := Option.some.inj (hk.symm.trans hm)
      rcases h with h | h <;> rw [h] at e <;> cases e
    · intro m hm
      obtain rfl := Option.some.inj (hk.symm.trans hm)
      exact .inl hw

end

end

end Sys2Proof.Machine

/-! PROOFS. TERM_TICK at the wait queue and at the quiet times (R38, R44, R50). -/

namespace Sys2Proof.Machine

/-! ## Work that no slot takes part in -/

/-- Nothing but the queue, the port records and the notices has changed, and no slot's entry. -/
structure OffTable (s t : State) : Prop where
  only : { t with queue := s.queue, portRecs := s.portRecs, maps := s.maps } = s
  entry : ∀ q, (t.map q).slots = (s.map q).slots

section
variable {s t u : State}

theorem OffTable.refl (s : State) : OffTable s s := ⟨rfl, fun _ => rfl⟩

theorem OffTable.trans (a : OffTable s t) (b : OffTable t u) : OffTable s u where
  only := (congrArg (fun v : State => { v with queue := s.queue, portRecs := s.portRecs, maps := s.maps }) b.only :).trans
    a.only
  entry q := (b.entry q).trans (a.entry q)

theorem OffTable.slots (a : OffTable s t) : t.slots = s.slots := (congrArg State.slots a.only :)
theorem OffTable.cells (a : OffTable s t) : t.cells = s.cells := (congrArg State.cells a.only :)
theorem OffTable.heldBy (a : OffTable s t) : t.heldBy = s.heldBy := (congrArg State.heldBy a.only :)
theorem OffTable.patTaken (a : OffTable s t) : t.patTaken = s.patTaken := (congrArg State.patTaken a.only :)
theorem OffTable.guardTaken (a : OffTable s t) : t.guardTaken = s.guardTaken := (congrArg State.guardTaken a.only :)
theorem OffTable.patInbox (a : OffTable s t) : t.patInbox = s.patInbox := (congrArg State.patInbox a.only :)
theorem OffTable.guardInbox (a : OffTable s t) : t.guardInbox = s.guardInbox := (congrArg State.guardInbox a.only :)
theorem OffTable.settling (a : OffTable s t) : t.settling = s.settling := (congrArg State.settling a.only :)
theorem OffTable.reports (a : OffTable s t) : t.reports = s.reports := (congrArg State.reports a.only :)
theorem OffTable.profiles (a : OffTable s t) : t.profiles = s.profiles := (congrArg State.profiles a.only :)

theorem OffTable.beside (a : OffTable s t) (k : Slot) : Beside k s t := by
  refine ⟨by rw [a.slots], fun q => by rw [a.entry], by rw [a.settling], a.heldBy, a.profiles, fun n _ => ?_,
    fun c _ => by rw [a.patInbox], fun g _ => by rw [a.guardInbox], fun c => ?_, fun g => ?_⟩
  · rw [State.cell, a.cells]
    rfl
  · rw [a.patInbox]
  · rw [a.guardInbox]

/-! ## The wait queue -/

/-- The key of a waiting entry. -/
def entryKey (e : QueueEntry) : Port × Byte := (e.port, e.ticket)

theorem waitExpiryStep_of {e : QueueEntry} (hd : (s.queue.map entryKey).Nodup) (he : e ∈ s.queue) :
    waitExpiryStep e.port e.ticket s
      = if e.waitRemaining = 0 then postTicket e TicketKind.waitExpired (removeEntry e.port e.ticket s) else s := by
  have hfind : s.queue.find? (fun x => x.port = e.port && x.ticket = e.ticket) = some e := by
    cases hf : s.queue.find? (fun x => x.port = e.port && x.ticket = e.ticket) with
    | none =>
      rw [List.find?_eq_none] at hf
      exact absurd (by simp) (hf e he)
    | some x =>
      have hx := List.find?_some hf
      simp only [Bool.and_eq_true, decide_eq_true_eq] at hx
      rw [entry_of_key hd he (List.mem_of_find?_eq_some hf) hx.1 hx.2]
  unfold waitExpiryStep
  rw [hfind]

theorem offTable_expired (e : QueueEntry) (kd : KindSet) (s : State) :
    OffTable s (postTicket e kd (removeEntry e.port e.ticket s)) := by
  refine ⟨rfl, fun q => ?_⟩
  rw [postTicket_map]
  split
  · rename_i h
    rw [h]
    rfl
  · rfl

theorem offTable_waitExpiryStep (p : Port) (ticket : Byte) (s : State) : OffTable s (waitExpiryStep p ticket s) := by
  unfold waitExpiryStep
  split
  · split
    · rename_i e hf _
      have hx := List.find?_some hf
      simp only [Bool.and_eq_true, decide_eq_true_eq] at hx
      rw [← hx.1, ← hx.2]
      exact offTable_expired ..
    · exact .refl s
  · exact .refl s

/-- The entries of a list that stand at 0 leave. -/
def expireEach (es : List QueueEntry) (s : State) : State :=
  es.foldl (fun s (e : QueueEntry) => waitExpiryStep e.port e.ticket s) s

theorem offTable_expireEach (es : List QueueEntry) (s : State) : OffTable s (expireEach es s) := by
  induction es generalizing s with
  | nil => exact .refl s
  | cons e es ih => exact (offTable_waitExpiryStep ..).trans (ih _)

theorem expireEach_subject (es : List QueueEntry) (s : State) (q : Port) :
    ((expireEach es s).map q).port = (s.map q).port ∧ (expireEach es s).portRec q = s.portRec q := by
  induction es generalizing s with
  | nil => exact ⟨rfl, rfl⟩
  | cons e es ih =>
    have hstep : ((waitExpiryStep e.port e.ticket s).map q).port = (s.map q).port
        ∧ (waitExpiryStep e.port e.ticket s).portRec q = s.portRec q := by
      unfold waitExpiryStep
      split
      · split
        · refine ⟨?_, by simp⟩
          rw [postTicket_map]
          split
          · rename_i h
            rw [h]
            rfl
          · rfl
        · exact ⟨rfl, rfl⟩
      · exact ⟨rfl, rfl⟩
    exact ⟨(ih _).1.trans hstep.1, (ih _).2.trans hstep.2⟩

theorem waitExpiryStep_keepsTicket (p : Port) (ticket : Byte) (s : State) {q : Port} {tk : Byte} {kind : KindSet}
    (h : HoldsTicket s q tk kind) : HoldsTicket (waitExpiryStep p ticket s) q tk kind := by
  unfold waitExpiryStep
  split
  · split
    · refine (postTicket_keeps _ _ _).holdsTicket ?_
      unfold HoldsTicket at *
      simpa using h
    · exact h
  · exact h

theorem expireEach_keepsTicket (es : List QueueEntry) (s : State) {q : Port} {tk : Byte} {kind : KindSet}
    (h : HoldsTicket s q tk kind) : HoldsTicket (expireEach es s) q tk kind := by
  induction es generalizing s with
  | nil => exact h
  | cons e es ih => exact ih _ (waitExpiryStep_keepsTicket _ _ s h)

/-- Every entry at 0 leaves with WAIT_EXPIRED, and no other. -/
theorem expireEach_of {es : List QueueEntry} (hd : (s.queue.map entryKey).Nodup) (hes : (es.map entryKey).Nodup)
    (hsub : ∀ e ∈ es, e ∈ s.queue) :
    (∀ x ∈ (expireEach es s).queue, x ∈ s.queue ∧ (x ∈ es → x.waitRemaining ≠ 0))
      ∧ ∀ e ∈ es, e.waitRemaining = 0 → HoldsTicket (expireEach es s) e.port e.ticket TicketKind.waitExpired := by
  induction es generalizing s with
  | nil => exact ⟨fun x hx => ⟨hx, fun h => absurd h (by simp)⟩, fun e he => absurd he (by simp)⟩
  | cons e es ih =>
    have he : e ∈ s.queue := hsub e (by simp)
    rw [List.map_cons, List.nodup_cons] at hes
    have hother : ∀ x ∈ es, ¬(x.port = e.port ∧ x.ticket = e.ticket) := fun x hx h =>
      hes.1 (List.mem_map.mpr ⟨x, hx, by simp [entryKey, h.1, h.2]⟩)
    have hstep : expireEach (e :: es) s = expireEach es (waitExpiryStep e.port e.ticket s) := rfl
    rw [hstep, waitExpiryStep_of hd he]
    by_cases hw : e.waitRemaining = 0
    · rw [if_pos hw]
      have hqueue : ∀ x, x ∈ (postTicket e TicketKind.waitExpired (removeEntry e.port e.ticket s)).queue
          ↔ x ∈ s.queue ∧ (x.port = e.port → x.ticket ≠ e.ticket) := fun x => by
        rw [← mem_removeEntry]
        simp
      have hsublist : List.Sublist (postTicket e TicketKind.waitExpired (removeEntry e.port e.ticket s)).queue s.queue := by
        simp [removeEntry]
      obtain ⟨h₁, h₂⟩ := ih (hd.sublist (hsublist.map _)) hes.2 fun x hx =>
        (hqueue x).mpr ⟨hsub x (by simp [hx]), fun hp ht => hother x hx ⟨hp, ht⟩⟩
      refine ⟨fun x hx => ?_, fun x hx hx0 => ?_⟩
      · obtain ⟨hx, hes'⟩ := h₁ x hx
        obtain ⟨hx, hne⟩ := (hqueue x).mp hx
        refine ⟨hx, fun hxe => ?_⟩
        rcases List.mem_cons.mp hxe with rfl | hxe
        · exact absurd rfl (hne rfl)
        · exact hes' hxe
      · rcases List.mem_cons.mp hx with rfl | hx
        · exact expireEach_keepsTicket _ _ (holdsTicket_postTicket ..)
        · exact h₂ x hx hx0
    · rw [if_neg hw]
      obtain ⟨h₁, h₂⟩ := ih hd hes.2 fun x hx => hsub x (by simp [hx])
      refine ⟨fun x hx => ?_, fun x hx hx0 => ?_⟩
      · obtain ⟨hx, hes'⟩ := h₁ x hx
        refine ⟨hx, fun hxe => ?_⟩
        rcases List.mem_cons.mp hxe with rfl | hxe
        · exact hw
        · exact hes' hxe
      · rcases List.mem_cons.mp hx with rfl | hx
        · exact absurd hx0 hw
        · exact h₂ x hx hx0

/-- A waiting entry after a tick. -/
def waited (e : QueueEntry) : QueueEntry := { e with waitRemaining := e.waitRemaining - 1 }

theorem tickQueue_eq (s : State) : tickQueue s = expireEach (s.queue.map waited) (countWaits s) := rfl

theorem offTable_countWaits (s : State) : OffTable s (countWaits s) := ⟨rfl, fun _ => rfl⟩

theorem offTable_tickQueue (s : State) : OffTable s (tickQueue s) := by
  rw [tickQueue_eq]
  exact (offTable_countWaits s).trans (offTable_expireEach (s.queue.map waited) (countWaits s))

theorem tickQueue_subject (s : State) (q : Port) :
    ((tickQueue s).map q).port = (s.map q).port ∧ (tickQueue s).portRec q = s.portRec q :=
  expireEach_subject _ (countWaits s) q

/-- Every wait falls by one, and the entries whose wait ends leave with WAIT_EXPIRED. -/
theorem tickQueue_waits (hs : Safe s) :
    (∀ x ∈ (tickQueue s).queue, ∃ e ∈ s.queue, 2 ≤ e.waitRemaining
        ∧ x = { e with waitRemaining := e.waitRemaining - 1 })
      ∧ ∀ e ∈ s.queue, e.waitRemaining ≤ 1 → HoldsTicket (tickQueue s) e.port e.ticket TicketKind.waitExpired := by
  have hd : ((countWaits s).queue.map entryKey).Nodup := by
    have : (countWaits s).queue.map entryKey = s.queue.map fun e => (e.port, e.ticket) := by
      simp only [countWaits, List.map_map]
      rfl
    rw [this]
    exact hs.waits.2.1
  obtain ⟨h₁, h₂⟩ := expireEach_of (es := s.queue.map waited) hd hd fun e he => he
  refine ⟨fun x hx => ?_, fun e he hw => ?_⟩
  · obtain ⟨hx, hne⟩ := h₁ x hx
    have hx0 := hne hx
    obtain ⟨e, he, rfl⟩ := List.mem_map.mp hx
    refine ⟨e, he, ?_, rfl⟩
    simp only at hx0
    omega
  · have := h₂ (waited e) (List.mem_map.mpr ⟨e, he, rfl⟩) (by simp only [waited]; omega)
    exact this

/-! ## The quiet times -/

/-- What the tick at one port leaves of another. -/
structure BesidePort (p : Port) (s t : State) : Prop where
  portRec : t.portRec p = s.portRec p
  map : t.map p = s.map p

theorem setPortRec_self (p : Port) (s : State) : s.setPortRec p (s.portRec p) = s := by
  have : vset s.portRecs p (s.portRec p) = s.portRecs := by
    apply vext
    intro q
    rw [vget_vset]
    split
    · rename_i e
      rw [e]
      rfl
    · rfl
  unfold State.setPortRec
  rw [this]

theorem tickQuiet_running {p : Port} {n : Nat} (h : (s.portRec p).quiet = some n) (hn : 2 ≤ n) :
    tickQuiet p s = s.setPortRec p { s.portRec p with quiet := some (n - 1) } := by
  have hq : ((s.setPortRec p { s.portRec p with quiet := some (n - 1) }).portRec p).quiet = some (n - 1) := by
    rw [State.setPortRec_portRec, if_pos rfl]
  unfold tickQuiet
  rw [h]
  unfold quietEndStep
  simp only [Option.map_some, hq]
  split
  · rename_i e
    have := Option.some.inj e
    omega
  all_goals rfl

theorem tickQuiet_ends {p : Port} {n : Nat} (h : (s.portRec p).quiet = some n) (hn : n ≤ 1) :
    tickQuiet p s = quietEnded p (s.setPortRec p { s.portRec p with quiet := some 0 }) := by
  have hn' : n - 1 = 0 := by omega
  unfold tickQuiet
  rw [h, Option.map_some, hn']
  refine quietEndStep_zero ?_
  rw [State.setPortRec_portRec, if_pos rfl]

theorem tickQuiet_idle {p : Port} (h : (s.portRec p).quiet = none) : tickQuiet p s = s := by
  have hq : (s.portRec p).quiet.map (· - 1) = (s.portRec p).quiet := by rw [h]; rfl
  unfold tickQuiet
  rw [hq, setPortRec_self]
  unfold quietEndStep
  rw [h]

theorem offTable_tickQuiet (p : Port) (s : State) : OffTable s (tickQuiet p s) := by
  cases h : (s.portRec p).quiet with
  | none => rw [tickQuiet_idle h]; exact .refl s
  | some n =>
    by_cases hn : 2 ≤ n
    · rw [tickQuiet_running h hn]
      exact ⟨rfl, fun _ => rfl⟩
    · rw [tickQuiet_ends h (by omega)]
      refine ⟨rfl, fun q => ?_⟩
      rw [quietEnded, postPort_map]
      split
      · rename_i e
        rw [e]
        rfl
      · rfl

theorem besidePort_tickQuiet {p q : Port} (hpq : q ≠ p) (s : State) : BesidePort p s (tickQuiet q s) := by
  cases h : (s.portRec q).quiet with
  | none => rw [tickQuiet_idle h]; exact ⟨rfl, rfl⟩
  | some n =>
    by_cases hn : 2 ≤ n
    · rw [tickQuiet_running h hn]
      exact ⟨(State.setPortRec_portRec ..).trans (if_neg hpq.symm), rfl⟩
    · rw [tickQuiet_ends h (by omega)]
      refine ⟨?_, ?_⟩
      · rw [quietEnded_portRec, if_neg hpq.symm, State.setPortRec_portRec, if_neg hpq.symm]
      · rw [quietEnded, postPort_map, if_neg hpq.symm]
        rfl

/-- The quiet time of a port through a tick. -/
structure QuietTicked (s t : State) (p : Port) : Prop where
  counter : (t.portRec p).ticketCounter = (s.portRec p).ticketCounter
  running : ∀ n, (s.portRec p).quiet = some n → 2 ≤ n →
    (t.portRec p).quiet = some (n - 1) ∧ (t.map p).port = (s.map p).port
  ends : ∀ n, (s.portRec p).quiet = some n → n ≤ 1 →
    (t.portRec p).quiet = none ∧ (t.map p).port = (s.map p).port ||| PortKind.quietEnded
  idle : (s.portRec p).quiet = none → (t.portRec p).quiet = none ∧ (t.map p).port = (s.map p).port

theorem quietTicked_one (p : Port) (s : State) : QuietTicked s (tickQuiet p s) p := by
  refine ⟨?_, fun n h hn => ?_, fun n h hn => ?_, fun h => ?_⟩
  · cases h : (s.portRec p).quiet with
    | none => rw [tickQuiet_idle h]
    | some n =>
      by_cases hn : 2 ≤ n
      · rw [tickQuiet_running h hn, State.setPortRec_portRec, if_pos rfl]
      · rw [tickQuiet_ends h (by omega), quietEnded_portRec, if_pos rfl, State.setPortRec_portRec, if_pos rfl]
  · rw [tickQuiet_running h hn, State.setPortRec_portRec, if_pos rfl]
    exact ⟨rfl, rfl⟩
  · rw [tickQuiet_ends h hn, quietEnded_portRec, if_pos rfl, quietEnded_port, if_pos rfl]
    exact ⟨rfl, rfl⟩
  · rw [tickQuiet_idle h]
    exact ⟨h, rfl⟩

/-- The quiet times of the ports through a tick. -/
theorem tickQuiet_all (s : State) (p : Port) : QuietTicked s (forPorts tickQuiet s) p := by
  obtain ⟨u, -, before, -, after⟩ := forPorts_at (R := BesidePort p) (P := fun _ => True) (f := tickQuiet) (k := p)
    (fun _ => ⟨rfl, rfl⟩) (fun a b => ⟨b.portRec.trans a.portRec, b.map.trans a.map⟩) (fun _ _ _ => trivial)
    (fun q u hq _ => besidePort_tickQuiet hq u) (s := s) trivial
  obtain ⟨h₁, h₂, h₃, h₄⟩ := quietTicked_one p u
  rw [before.portRec, before.map] at *
  refine ⟨?_, fun n h hn => ?_, fun n h hn => ?_, fun h => ?_⟩
  · rw [after.portRec, h₁]
  · rw [after.portRec, after.map]
    exact h₂ n h hn
  · rw [after.portRec, after.map]
    exact h₃ n h hn
  · rw [after.portRec, after.map]
    exact h₄ h

theorem offTable_quietTicks (s : State) : OffTable s (forPorts tickQuiet s) :=
  forPorts_inv (OffTable s) tickQuiet (fun p _ hu => hu.trans (offTable_tickQuiet p _)) s (.refl s)

theorem quietTicks_tickets (s : State) (p : Port) : ((forPorts tickQuiet s).map p).tickets = (s.map p).tickets :=
  (forPorts_calm calm_tickQuiet s).still.tickets p

theorem quietTicks_queue (s : State) : (forPorts tickQuiet s).queue = s.queue := by
  refine forPorts_keeps State.queue tickQuiet (fun p s => ?_) s
  cases h : (s.portRec p).quiet with
  | none => rw [tickQuiet_idle h]
  | some n =>
    by_cases hn : 2 ≤ n
    · rw [tickQuiet_running h hn]
      rfl
    · rw [tickQuiet_ends h (by omega)]
      rfl

end

end Sys2Proof.Machine

/-! PROOFS. TERM_TICK: O43. -/

namespace Sys2Proof.Machine

/-! ## The tick at one slot is work on that slot -/

section
variable {s : State} {k : Slot} {l : Lease}

theorem atSlot_termLowStep (k : Slot) (s : State) : AtSlot k s (termLowStep k s) := by
  unfold termLowStep
  split
  · rename_i l hk
    split
    · exact (atSlot_alike (m := { l with termLow := true }) hk (by constructor <;> rfl)).trans (atSlot_postSlot ..)
    · exact .refl k s
  · exact .refl k s

theorem atSlot_termEndStep (hs : Safe s) (k : Slot) : AtSlot k s (termEndStep k s) := by
  unfold termEndStep
  split
  · rename_i l hk
    split
    · rename_i h
      split
      · exact atSlot_retire hs ..
      · exact atSlot_graceEntered hs hk (live_of_working h.1)
    · exact .refl k s
  · exact .refl k s

theorem atSlot_graceEndStep (hs : Safe s) (k : Slot) : AtSlot k s (graceEndStep k s) := by
  unfold graceEndStep
  split
  · split
    · exact atSlot_retire hs ..
    all_goals exact .refl k s
  · exact .refl k s

theorem atSlot_offerLapseStep (k : Slot) (s : State) : AtSlot k s (offerLapseStep k s) := by
  unfold offerLapseStep
  split
  · split
    · split
      · exact .refl k s
      · exact (atSlot_endOffer k s).trans (atSlot_postSlot ..)
    all_goals exact .refl k s
  · exact .refl k s

theorem tickSlot_free (hk : s.lease k = none) : tickSlot k s = s := by simp [tickSlot, hk]

theorem atSlot_tickSlot (hs : Safe s) (k : Slot) : AtSlot k s (tickSlot k s) := by
  cases hk : s.lease k with
  | none => rw [tickSlot_free hk]; exact .refl k s
  | some l =>
    rw [tickSlot_of hk]
    have h₁ := (calm_setLease hk (alike_count l)).still.safe hs
    have h₂ := (calm_termLowStep k _).still.safe h₁
    have h₃ := (termEndStep_work (lost := fun _ _ => True) k _).safe h₂
    exact ((((atSlot_alike hk (alike_count l)).trans (atSlot_termLowStep k _)).trans (atSlot_termEndStep h₂ k)).trans
      (atSlot_graceEndStep h₃ k)).trans (atSlot_offerLapseStep k _)

theorem tickSlot_safe (k : Slot) (hs : Safe s) : Safe (tickSlot k s) :=
  (tickSlot_work (lost := fun _ _ => True) k s).safe hs

end

/-! ## What the tick makes of a record -/

/-- A kind of the record stays when it enters GRACE. -/
theorem graceEntered_holds {s : State} {k : Slot} {m : Lease} {q : Port} {gen : Byte} {kind : KindSet} (hg : (s.handle k).gen = gen)
    (h : Holds s q k gen kind) : Holds (graceEntered k m s) q k gen kind := by
  have hw : Holds (enterGrace k m (withdrawOffer k s)) q k gen kind := by
    unfold Holds
    rw [enterGrace_map]
    unfold withdrawOffer
    split
    · split
      · refine holds_postSlot (u := endOffer k s) ?_ (fun _ => by rw [endOffer_handle, hg]) rfl
        unfold Holds
        rwa [endOffer_map]
      all_goals exact h
    · exact h
  exact holds_postSlot hw (fun _ => by rw [enterGrace_handle, withdrawOffer_handle, hg]) rfl

section
variable {s : State} {k : Slot} {l : Lease} (hk : s.lease k = some l)
include hk

theorem lowTicked_safe (hs : Safe s) (hw : l.state.working = true) : Safe (lowTicked k l s) := by
  rw [← termLowStep_working hw]
  exact (calm_termLowStep k _).still.safe ((calm_setLease hk (alike_count l)).still.safe hs)

/-- A working lease whose term and offer window go on. -/
theorem tickSlot_counts (hw : l.state.working = true) (hr : ∀ r, l.term.bind (·.remaining) = some r → 2 ≤ r)
    (hq : ∀ q, l.count.state ≠ .handover q 0) : tickSlot k s = lowTicked k l s := by
  rw [tickSlot_goes_on hk hw hr, offerLapseStep_idle]
  intro m hm
  obtain rfl := Option.some.inj ((lowTicked_lease k l s).symm.trans hm)
  exact hq

/-- A working lease whose offer window ends. -/
theorem tickSlot_lapses {q : Port} (hw : l.state.working = true)
    (hr : ∀ r, l.term.bind (·.remaining) = some r → 2 ≤ r) (hq : l.count.state = .handover q 0) : tickSlot k s
      = postSlot l.holder k SlotKind.offerLapsed .none ((lowTicked k l s).setLease k { ticked l with state := .active }) := by
  rw [tickSlot_goes_on hk hw hr]
  have hrem : (counted l).remaining ≠ some 0 := by
    rw [counted_remaining]
    cases h : l.term.bind (·.remaining) with
    | none => simp
    | some r =>
      have := hr r h
      simp
      omega
  exact offerLapseStep_zero (l := counted l) (lowTicked_lease k l s) hq hrem

/-- A lease that does not end at the tick keeps what its lines and its channel look at. -/
theorem tickSlot_stays (h : ¬EndsAtTick l) : RecordsOnly s (tickSlot k s) ∧ ∃ m, (tickSlot k s).lease k = some m
    ∧ m.state.live = l.state.live ∧ m.faults = l.faults ∧ m.params = l.params := by
  by_cases hw : l.state.working = true
  · have hr : ∀ r, l.term.bind (·.remaining) = some r → 2 ≤ r := fun r hr => by
      by_contra hlt
      exact h (.inl ⟨(working_iff _).mp hw, r, hr, by omega⟩)
    have hlow := lowTicked_only k l s
    by_cases hq : ∃ q, l.count.state = .handover q 0
    · obtain ⟨q, hq⟩ := hq
      rw [tickSlot_lapses hk hw hr hq]
      refine ⟨hlow.trans ((recordsOnly_setLease ..).trans (recordsOnly_postSlot ..)), { ticked l with state := .active },
        by simp [State.setLease_lease], ?_, rfl, rfl⟩
      rw [live_of_working hw]
      rfl
    · rw [tickSlot_counts hk hw hr fun q e => hq ⟨q, e⟩]
      exact ⟨hlow, counted l, lowTicked_lease k l s, count_live l, rfl, rfl⟩
  · cases hst : l.state with
    | active => exact absurd (by rw [hst]; rfl) hw
    | handover q left => exact absurd (by rw [hst]; rfl) hw
    | grace left =>
      have hleft : ¬left ≤ 1 := fun hle => h (.inr ⟨left, hst, hle⟩)
      rw [tickSlot_grace hk hst, if_neg hleft]
      exact ⟨recordsOnly_setLease .., _, (State.setLease_lease ..).trans (if_pos rfl), rfl, rfl, rfl⟩
    | retiring r =>
      rw [tickSlot_idle hk (.inr ⟨r, .inl hst⟩)]
      exact ⟨rfl, l, hk, by rw [hst], rfl, rfl⟩
    | closed r =>
      rw [tickSlot_idle hk (.inr ⟨r, .inr hst⟩)]
      exact ⟨rfl, l, hk, by rw [hst], rfl, rfl⟩

omit hk in
theorem endsAtTick_working (hw : l.state.working = true) (h : EndsAtTick l) :
    ∃ r, l.term.bind (·.remaining) = some r ∧ r ≤ 1 := by
  rcases h with ⟨-, h⟩ | ⟨left, h, -⟩
  · exact h
  · rw [h] at hw
    cases hw

omit hk in
theorem endsAtTick_grace (hw : ¬l.state.working = true) (h : EndsAtTick l) : ∃ left, l.state = .grace left ∧ left ≤ 1 :=
  h.resolve_left fun h => hw ((working_iff _).mpr h.1)

/-- No tick frees a slot. -/
theorem tickSlot_isSome : ((tickSlot k s).lease k).isSome := by
  by_cases h : EndsAtTick l
  · by_cases hw : l.state.working = true
    · obtain ⟨r, hr, h₁⟩ := endsAtTick_working hw h
      by_cases hg : l.grace = 0
      · rw [tickSlot_retires hk hw hr h₁ hg, retire_lease (lowTicked_lease k l s) (live_of_working (counted_working hw))]
        rfl
      · rw [tickSlot_enters hk hw hr h₁ (by omega), graceEntered_lease, if_pos rfl]
        rfl
    · obtain ⟨left, hst, h₁⟩ := endsAtTick_grace hw h
      rw [tickSlot_grace hk hst, if_pos h₁, retire_lease (l := { l with state := .grace 0 })
        ((State.setLease_lease ..).trans (if_pos rfl)) rfl]
      rfl
  · obtain ⟨-, m, hm, -⟩ := tickSlot_stays hk h
    rw [hm]
    rfl

/-- TERM_LOW stays posted through the ends of the tick. -/
theorem tickSlot_termLow (hw : l.state.working = true) (hlow : lowNext l = true) :
    Holds (tickSlot k s) l.holder k (s.handle k).gen SlotKind.termLow := by
  have hl := lowTicked_holds (s := s) (k := k) hlow
  have hh := congrArg Handle.gen (lowTicked_handle k l s)
  by_cases hr : ∀ r, l.term.bind (·.remaining) = some r → 2 ≤ r
  · by_cases hq : ∃ q, l.count.state = .handover q 0
    · obtain ⟨q, hq⟩ := hq
      rw [tickSlot_lapses hk hw hr hq]
      exact holds_postSlot (u := (lowTicked k l s).setLease k { ticked l with state := .active }) hl
        (fun _ => by rw [State.setLease_handle, hh]) rfl
    · rwa [tickSlot_counts hk hw hr fun q e => hq ⟨q, e⟩]
  · obtain ⟨r, hr⟩ := not_forall.mp hr
    obtain ⟨hr, hlt⟩ := Classical.not_imp.mp hr
    by_cases hg : l.grace = 0
    · rw [tickSlot_retires hk hw hr (by omega) hg]
      exact retire_holds _ hh hl
    · rw [tickSlot_enters hk hw hr (by omega) (by omega)]
      exact graceEntered_holds hh hl

end

/-! ## The whole tick (R44) -/

/-- The work of a term tick before the end of its step. -/
def termTicked (s : State) : State := forPorts tickQuiet (tickQueue (forSlots tickSlot s))

/-- The step of a term tick. -/
def afterTermTick (s : State) : State := endStep s (termTicked s)

theorem exec_termTick (s : State) : exec .termTick s = .next (afterTermTick s) := rfl

section
variable {s : State} {k : Slot} {l m : Lease} {n : Line} (hs : Safe s)

theorem termTicked_safe (hs : Safe s) : Safe (termTicked s) := (tick_work (lost := fun _ _ => True) s).safe hs

/-- The work of the tick, seen from slot `k`. -/
theorem termTicked_at (hs : Safe s) (k : Slot) :
    ∃ u, Safe u ∧ Beside k s u ∧ Safe (tickSlot k u) ∧ Beside k (tickSlot k u) (termTicked s) := by
  obtain ⟨u, h₁, h₂, h₃, h₄⟩ := forSlots_beside (f := tickSlot) (fun j u hu => tickSlot_safe j hu)
    (fun j u hu => atSlot_tickSlot hu j) hs k
  exact ⟨u, h₁, h₂, h₃, (h₄.trans ((offTable_tickQueue _).beside k)).trans ((offTable_quietTicks _).beside k)⟩

/-- The end of the step: a scan, if one is due, and the checks. -/
theorem afterTermTick_ends (s : State) : ∃ x, afterTermTick s = restartChecks s x ∧ Scanned (termTicked s) x :=
  endStep_scanned s (termTicked s)

theorem afterTermTick_keeps (s : State) : EndKeeps (termTicked s) (afterTermTick s) := endStep_keeps s (termTicked s)

theorem termTicked_profile (n : Line) : (termTicked s).profile n = s.profile n := by
  have := (kept_tick s).profiles
  exact congrArg (fun v => vget v n) this

include hs

theorem termTicked_heldBy : (termTicked s).heldBy = s.heldBy := by
  obtain ⟨u, hu, h₁, -, h₂⟩ := termTicked_at hs 0
  rw [h₂.heldBy, (atSlot_tickSlot hu 0).heldBy, h₁.heldBy]

section
variable (hk : s.lease k = some l)
include hk

theorem afterTermTick_lease (h : ∀ u, u.lease k = some l → (tickSlot k u).lease k = some m) :
    (afterTermTick s).lease k = some m := by
  obtain ⟨u, -, h₁, -, h₂⟩ := termTicked_at hs k
  have hm : (termTicked s).lease k = some m := h₂.lease.trans (h u (h₁.lease.trans hk))
  rw [(afterTermTick_keeps s).lease k (by rw [hm]; rfl), hm]

theorem termTicked_isSome : ((termTicked s).lease k).isSome := by
  obtain ⟨u, -, h₁, -, h₂⟩ := termTicked_at hs k
  rw [h₂.lease]
  exact tickSlot_isSome (h₁.lease.trans hk)

theorem afterTermTick_holds {q : Port} {kind : KindSet}
    (h : ∀ u, u.lease k = some l → Holds (tickSlot k u) q k (u.handle k).gen kind) :
    Holds (afterTermTick s) q k (s.handle k).gen kind := by
  obtain ⟨u, -, h₁, -, h₂⟩ := termTicked_at hs k
  have hq := h u (h₁.lease.trans hk)
  rw [h₁.handle] at hq
  exact (afterTermTick_keeps s).holds (termTicked_isSome hs hk) (h₂.holds hq)

theorem afterTermTick_retired {r : CloseReason}
    (h : ∀ u, Safe u → u.lease k = some l → Retired u (tickSlot k u) k m r) : Retired s (afterTermTick s) k m r := by
  obtain ⟨u, hu, h₁, -, h₂⟩ := termTicked_at hs k
  exact ((h₁.retired (h u hu (h₁.lease.trans hk))).beside h₂).endKeeps (afterTermTick_keeps s)

/-- A live lease that its tick puts into GRACE. -/
theorem afterTermTick_inGrace (hl : l.state.live = true) (hm : m.lines = l.lines) (hp : m.params = l.params)
    (h : ∀ u, u.lease k = some l → InGrace u (tickSlot k u) k m) : InGrace s (afterTermTick s) k m := by
  obtain ⟨u, hu, h₁, h₃, h₂⟩ := termTicked_at hs k
  have hheld : ∀ n, has m.lines n = true → vget s.heldBy n = some k := fun n hn =>
    hs.lines hk hl n (by rwa [← hm])
  have hown : ∀ n, has m.lines n = true → vget (tickSlot k u).heldBy n = some k := fun n hn => by
    rw [(atSlot_tickSlot hu k).heldBy, h₁.heldBy]
    exact hheld n hn
  have hbefore : InGrace s (tickSlot k u) k m := (h u (h₁.lease.trans hk)).from_eq h₁.handle
    (fun n hn => h₁.cells n (hheld n hn)) (fun c hc => h₁.pat c (by rw [patOf_live hk hl, ← hp]; exact hc))
    fun g hg => h₁.guard g (by rw [guardOf_live hk hl, ← hp]; exact hg)
  obtain ⟨x, hx, hscan⟩ := afterTermTick_ends s
  rw [hx]
  exact ((hbefore.beside h₂ hown).scanned hscan (termTicked_safe hs) fun n hn => by
    rw [h₂.heldBy]; exact hown n hn).restart

end

end

end Sys2Proof.Machine

/-! PROOFS. TERM_TICK, clause by clause: O43. -/

namespace Sys2Proof.Machine

/-! ## The clauses of one record -/

section
variable {s : State} {k : Slot} {l : Lease} (hs : Safe s) (hk : s.lease k = some l)

/-- What the tick counts does not matter to an end. -/
theorem counted_offer (l : Lease) :
    ∀ q left, (ticked l).state = .handover q left → ∃ left', l.count.state = .handover q left' := by
  intro q left h
  have h : l.state = .handover q left := h
  exact ⟨left - 1, by simp [Lease.count, h]⟩

include hs hk

/-- An ACTIVE lease whose term goes on. -/
theorem termTick_active (hst : l.state = .active) (hr : ∀ r, l.term.bind (·.remaining) = some r → 2 ≤ r) :
    (afterTermTick s).lease k = some (ticked l) := by
  have hw : l.state.working = true := by rw [hst]; rfl
  have hc : l.count.state = l.state := by simp [Lease.count, hst]
  refine afterTermTick_lease hs hk fun u hu => ?_
  have hno : ∀ q, l.count.state ≠ .handover q 0 := fun q e => by
    rw [hc, hst] at e
    cases e
  have hrec := lowTicked_lease k l u
  unfold counted at hrec
  rw [hc] at hrec
  rw [tickSlot_counts hu hw hr hno]
  exact hrec

/-- A lease in HANDOVER whose term and offer window go on. -/
theorem termTick_handover {q : Port} {left : Nat} (hst : l.state = .handover q left)
    (hr : ∀ r, l.term.bind (·.remaining) = some r → 2 ≤ r) (h₂ : 2 ≤ left) :
    (afterTermTick s).lease k = some { ticked l with state := .handover q (left - 1) } := by
  have hw : l.state.working = true := by rw [hst]; rfl
  have hc : l.count.state = .handover q (left - 1) := by simp [Lease.count, hst]
  refine afterTermTick_lease hs hk fun u hu => ?_
  rw [tickSlot_counts hu hw hr fun p e => ?_, lowTicked_lease]
  · unfold counted
    rw [hc]
  · rw [hc] at e
    have := (LeaseState.handover.inj e).2
    omega

/-- A lease in HANDOVER whose offer window ends before its term. -/
theorem termTick_lapses {q : Port} {left : Nat} (hst : l.state = .handover q left)
    (hr : ∀ r, l.term.bind (·.remaining) = some r → 2 ≤ r) (h₁ : left ≤ 1) :
    (afterTermTick s).lease k = some { ticked l with state := .active }
      ∧ Holds (afterTermTick s) l.holder k (s.handle k).gen SlotKind.offerLapsed := by
  have hw : l.state.working = true := by rw [hst]; rfl
  have hc : l.count.state = .handover q 0 := by
    have : left - 1 = 0 := by omega
    simp [Lease.count, hst, this]
  refine ⟨afterTermTick_lease hs hk fun u hu => ?_, afterTermTick_holds hs hk fun u hu => ?_⟩
  · rw [tickSlot_lapses hu hw hr hc, postSlot_lease, State.setLease_lease, if_pos rfl]
  · rw [tickSlot_lapses hu hw hr hc]
    unfold Holds
    rw [postSlot_map, if_pos rfl, State.setLease_handle, lowTicked_handle, kindsFor_postSlot, or_and_self]

/-- A working lease whose term ends with a grace. -/
theorem termTick_grace {r : Nat} (hw : l.state.working = true) (hr : l.term.bind (·.remaining) = some r) (h₁ : r ≤ 1)
    (hg : 0 < l.grace) : InGrace s (afterTermTick s) k (ticked l) := by
  refine afterTermTick_inGrace hs hk (live_of_working hw) rfl rfl fun u hu => ?_
  rw [tickSlot_enters hu hw hr h₁ hg]
  have hlow := lowTicked_only k l u
  have hin : InGrace u (graceEntered k (counted l) (lowTicked k l u)) k (counted l) :=
    (graceEntered_inGrace (lowTicked_lease k l u)).from_eq (lowTicked_handle k l u) (fun n _ => hlow.cell n)
      (fun c _ => by rw [hlow.patInbox]) fun g _ => by rw [hlow.guardInbox]
  exact hin.of_state (l := ticked l) (counted_offer l)

/-- A working lease whose term ends without one. -/
theorem termTick_retires {r : Nat} (hw : l.state.working = true) (hr : l.term.bind (·.remaining) = some r) (h₁ : r ≤ 1)
    (hg : l.grace = 0) : Retired s (afterTermTick s) k (ticked l) .expired := by
  refine afterTermTick_retired hs hk fun u husafe hu => ?_
  rw [tickSlot_retires hu hw hr h₁ hg]
  have hlow := lowTicked_only k l u
  have hlive := live_of_working (counted_working hw)
  have hret : Retired u (retire k .expired (lowTicked k l u)) k (counted l) .expired :=
    (retire_retired (lowTicked_lease k l u) hlive
      ((lowTicked_safe hu husafe hw).lines (lowTicked_lease k l u) hlive) .expired).from_eq
      (lowTicked_handle k l u) fun n => by rw [State.profile, hlow.profiles]; rfl
  exact hret.of_state (l := ticked l) (counted_offer l)

/-- A grace that goes on. -/
theorem termTick_graceGoesOn {left : Nat} (hst : l.state = .grace left) (h₂ : 2 ≤ left) :
    (afterTermTick s).lease k = some { l with state := .grace (left - 1) } := by
  refine afterTermTick_lease hs hk fun u hu => ?_
  rw [tickSlot_grace hu hst, if_neg (by omega), State.setLease_lease, if_pos rfl]

/-- A grace that ends. -/
theorem termTick_graceEnds {left : Nat} (hst : l.state = .grace left) (h₁ : left ≤ 1) :
    Retired s (afterTermTick s) k l .expired := by
  refine afterTermTick_retired hs hk fun u husafe hu => ?_
  rw [tickSlot_grace hu hst, if_pos h₁]
  have hrec : (u.setLease k { l with state := .grace 0 }).lease k = some { l with state := .grace 0 } :=
    (State.setLease_lease ..).trans (if_pos rfl)
  have hlines : ∀ n, has l.lines n = true → vget u.heldBy n = some k := husafe.lines hu (by rw [hst]; rfl)
  have hret : Retired u (retire k .expired (u.setLease k { l with state := .grace 0 })) k
      { l with state := .grace 0 } .expired :=
    (retire_retired hrec rfl hlines .expired).from_eq (State.setLease_handle ..) fun n => rfl
  exact hret.of_state fun q x e => by rw [hst] at e; cases e

theorem termTick_ended {r : CloseReason} (hst : l.state = .retiring r ∨ l.state = .closed r) :
    (afterTermTick s).lease k = some l :=
  afterTermTick_lease hs hk fun u hu => by rw [tickSlot_idle hu (.inr ⟨r, hst⟩), hu]

/-- The lines and the channel of a lease that does not end. -/
theorem termTick_stays (h : ¬EndsAtTick l) : (∀ n, vget s.heldBy n = some k → (afterTermTick s).cell n = s.cell n)
    ∧ (∀ c, l.state.live = true → l.params.patChan = some c → vget (afterTermTick s).patInbox c = vget s.patInbox c)
    ∧ ∀ g, l.state.live = true → l.params.guardChan = some g →
      vget (afterTermTick s).guardInbox g = vget s.guardInbox g := by
  obtain ⟨u, -, h₁, -, h₂⟩ := termTicked_at hs k
  obtain ⟨hrec, m, hm, hlive, hfaults, hparams⟩ := tickSlot_stays (h₁.lease.trans hk) h
  obtain ⟨x, hx, hscan⟩ := afterTermTick_ends s
  have hv := termTicked_safe hs
  have hvm : (termTicked s).lease k = some m := h₂.lease.trans hm
  refine ⟨fun n hn => ?_, fun c hl hc => ?_, fun g hl hg => ?_⟩
  · have hun : vget (tickSlot k u).heldBy n = some k := by rw [hrec.heldBy, h₁.heldBy]; exact hn
    have hvn : vget (termTicked s).heldBy n = some k := by rw [h₂.heldBy]; exact hun
    have hcell : (termTicked s).cell n = s.cell n := by rw [h₂.cells n hun, hrec.cell, h₁.cells n hn]
    obtain ⟨hxn, hxcell⟩ := hscan.keeps.held n k hvn
    have halike : HeldAlike s x n k l m := ⟨hn, hxn, hk,
      (hscan.keeps.lease k (by rw [hvm]; rfl)).trans hvm, hlive, hfaults, hparams, ?_, ?_, ?_⟩
    · rw [hx, halike.cell, hxcell, hcell]
    · rw [State.profile, hscan.profiles]
      exact termTicked_profile n
    · rw [hscan.rstn]
      exact (kept_tick s).rstn
    · rw [hxcell, hcell]
  · have hpat : patOf (termTicked s) k = some c := by rw [patOf_live hvm (hlive.trans hl), hparams, hc]
    have htaken := (hv.channels.1 c).mpr ⟨k, hpat⟩
    rw [hx, (by simp : (restartChecks s x).patInbox = x.patInbox), hscan.later.pat c htaken, h₂.pat c (by rw [← h₂.patOf, hpat]), hrec.patInbox,
      h₁.pat c (by rw [patOf_live hk hl, hc])]
  · have hguard : guardOf (termTicked s) k = some g := by rw [guardOf_live hvm (hlive.trans hl), hparams, hg]
    have htaken := (hv.channels.2.2.1 g).mpr ⟨k, hguard⟩
    rw [hx, (by simp : (restartChecks s x).guardInbox = x.guardInbox), hscan.later.guard g htaken, h₂.guard g (by rw [← h₂.guardOf, hguard]),
      hrec.guardInbox, h₁.guard g (by rw [guardOf_live hk hl, hg])]

end

/-! ## The lines, the channels and the settle records -/

section
variable {s : State} (hs : Safe s)
include hs

/-- A record that does not end starts no settle countdown. -/
theorem termTick_settling {k : Slot} (h : ∀ l, s.lease k = some l → ¬EndsAtTick l) :
    vget (afterTermTick s).settling k = vget s.settling k := by
  obtain ⟨u, -, h₁, -, h₂⟩ := termTicked_at hs k
  have hown : vget (tickSlot k u).settling k = vget u.settling k := by
    cases hk : u.lease k with
    | none => rw [tickSlot_free hk]
    | some l => rw [(tickSlot_stays hk (h l (by rw [← h₁.lease, hk]))).1.settling]
  rw [(afterTermTick_keeps s).settling, h₂.settling, hown, h₁.settling]

/-- What is kept by the work on every slot is kept by the whole work of a tick, its queue and its ports apart. -/
theorem termTicked_inv (P : State → Prop) (work : ∀ j u, Safe u → P u → P (tickSlot j u))
    (off : ∀ u v, OffTable u v → P u → P v) (h : P s) : P (termTicked s) := by
  have h₁ : Safe (forSlots tickSlot s) ∧ P (forSlots tickSlot s) :=
    forSlots_inv (fun u => Safe u ∧ P u) tickSlot (fun j u hu => ⟨tickSlot_safe j hu.1, work j u hu.1 hu.2⟩) s ⟨hs, h⟩
  exact off _ _ (offTable_quietTicks _) (off _ _ (offTable_tickQueue _) h₁.2)

/-- A line that no lease holds and no scan grants keeps its cell. -/
theorem termTick_unheld {n : Line} (hn : vget s.heldBy n = none) (ht : vget (afterTermTick s).heldBy n = none) :
    (afterTermTick s).cell n = s.cell n := by
  obtain ⟨x, hx, hscan⟩ := afterTermTick_ends s
  have hcell : (termTicked s).cell n = s.cell n ∧ vget (termTicked s).heldBy n = none := by
    refine termTicked_inv hs (fun u => u.cell n = s.cell n ∧ vget u.heldBy n = none) (fun j u hu h => ?_)
      (fun u v a h => ?_) ⟨rfl, hn⟩
    · have hat := atSlot_tickSlot hu j
      refine ⟨(hat.cells n (by rw [h.2]; simp)).trans h.1, by rw [hat.heldBy, h.2]⟩
    · refine ⟨?_, by rw [a.heldBy, h.2]⟩
      rw [State.cell, a.cells]
      exact h.1
  have hxn : vget x.heldBy n = none := by
    rw [hx] at ht
    simpa using ht
  rw [hx, restartChecks_cell_rest hn hxn (by rw [hscan.rstn]; exact (kept_tick s).rstn) ?_ ?_]
  · rw [State.profile, hscan.profiles]
    exact termTicked_profile n
  · rw [hscan.unheld n hxn, hcell.1]

/-- A channel that no lease has and no scan takes is told nothing. -/
theorem termTick_freePat {c : PatChan} (hc : vget s.patTaken c = false) (ht : vget (afterTermTick s).patTaken c = false) :
    vget (afterTermTick s).patInbox c = vget s.patInbox c := by
  obtain ⟨x, hx, hscan⟩ := afterTermTick_ends s
  have hnone : ∀ j, patOf s j ≠ some c := fun j e => by
    rw [(hs.channels.1 c).mpr ⟨j, e⟩] at hc
    cases hc
  have hinbox : vget (termTicked s).patInbox c = vget s.patInbox c ∧ ∀ j, patOf (termTicked s) j ≠ some c := by
    refine termTicked_inv hs (fun u => vget u.patInbox c = vget s.patInbox c ∧ ∀ j, patOf u j ≠ some c)
      (fun j u hu h => ?_) (fun u v a h => ?_) ⟨rfl, hnone⟩
    · have hat := atSlot_tickSlot hu j
      refine ⟨(hat.pat c (h.2 j)).trans h.1, fun i => ?_⟩
      by_cases hi : i = j
      · rw [hi]
        exact fun e => h.2 j (hat.patOwn c e)
      · rw [patOf, hat.lease hi]
        exact h.2 i
    · refine ⟨by rw [a.patInbox, h.1], fun i => ?_⟩
      rw [(a.beside i).patOf]
      exact h.2 i
  have hxc : vget x.patTaken c = false := by
    rw [hx] at ht
    simpa using ht
  rw [hx, (by simp : (restartChecks s x).patInbox = x.patInbox), hscan.pat c hxc, hinbox.1]

theorem termTick_freeGuard {g : GuardChan} (hg : vget s.guardTaken g = false)
    (ht : vget (afterTermTick s).guardTaken g = false) :
    vget (afterTermTick s).guardInbox g = vget s.guardInbox g := by
  obtain ⟨x, hx, hscan⟩ := afterTermTick_ends s
  have hnone : ∀ j, guardOf s j ≠ some g := fun j e => by
    rw [(hs.channels.2.2.1 g).mpr ⟨j, e⟩] at hg
    cases hg
  have hinbox : vget (termTicked s).guardInbox g = vget s.guardInbox g ∧ ∀ j, guardOf (termTicked s) j ≠ some g := by
    refine termTicked_inv hs (fun u => vget u.guardInbox g = vget s.guardInbox g ∧ ∀ j, guardOf u j ≠ some g)
      (fun j u hu h => ?_) (fun u v a h => ?_) ⟨rfl, hnone⟩
    · have hat := atSlot_tickSlot hu j
      refine ⟨(hat.guard g (h.2 j)).trans h.1, fun i => ?_⟩
      by_cases hi : i = j
      · rw [hi]
        exact fun e => h.2 j (hat.guardOwn g e)
      · rw [guardOf, hat.lease hi]
        exact h.2 i
    · refine ⟨by rw [a.guardInbox, h.1], fun i => ?_⟩
      rw [(a.beside i).guardOf]
      exact h.2 i
  have hxg : vget x.guardTaken g = false := by
    rw [hx] at ht
    simpa using ht
  rw [hx, (by simp : (restartChecks s x).guardInbox = x.guardInbox), hscan.guard g hxg, hinbox.1]

theorem termTick_held {n : Line} {k : Slot} (hn : vget s.heldBy n = some k) :
    vget (afterTermTick s).heldBy n = some k :=
  ((afterTermTick_keeps s).held n k (by rw [termTicked_heldBy hs]; exact hn)).1

/-! ## The waits and the quiet times -/

/-- The work on the slots leaves the queue, the quiet times and the port subjects alone. -/
theorem slotTicks_rest (p : Port) : (forSlots tickSlot s).queue = s.queue
    ∧ ((forSlots tickSlot s).portRec p).quiet = (s.portRec p).quiet
    ∧ ((forSlots tickSlot s).portRec p).ticketCounter = (s.portRec p).ticketCounter
    ∧ ((forSlots tickSlot s).map p).port = (s.map p).port := by
  have key := forSlots_atSlot (fun u => (u.queue, (u.portRec p).quiet, (u.portRec p).ticketCounter, (u.map p).port))
    (f := tickSlot) (fun j u hu => tickSlot_safe j hu) (fun j u hu => by
      have hat := atSlot_tickSlot hu j
      rw [hat.queue, (hat.records p).1, (hat.records p).2, (hat.subjects p).1]) hs
  simpa only [Prod.mk.injEq] using key

theorem termTick_waits : (∀ x ∈ (afterTermTick s).queue, ∃ e ∈ s.queue, 2 ≤ e.waitRemaining
        ∧ x = { e with waitRemaining := e.waitRemaining - 1 })
      ∧ ∀ e ∈ s.queue, e.waitRemaining ≤ 1 →
        HoldsTicket (afterTermTick s) e.port e.ticket TicketKind.waitExpired := by
  have hsafe : Safe (forSlots tickSlot s) := forSlots_inv Safe tickSlot (fun j u hu => tickSlot_safe j hu) s hs
  have hkeeps := afterTermTick_keeps s
  obtain ⟨h₁, h₂⟩ := tickQueue_waits hsafe
  rw [(slotTicks_rest hs 0).1] at h₁ h₂
  refine ⟨fun x hx => h₁ x ?_, fun e he hw => hkeeps.holdsTicket ?_⟩
  · rw [← quietTicks_queue]
    exact hkeeps.queue.subset hx
  · have := h₂ e he hw
    unfold HoldsTicket at this ⊢
    rw [termTicked, quietTicks_tickets]
    exact this

theorem termTick_quiet (p : Port) : QuietTicked s (afterTermTick s) p := by
  have hkeeps := afterTermTick_keeps s
  obtain ⟨-, hq, hc, hm⟩ := slotTicks_rest hs p
  obtain ⟨hm₂, hr₂⟩ := tickQueue_subject (forSlots tickSlot s) p
  obtain ⟨h₁, h₂, h₃, h₄⟩ := tickQuiet_all (tickQueue (forSlots tickSlot s)) p
  rw [hr₂] at h₁ h₂ h₃ h₄
  rw [hm₂, hm] at h₂ h₃ h₄
  rw [hq] at h₂ h₃ h₄
  rw [hc] at h₁
  have hquiet := (hkeeps.records p).1
  have hport := (hkeeps.subjects p).1
  refine ⟨(hkeeps.records p).2.trans h₁, fun n h hn => ?_, fun n h hn => ?_, fun h => ?_⟩
  · rw [hquiet, hport]
    exact h₂ n h hn
  · rw [hquiet, hport]
    exact h₃ n h hn
  · rw [hquiet, hport]
    exact h₄ h

end

/-! ## A tick with no countdown running (R44) -/

theorem tickQueue_empty {s : State} (h : s.queue = []) : tickQueue s = s := by
  have hc : countWaits s = s := by
    unfold countWaits
    rw [h, List.map_nil, ← h]
  rw [tickQueue_eq, h, List.map_nil, hc]
  rfl

theorem termTick_idle {s : State} (hl : ∀ k l, s.lease k = some l → (l.state = .active ∧ l.term = none)
      ∨ ∃ r, l.state = .retiring r ∨ l.state = .closed r) (hq : s.queue = []) (hp : ∀ p, (s.portRec p).quiet = none) :
    afterTermTick s = s := by
  have h₁ : forSlots tickSlot s = s := forSlots_inv (· = s) tickSlot (fun k u hu => by
    rw [hu]
    cases hk : s.lease k with
    | none => exact tickSlot_free hk
    | some l => exact tickSlot_idle hk (hl k l hk)) s rfl
  have h₂ : forPorts tickQuiet s = s := forPorts_inv (· = s) tickQuiet (fun p u hu => by
    rw [hu]
    exact tickQuiet_idle (hp p)) s rfl
  rw [afterTermTick, termTicked, h₁, tickQueue_empty hq, h₂, endStep_self]

theorem termTick_engineKept (s : State) : EngineKept s (afterTermTick s) :=
  endStep_engineKept (kept_tick s) (tick_work (lost := fun _ _ => True) s).arrivals

theorem termTick_hostSide (s : State) : HostSideKept s (afterTermTick s) := endStep_hostSide (kept_tick s)

theorem termTick_reports {s : State} (hs : Safe s) : (afterTermTick s).reports = s.reports := by
  have h : (termTicked s).reports = s.reports := by
    refine termTicked_inv hs (fun u => u.reports = s.reports) (fun j u _ h => ?_) (fun _ _ a h => a.reports.trans h) rfl
    simpa using h
  rw [afterTermTick, (by simp : (endStep s (termTicked s)).reports = (termTicked s).reports), h]

theorem termTick_handle {s : State} {k : Slot} {l : Lease} (hs : Safe s) (hk : s.lease k = some l) :
    (afterTermTick s).handle k = s.handle k := by
  rw [(afterTermTick_keeps s).handle k (termTicked_isSome hs hk)]
  exact (tick_work (lost := fun _ _ => True) s).handle k

theorem termTick_low {s : State} {k : Slot} {l : Lease} (hs : Safe s) (hk : s.lease k = some l)
    (hw : l.state.working = true) (hlow : lowNext l = true) :
    Holds (afterTermTick s) l.holder k (s.handle k).gen SlotKind.termLow :=
  afterTermTick_holds hs hk fun u hu => tickSlot_termLow hu hw hlow

/-- Settles O43. -/
theorem termTick : Obligations.TermTick := by
  intro s hs
  refine ⟨afterTermTick s, exec_termTick s, termTick_engineKept s, termTick_hostSide s, termTick_reports hs,
    fun k l hk => ?_, fun k h => termTick_settling hs h, fun n k hn => termTick_held hs hn,
    fun n hn ht => termTick_unheld hs hn ht, fun c hc ht => termTick_freePat hs hc ht,
    fun g hg ht => termTick_freeGuard hs hg ht, (termTick_waits hs).1, (termTick_waits hs).2, fun p => ?_, termTick_idle⟩
  · refine ⟨termTick_handle hs hk, fun hw hlow => termTick_low hs hk (working_of hw) hlow,
      fun hst hr => termTick_active hs hk hst hr, fun q left hst hr => ⟨termTick_handover hs hk hst hr,
        termTick_lapses hs hk hst hr⟩, fun r hw hr h₁ hg => termTick_grace hs hk (working_of hw) hr h₁ hg,
      fun r hw hr h₁ hg => termTick_retires hs hk (working_of hw) hr h₁ hg,
      fun left hst h₂ => termTick_graceGoesOn hs hk hst h₂, fun left hst h₁ => termTick_graceEnds hs hk hst h₁,
      fun r hst => termTick_ended hs hk hst, fun h => ?_⟩
    obtain ⟨h₁, h₂, h₃⟩ := termTick_stays hs hk h
    exact ⟨h₁, fun spec c hl hp => h₂ c hl (by rw [hp]; rfl), fun spec armed g hl hp => h₃ g hl (by rw [hp]; rfl)⟩
  · obtain ⟨h₁, h₂, h₃, h₄⟩ := termTick_quiet hs p
    exact ⟨h₁, h₂, h₃, h₄⟩

end Sys2Proof.Machine

/-! PROOFS. The levels that a channel sends to the lines of its lease (R125). -/

namespace Sys2Proof.Machine

/-- The levels sent for a handle, by a source that may act in the state of its lease, are applied on a line. -/
def Reaches (s : State) (h : Handle) (may : Lease → Bool) (n : Line) : Prop :=
  ∃ l, s.lease h.slot = some l ∧ s.handle h.slot = h ∧ may l = true ∧ vget s.heldBy n = some h.slot
    ∧ has l.lines n = true

section
variable {s : State} {h : Handle} {may : Lease → Bool} {lv : Line → Level} {n : Line} {l : Lease}

theorem restartChecks_only (b s : State) : { restartChecks b s with cells := s.cells } = s := by
  unfold restartChecks
  rfl

/-- The state of a lease with its lines at the levels, before the checks restart. -/
def leveled (h : Handle) (l : Lease) (lv : Line → Level) (s : State) : State :=
  { s with
    cells := vmap (fun n c =>
      if vget s.heldBy n = some h.slot ∧ has l.lines n then { c with assigned := some (lv n) } else c) s.cells }

theorem leveled_cell (h : Handle) (l : Lease) (lv : Line → Level) (s : State) (n : Line) : (leveled h l lv s).cell n
    = if vget s.heldBy n = some h.slot ∧ has l.lines n then { s.cell n with assigned := some (lv n) }
      else s.cell n := by
  simp only [leveled, State.cell, vget_vmap]

theorem applyLevels_may (hl : s.lease h.slot = some l) (hh : s.handle h.slot = h) (hm : may l = true) :
    applyLevels h may lv s = restartChecks s (leveled h l lv s) := by
  unfold applyLevels
  rw [hl]
  exact if_pos ⟨hh, hm⟩

theorem leveled_only (h : Handle) (l : Lease) (lv : Line → Level) (s : State) :
    { leveled h l lv s with cells := s.cells } = s := by
  unfold leveled
  rfl

theorem leveled_sameLine (hcell : (leveled h l lv s).cell n = s.cell n) : SameLine s (leveled h l lv s) n := by
  have honly := leveled_only h l lv s
  have hslots := (congrArg State.slots honly :)
  have hheld := (congrArg State.heldBy honly :)
  have hprof := (congrArg State.profiles honly :)
  have hrstn := (congrArg State.rstnAsserted honly :)
  dsimp only at hslots hheld hprof hrstn
  refine ⟨hrstn, by rw [State.profile, hprof]; rfl, liveHolding_congr (by rw [hheld]) fun k _ => ?_, by rw [hcell]⟩
  rw [State.lease, hslots]
  rfl

/-- Levels for another handle than the slot's, or for a lease in which their source may not act, are void. -/
theorem applyLevels_void (hno : ∀ l, s.lease h.slot = some l → s.handle h.slot = h → may l = false) :
    applyLevels h may lv s = s := by
  unfold applyLevels
  split
  · rename_i l hl
    refine if_neg fun ⟨hh, hm⟩ => ?_
    rw [hno l hl hh] at hm
    cases hm
  · rfl

/-- The branches of a level's application. -/
theorem applyLevels_cases (h : Handle) (may : Lease → Bool) (lv : Line → Level) (s : State) :
    applyLevels h may lv s = s ∨ ∃ l, s.lease h.slot = some l ∧ s.handle h.slot = h ∧ may l = true
      ∧ applyLevels h may lv s = restartChecks s (leveled h l lv s) := by
  by_cases hno : ∀ l, s.lease h.slot = some l → s.handle h.slot = h → may l = false
  · exact .inl (applyLevels_void hno)
  · simp only [not_forall, Bool.not_eq_false] at hno
    obtain ⟨l, hl, hh, hm⟩ := hno
    exact .inr ⟨l, hl, hh, hm, applyLevels_may hl hh hm⟩

theorem applyLevels_only (h : Handle) (may : Lease → Bool) (lv : Line → Level) (s : State) :
    { applyLevels h may lv s with cells := s.cells } = s := by
  rcases applyLevels_cases h may lv s with e | ⟨l, -, -, -, e⟩
  · rw [e]
  · rw [e]
    exact (congrArg (fun v : State => { v with cells := s.cells }) (restartChecks_only s (leveled h l lv s)) :).trans
      (leveled_only h l lv s)

theorem applyLevels_reached (hr : Reaches s h may n) : ((applyLevels h may lv s).cell n).assigned = some (lv n) := by
  obtain ⟨l, hl, hh, hm, hn, hlines⟩ := hr
  rw [applyLevels_may hl hh hm, (restartChecks_rest ..).1, leveled_cell, if_pos ⟨hn, hlines⟩]

/-- A line that the levels do not reach keeps its cell. -/
theorem applyLevels_missed (hr : ¬Reaches s h may n) : (applyLevels h may lv s).cell n = s.cell n := by
  rcases applyLevels_cases h may lv s with e | ⟨l, hl, hh, hm, e⟩
  · rw [e]
  · have hcell : (leveled h l lv s).cell n = s.cell n := by
      rw [leveled_cell, if_neg fun hc => hr ⟨l, hl, hh, hm, hc.1, hc.2⟩]
    rw [e, restartChecks_cell_same (leveled_sameLine hcell), hcell]

/-- Levels change nothing of a cell but the assigned level and the mismatch count. -/
theorem applyLevels_rest (h : Handle) (may : Lease → Bool) (lv : Line → Level) (s : State) (n : Line) :
    let c := (applyLevels h may lv s).cell n
    c.debounced = (s.cell n).debounced ∧ c.stability = (s.cell n).stability ∧ c.settle = (s.cell n).settle := by
  rcases applyLevels_cases h may lv s with e | ⟨l, hl, hh, hm, e⟩
  · rw [e]
    exact ⟨rfl, rfl, rfl⟩
  · obtain ⟨-, h₁, h₂, h₃⟩ := restartChecks_rest s (leveled h l lv s) n
    dsimp only
    rw [e, h₁, h₂, h₃, leveled_cell]
    split <;> exact ⟨rfl, rfl, rfl⟩

/-- Levels that change the configuration of a line start its mismatch count afresh. -/
theorem applyLevels_checks (h : Handle) (may : Lease → Bool) (lv : Line → Level) (s : State) (n : Line) :
    ((applyLevels h may lv s).cell n).mismatch = 0
      ∨ ((applyLevels h may lv s).cell n).mismatch = (s.cell n).mismatch
        ∧ appliedConfig (applyLevels h may lv s) n = appliedConfig s n := by
  rcases applyLevels_cases h may lv s with e | ⟨l, hl, hh, hm, e⟩
  · rw [e]
    exact .inr ⟨rfl, rfl⟩
  · rw [e, appliedConfig_restart, restartChecks_cell_eq]
    split
    · rename_i hc
      refine .inr ⟨?_, hc.1.symm⟩
      rw [leveled_cell]
      split <;> rfl
    · exact .inl rfl

end

end Sys2Proof.Machine

/-! PROOFS. The ends of settle countdowns, steps, holds and pulses: O54 and O55. -/

namespace Sys2Proof.Machine

/-! ## A settle countdown (R60, R132) -/

section
variable {s : State} {k : Slot} {r : Settling}

theorem settleDue_iff (s : State) (r : Settling) : settleDue s r = true
    ↔ r.ticked = true ∧ ∀ n, has r.lines n = true → (s.cell n).settle = 0 := by
  simp only [settleDue, Bool.and_eq_true, List.all_eq_true, linesOf, List.mem_filter, List.mem_finRange, true_and,
    beq_iff_eq]

/-- The settle record goes, with its report. -/
def settled (k : Slot) (r : Settling) (s : State) : State :=
  { s with settling := vset s.settling k none }.report (.settleComplete { slot := k, gen := r.gen })

theorem settleEnd_due (hk : vget s.settling k = some r) (h : settleDue s r = true) : settleEnd k s = settled k r s := by
  simp [settleEnd, hk, h, settled]

theorem settleEnd_wait (hk : vget s.settling k = some r) (h : settleDue s r = false) : settleEnd k s = s := by
  simp [settleEnd, hk, h]

theorem settled_settling (j : Slot) : vget (settled k r s).settling j
    = if j = k then none else vget s.settling j := by
  simp only [settled, State.report, vget_vset]

theorem settled_reports : (settled k r s).reports = s.reports ++ [.settleComplete { slot := k, gen := r.gen }] := rfl

theorem settled_only : { settled k r s with settling := s.settling, reports := s.reports } = s := rfl

end

/-! ## The steps of a pattern (R108, R109) -/

section
variable {s : State} {c : PatChan} {ch : PatternChannel} {i : Nat} {left : Option Nat}

/-- The channel at the start of step `i`. -/
def atStep (ch : PatternChannel) (i : Nat) (left : Option Nat) : PatternChannel :=
  { ch with step := i, phase := .running (durationOfStep ch.steps i) left }

theorem beginStep_eq : beginStep c ch i left s = applyLevels ch.handle (fun l => l.state.working)
    (fun n => has (levelsOfStep ch.steps i) n) (s.setPatChan c (some (atStep ch i left))) := rfl

theorem setPatChan_chan (x : Option PatternChannel) (d : PatChan) :
    vget (s.setPatChan c x).patChans d = if d = c then x else vget s.patChans d := by
  rw [State.setPatChan, vget_vset]

theorem setGuardChan_chan (g d : GuardChan) (x : Option GuardChannel) :
    vget (s.setGuardChan g x).guardChans d = if d = g then x else vget s.guardChans d := by
  rw [State.setGuardChan, vget_vset]

theorem beginStep_chan (d : PatChan) : vget (beginStep c ch i left s).patChans d
    = if d = c then some (atStep ch i left) else vget s.patChans d := by
  have h : (beginStep c ch i left s).patChans = (s.setPatChan c (some (atStep ch i left))).patChans := by
    rw [beginStep_eq]
    simp
  rw [h, setPatChan_chan]

theorem beginStep_reports : (beginStep c ch i left s).reports = s.reports := by
  rw [beginStep_eq]
  simp

theorem beginStep_only : { beginStep c ch i left s with patChans := s.patChans, cells := s.cells } = s :=
  (congrArg (fun v : State => { v with patChans := s.patChans }) (applyLevels_only ch.handle (fun l => l.state.working)
    (fun n => has (levelsOfStep ch.steps i) n) (s.setPatChan c (some (atStep ch i left)))) :)

/-- A step's levels reach the lines of a working lease. -/
theorem beginStep_shows {l : Lease} {n : Line} (hl : s.lease ch.handle.slot = some l)
    (hh : s.handle ch.handle.slot = ch.handle) (hw : l.state = .active ∨ ∃ q x, l.state = .handover q x)
    (hn : has l.lines n = true) (hheld : vget s.heldBy n = some ch.handle.slot) :
    ((beginStep c ch i left s).cell n).assigned = some (has (levelsOfStep ch.steps i) n) := by
  rw [beginStep_eq]
  exact applyLevels_reached ⟨l, hl, hh, working_of hw, hheld, hn⟩

/-- The channel at the end of its last step and loop. -/
def atDone (ch : PatternChannel) : PatternChannel := { ch with phase := .done }

theorem patternDone_chan (d : PatChan) : vget (patternDone c ch s).patChans d
    = if d = c then some (atDone ch) else vget s.patChans d := setPatChan_chan ..

theorem patternDone_reports : (patternDone c ch s).reports = s.reports ++ [.patternDone ch.handle] := rfl

theorem patternDone_only : { patternDone c ch s with patChans := s.patChans, reports := s.reports } = s := rfl

variable {loops : Option Nat} (hc : vget s.patChans c = some ch) (hp : ch.phase = .running 0 loops)
include hc hp

theorem stepEnd_next (h : ch.step + 1 < ch.steps.length) : stepEndStep c s = beginStep c ch (ch.step + 1) loops s := by
  simp [stepEndStep, hc, hp, h]

theorem stepEnd_endless (h : ch.steps.length ≤ ch.step + 1) (hl : loops = none) :
    stepEndStep c s = beginStep c ch 0 none s := by
  subst hl
  simp [stepEndStep, hc, hp, Nat.not_lt.mpr h]

theorem stepEnd_loop {m : Nat} (h : ch.steps.length ≤ ch.step + 1) (hl : loops = some m) (hm : 2 ≤ m) :
    stepEndStep c s = beginStep c ch 0 (some (m - 1)) s := by
  subst hl
  have : 1 < m := hm
  simp [stepEndStep, hc, hp, Nat.not_lt.mpr h, this]

theorem stepEnd_done {m : Nat} (h : ch.steps.length ≤ ch.step + 1) (hl : loops = some m) (hm : m ≤ 1) :
    stepEndStep c s = patternDone c ch s := by
  subst hl
  have : ¬1 < m := by omega
  simp [stepEndStep, hc, hp, Nat.not_lt.mpr h, this]

/-- What follows a step whose countdown stands at 0. -/
theorem stepEnd_cases : (∃ i left, stepEndStep c s = beginStep c ch i left s) ∨ stepEndStep c s = patternDone c ch s := by
  by_cases h : ch.step + 1 < ch.steps.length
  · exact .inl ⟨_, _, stepEnd_next hc hp h⟩
  · have h := Nat.not_lt.mp h
    cases hl : loops with
    | none => exact .inl ⟨_, _, stepEnd_endless hc hp h hl⟩
    | some m =>
      by_cases hm : 2 ≤ m
      · exact .inl ⟨_, _, stepEnd_loop hc hp h hl hm⟩
      · exact .inr (stepEnd_done hc hp h hl (by omega))

end

/-- Settles O54. -/
theorem settleCountdownEndAndStepEnd : Obligations.SettleCountdownEndAndStepEnd := by
  intro s
  refine ⟨fun k r hk ht hz => ?_, fun k r hk hno => ?_, fun c ch loops hc hp => ?_⟩
  · have hexec : exec (.settleCountdownEnd k) s = .next (settleEnd k s) := rfl
    rw [settleEnd_due hk ((settleDue_iff s r).mpr ⟨ht, hz⟩)] at hexec
    refine ⟨_, hexec, ?_, fun j hj => ?_, settled_reports, settled_only⟩
    · rw [settled_settling, if_pos rfl]
    · rw [settled_settling, if_neg hj]
  · have hexec : exec (.settleCountdownEnd k) s = .next (settleEnd k s) := rfl
    rw [hexec, settleEnd_wait hk]
    rw [← Bool.not_eq_true, settleDue_iff]
    rintro ⟨ht, hz⟩
    rcases hno with h | ⟨n, hn, h⟩
    · rw [h] at ht
      cases ht
    · exact h (hz n hn)
  · have hexec : exec (.stepEnd c) s = .next (stepEndStep c s) := rfl
    have hbegins : ∀ i left, vget (beginStep c ch i left s).patChans c = some (atStep ch i left)
        ∧ (beginStep c ch i left s).reports = s.reports
        ∧ ∀ l n, s.lease ch.handle.slot = some l → s.handle ch.handle.slot = ch.handle →
          (l.state = .active ∨ ∃ q x, l.state = .handover q x) → has l.lines n = true →
          vget s.heldBy n = some ch.handle.slot →
          ((beginStep c ch i left s).cell n).assigned = some (has (levelsOfStep ch.steps i) n) := fun i left =>
      ⟨by rw [beginStep_chan, if_pos rfl], beginStep_reports, fun l n hl hh hw hn hheld => beginStep_shows hl hh hw hn hheld⟩
    refine ⟨_, hexec, fun h => ?_, fun h hl => ?_, fun m h hl hm => ?_, fun m h hl hm => ?_, fun d hd => ?_, ?_⟩
    · rw [stepEnd_next hc hp h]
      exact hbegins ..
    · rw [stepEnd_endless hc hp h hl]
      exact hbegins ..
    · rw [stepEnd_loop hc hp h hl hm]
      exact hbegins ..
    · rw [stepEnd_done hc hp h hl hm, patternDone_chan, if_pos rfl]
      exact ⟨rfl, rfl, rfl⟩
    · rcases stepEnd_cases hc hp with ⟨i, left, e⟩ | e
      · rw [e, beginStep_chan, if_neg hd]
      · rw [e, patternDone_chan, if_neg hd]
    · rcases stepEnd_cases hc hp with ⟨i, left, e⟩ | e
      · rw [e]
        exact (congrArg (fun v : State => { v with reports := s.reports }) beginStep_only :)
      · rw [e]
        exact patternDone_only (c := c) (ch := ch)

/-! ## The levels of a guard (R86, R87) -/

section
variable {s : State} {g : GuardChan} {ch : GuardChannel} {v : Action → Level} {x : Option GuardChannel}

theorem sendAction_some {a : Action} (h : ch.action = some a) : sendAction ch v s
    = applyLevels ch.handle (fun l => l.state.isActive) (fun _ => v a) s := by
  simp [sendAction, h]

theorem sendAction_none (h : ch.action = none) : sendAction ch v s = s := by simp [sendAction, h]

/-- The levels of a guard reach the lines of an ACTIVE lease alone. -/
theorem sendAction_shows {a : Action} {l : Lease} {n : Line} (h : ch.action = some a)
    (hl : s.lease ch.handle.slot = some l) (hh : s.handle ch.handle.slot = ch.handle) (hw : l.state = .active)
    (hn : has l.lines n = true) (hheld : vget s.heldBy n = some ch.handle.slot) :
    ((sendAction ch v s).cell n).assigned = some (v a) := by
  rw [sendAction_some h]
  exact applyLevels_reached ⟨l, hl, hh, (isActive_iff _).mpr hw, hheld, hn⟩

theorem sendAction_only (ch : GuardChannel) (v : Action → Level) (s : State) :
    { sendAction ch v s with cells := s.cells } = s := by
  cases h : ch.action with
  | none => rw [sendAction_none h]
  | some a => rw [sendAction_some h]; exact applyLevels_only ..

theorem sendAction_guardChans : (sendAction ch v s).guardChans = s.guardChans :=
  (congrArg State.guardChans (sendAction_only ch v s) :)

theorem sendAction_reports : (sendAction ch v s).reports = s.reports :=
  (congrArg State.reports (sendAction_only ch v s) :)

/-- A channel that goes to another substate and sends a level. -/
def guardTo (g : GuardChan) (ch : GuardChannel) (x : Option GuardChannel) (v : Action → Level) (s : State) : State :=
  sendAction ch v (s.setGuardChan g x)

theorem guardTo_chan (d : GuardChan) : vget (guardTo g ch x v s).guardChans d
    = if d = g then x else vget s.guardChans d := by
  rw [guardTo, sendAction_guardChans, setGuardChan_chan]

theorem guardTo_reports : (guardTo g ch x v s).reports = s.reports := by
  rw [guardTo, sendAction_reports]
  rfl

theorem guardTo_only (g : GuardChan) (ch : GuardChannel) (x : Option GuardChannel) (v : Action → Level) (s : State) :
    { guardTo g ch x v s with guardChans := s.guardChans, cells := s.cells } = s :=
  (congrArg (fun u : State => { u with guardChans := s.guardChans }) (sendAction_only ch v (s.setGuardChan g x)) :)

theorem guardTo_shows {a : Action} {l : Lease} {n : Line} (h : ch.action = some a)
    (hl : s.lease ch.handle.slot = some l) (hh : s.handle ch.handle.slot = ch.handle) (hw : l.state = .active)
    (hn : has l.lines n = true) (hheld : vget s.heldBy n = some ch.handle.slot) :
    ((guardTo g ch x v s).cell n).assigned = some (v a) :=
  sendAction_shows (s := s.setGuardChan g x) h hl hh hw hn hheld

theorem guardTo_cells (h : ch.action = none) : (guardTo g ch x v s).cells = s.cells := by
  rw [guardTo, sendAction_none h]
  rfl

/-- The substate after a hold (R86). -/
def afterHold (ch : GuardChannel) : Substate :=
  match ch.action with
  | some a => .firing (Config.msPerUnit * a.pulseWidth)
  | none => .spent

theorem guardFireEnd_zero (hg : vget s.guardChans g = some ch) (hs : ch.substate = .holding 0) : guardFireEnd g s
    = (guardTo g ch (some { ch with substate := afterHold ch }) (·.pulseLevel) s).report
        (.fire ch.handle ch.recallAttached) := by
  cases ha : ch.action with
  | none => simp only [guardFireEnd, hg, hs, guardTo, afterHold, ha]
  | some a => simp only [guardFireEnd, hg, hs, guardTo, afterHold, ha]

theorem pulseEndStep_zero (hg : vget s.guardChans g = some ch) (hs : ch.substate = .firing 0) : pulseEndStep g s
    = guardTo g ch (some { ch with substate := startSubstate true (combination s ch.conditions) }) Action.idle s := by
  simp [pulseEndStep, hg, hs, guardTo]

theorem startSubstate_armed (b : Bool) : startSubstate true b = if b then .spent else .armed := by
  cases b <;> rfl

theorem combination_eq (s : State) (cs : List Condition) : combination s cs = AllTrue s cs := rfl

end

/-- Settles O55. -/
theorem guardFireAndPulseEnd : Obligations.GuardFireAndPulseEnd := by
  intro s g ch hg
  refine ⟨fun hs => ?_, fun hs => ?_⟩
  · have hexec : exec (.guardFire g) s = .next (guardFireEnd g s) := rfl
    rw [guardFireEnd_zero hg hs] at hexec
    refine ⟨_, hexec, ?_, fun a ha => ⟨fun l n hl hh hw hn hheld => guardTo_shows ha hl hh hw hn hheld, ?_⟩,
      fun ha => ⟨?_, guardTo_cells ha⟩, fun d hd => ?_, ?_⟩
    · simp only [State.report]
      rw [guardTo_reports]
    · have hnext : afterHold ch = .firing (10 * a.pulseWidth) := by simp [afterHold, ha, Config.msPerUnit]
      simp only [State.report]
      rw [guardTo_chan, if_pos rfl, hnext]
    · have hnext : afterHold ch = .spent := by simp [afterHold, ha]
      simp only [State.report]
      rw [guardTo_chan, if_pos rfl, hnext]
    · simp only [State.report]
      rw [guardTo_chan, if_neg hd]
    · exact (congrArg (fun u : State => { u with reports := s.reports }) (guardTo_only g ch
        (some { ch with substate := afterHold ch }) (·.pulseLevel) s) :)
  · have hexec : exec (.pulseEnd g) s = .next (pulseEndStep g s) := rfl
    rw [pulseEndStep_zero hg hs, startSubstate_armed] at hexec
    refine ⟨_, hexec, guardTo_reports, ?_, fun a ha l n hl hh hw hn hheld => guardTo_shows ha hl hh hw hn hheld,
      fun d hd => ?_, ?_⟩
    · rw [guardTo_chan, if_pos rfl]
      rfl
    · rw [guardTo_chan, if_neg hd]
    · exact (congrArg (fun u : State => { u with reports := s.reports }) (guardTo_only ..) :)

end Sys2Proof.Machine

/-! PROOFS. What a line shows, debounced changes and drive faults: O53. -/

namespace Sys2Proof.Machine

/-! ## What a line shows (R123, R124, R126, R133) -/

section
variable {s : State} {n : Line} {k : Slot} {l : Lease}

theorem appliedConfig_reset (h : s.rstnAsserted = true) : appliedConfig s n = .highImpedance := by
  simp [appliedConfig, h]

theorem appliedConfig_held (h : s.rstnAsserted = false) (hl : liveHolding s n = some (k, l)) : appliedConfig s n
    = if has l.faults n then .highImpedance else kindConfig l.params (s.cell n).assigned := by
  simp [appliedConfig, h, hl]

theorem appliedConfig_rest (h : s.rstnAsserted = false) (hl : liveHolding s n = none) :
    appliedConfig s n = restConfig (s.profile n) := by simp [appliedConfig, h, hl]

theorem checkedLevel_held (hl : liveHolding s n = some (k, l)) : checkedLevel s n = (appliedConfig s n).driven := by
  simp [checkedLevel, hl]

theorem checkedLevel_rest (hl : liveHolding s n = none) : checkedLevel s n
    = if (s.profile n).faultCheck then (appliedConfig s n).driven else none := by simp [checkedLevel, hl]

/-- A configuration that drives nothing is not checked. -/
theorem checkedLevel_undriven (h : (appliedConfig s n).driven = none) : checkedLevel s n = none := by
  simp [checkedLevel, h]

theorem live_iff (st : LeaseState) :
    st.live = true ↔ st = .active ∨ (∃ q x, st = .handover q x) ∨ ∃ x, st = .grace x := by
  cases st <;> simp [LeaseState.live]

theorem liveHolding_unheld (h : vget s.heldBy n = none ∨ ∃ k l r, vget s.heldBy n = some k ∧ s.lease k = some l
    ∧ l.state = .retiring r) : liveHolding s n = none := by
  rcases h with h | ⟨k, l, r, hn, hk, hst⟩
  · simp [liveHolding, holding, h]
  · rw [liveHolding_held hn hk, hst]
    rfl

/-- A line at rest shows its rest mode, or nothing with the rest-fault flag. -/
theorem restShown (hr : s.rstnAsserted = false) (hl : liveHolding s n = none) :
    appliedConfig s n = restConfig (s.profile n)
      ∧ checkedLevel s n = if (s.profile n).faultCheck then (restConfig (s.profile n)).driven else none := by
  rw [checkedLevel_rest hl, appliedConfig_rest hr hl]
  exact ⟨rfl, rfl⟩

/-- A held line shows the configuration of its lease's kind, and the driven level is checked. -/
theorem heldShown (hr : s.rstnAsserted = false) (hl : liveHolding s n = some (k, l)) (hf : has l.faults n = false) :
    appliedConfig s n = kindConfig l.params (s.cell n).assigned
      ∧ checkedLevel s n = (kindConfig l.params (s.cell n).assigned).driven := by
  rw [checkedLevel_held hl, appliedConfig_held hr hl, hf]
  exact ⟨rfl, rfl⟩

end

/-! ## A debounced change (R84, R130, R131) -/

section
variable {s : State} {n : Line} {g : GuardChan} {ch : GuardChannel} {v : Level}

/-- A guard channel keeps its set-up when it reacts. -/
theorem react_eq (ch : GuardChannel) (now : Bool) : ch.react now = { ch with substate := (ch.react now).substate } := by
  cases ch
  unfold GuardChannel.react
  dsimp only
  split <;> rfl

/-- The guard channel observes the line. -/
def GuardChannel.observes (ch : GuardChannel) (n : Line) : Bool := ch.conditions.any fun c => c.line == n

theorem observes_iff : ch.observes n = true ↔ ∃ x ∈ ch.conditions, x.line = n := by simp [GuardChannel.observes]

/-- A guard channel after a debounced change of a line. -/
def GuardChannel.sees (ch : GuardChannel) (n : Line) (now : Bool) : GuardChannel :=
  if ch.observes n then ch.react now else ch

theorem guardSees_chan (n : Line) (g d : GuardChan) (s : State) : vget (guardSees n g s).guardChans d
    = if d = g then (vget s.guardChans g).map fun ch => ch.sees n (combination s ch.conditions)
      else vget s.guardChans d := by
  unfold guardSees
  cases hg : vget s.guardChans g with
  | none =>
    dsimp only
    split
    · rename_i e
      rw [e, hg]
      rfl
    · rfl
  | some ch =>
    change vget (if ch.observes n = true then s.setGuardChan g (some (ch.react (combination s ch.conditions)))
      else s).guardChans d = _
    by_cases ho : ch.observes n = true
    · rw [if_pos ho, setGuardChan_chan]
      simp [GuardChannel.sees, ho]
    · rw [if_neg ho]
      simp only [Option.map_some, GuardChannel.sees, if_neg ho]
      split
      · rename_i e
        rw [e, hg]
      · rfl

theorem combination_of_cells {t : State} (h : t.cells = s.cells) (cs : List Condition) :
    combination t cs = combination s cs := combination_congr (fun m => by rw [State.cell, h]; rfl) cs

/-- A channel is told by its own part of the pass alone. -/
structure GuardAlike (g : GuardChan) (s t : State) : Prop where
  chan : vget t.guardChans g = vget s.guardChans g
  cells : t.cells = s.cells

/-- Every guard channel sees a debounced change once. -/
theorem tellGuards_chan (n : Line) (g : GuardChan) (s : State) : vget (tellGuards n s).guardChans g
    = (vget s.guardChans g).map fun ch => ch.sees n (combination s ch.conditions) := by
  obtain ⟨u, -, h₁, -, h₂⟩ := foldl_at (R := GuardAlike g) (P := fun _ => True) (f := guardSees n) (k := g)
    (fun _ => ⟨rfl, rfl⟩) (fun a b => ⟨b.chan.trans a.chan, b.cells.trans a.cells⟩) (fun _ _ _ => trivial)
    (fun d u hd _ => ⟨by rw [guardSees_chan, if_neg hd.symm], by simp⟩) (s := s) trivial
  rw [tellGuards, h₂.chan, guardSees_chan, if_pos rfl, h₁.chan]
  simp only [combination_of_cells h₁.cells]

theorem tellGuards_only (n : Line) (s : State) : { tellGuards n s with guardChans := s.guardChans } = s := by
  have h := tellGuards_frame n s
  dsimp only at h
  obtain ⟨h₁, h₂, h₃, h₄, h₅, h₆, h₇, h₈, h₉, h₁₀, h₁₁, h₁₂, h₁₃, h₁₄, h₁₅, h₁₆, h₁₇, h₁₈, h₁₉, h₂₀, h₂₁⟩ := h
  generalize tellGuards n s = t at *
  cases s
  cases t
  simp_all

theorem sendEdge_watch {k : Slot} {l : Lease} (hl : liveHolding s n = some (k, l)) (hw : l.params.isWatch = true) :
    sendEdge n s = s.report (.edge (s.handle k) n (s.cell n).debounced) := by
  unfold sendEdge
  rw [hl]
  dsimp only
  cases hp : l.params with
  | watch _ _ _ _ => rfl
  | drive _ _ _ | pattern _ _ | guard _ _ _ => rw [hp] at hw; cases hw

theorem sendEdge_idle (h : ∀ k l, liveHolding s n = some (k, l) → l.params.isWatch = false) : sendEdge n s = s := by
  unfold sendEdge
  split
  · rename_i k l hl
    have hw := h k l hl
    split
    · rename_i hp
      rw [hp] at hw
      cases hw
    all_goals rfl
  · rfl

/-- The state of a debounced change before the edge report. -/
def changed (n : Line) (v : Level) (s : State) : State :=
  tellGuards n (s.setCell n { s.cell n with debounced := v, stability := 0 })

theorem debouncedTo_eq (n : Line) (v : Level) (s : State) : debouncedTo n v s = sendEdge n (changed n v s) := rfl

theorem changed_cell (m : Line) : (changed n v s).cell m
    = if m = n then { s.cell n with debounced := v, stability := 0 } else s.cell m := by
  rw [changed, State.cell, (by simp : (tellGuards n (s.setCell n { s.cell n with debounced := v, stability := 0 })).cells
    = (s.setCell n { s.cell n with debounced := v, stability := 0 }).cells)]
  exact State.setCell_cell ..

theorem changed_only (n : Line) (v : Level) (s : State) :
    { changed n v s with cells := s.cells, guardChans := s.guardChans } = s :=
  (congrArg (fun u : State => { u with cells := s.cells }) (tellGuards_only n
    (s.setCell n { s.cell n with debounced := v, stability := 0 })) :)

theorem sendEdge_only (n : Line) (s : State) : { sendEdge n s with reports := s.reports } = s := by
  unfold sendEdge
  split
  · split <;> rfl
  · rfl

theorem debouncedTo_only (n : Line) (v : Level) (s : State) :
    { debouncedTo n v s with cells := s.cells, guardChans := s.guardChans, reports := s.reports } = s := by
  have h₁ := changed_only n v s
  have h₂ := sendEdge_only n (changed n v s)
  rw [debouncedTo_eq]
  generalize changed n v s = u at *
  have hr : u.reports = s.reports := (congrArg State.reports h₁ :)
  have := (congrArg (fun w : State => { w with cells := s.cells, guardChans := s.guardChans }) h₂ :)
  rw [← hr]
  exact this.trans h₁

theorem debouncedTo_cell (m : Line) : (debouncedTo n v s).cell m
    = if m = n then { s.cell n with debounced := v, stability := 0 } else s.cell m := by
  rw [debouncedTo_eq, sendEdge_cell, changed_cell]

/-- What the guards make of a debounced change. -/
theorem debouncedTo_chan (g : GuardChan) : vget (debouncedTo n v s).guardChans g
    = (vget s.guardChans g).map fun ch => ch.sees n (combination (debouncedTo n v s) ch.conditions) := by
  have h₁ : (debouncedTo n v s).guardChans = (changed n v s).guardChans := by
    rw [debouncedTo_eq]
    simp
  have h₂ : (debouncedTo n v s).cells = (s.setCell n { s.cell n with debounced := v, stability := 0 }).cells := by
    rw [debouncedTo_eq]
    simp [changed]
  simp only [combination_of_cells h₂]
  rw [h₁, changed, tellGuards_chan]
  rfl

theorem liveHolding_changed : liveHolding (changed n v s) n = liveHolding s n :=
  liveHolding_congr (by simp [changed]) fun _ _ => by simp [changed]

/-- A line of a live WATCH lease sends an edge report, and no other. -/
theorem debouncedTo_reports : (∀ k l, liveHolding s n = some (k, l) → l.params.isWatch = true →
        (debouncedTo n v s).reports = s.reports ++ [.edge (s.handle k) n v])
      ∧ ((∀ k l, liveHolding s n = some (k, l) → l.params.isWatch = false) →
        (debouncedTo n v s).reports = s.reports) := by
  have hr : (changed n v s).reports = s.reports := by simp [changed]
  refine ⟨fun k l hl hw => ?_, fun h => ?_⟩
  · have hh : (changed n v s).handle k = s.handle k := by simp [changed]
    have hc : ((changed n v s).cell n).debounced = v := by rw [changed_cell, if_pos rfl]
    rw [debouncedTo_eq, sendEdge_watch (by rw [liveHolding_changed, hl]) hw, State.report_reports, hr, hh, hc]
  · rw [debouncedTo_eq, sendEdge_idle (by rwa [liveHolding_changed]), hr]

end

/-! ## A drive fault (R134, R135) -/

section
variable {s : State} {n : Line} {k : Slot} {l : Lease}

/-- The count of a line with a drive fault starts again. -/
def recounted (n : Line) (s : State) : State := s.setCell n { s.cell n with mismatch := 0 }

/-- A line at rest gets its rest-fault flag and a report. -/
def restFaulted (n : Line) (s : State) : State :=
  (s.setProfile n { s.profile n with restFault := true }).report (.restFault n)

theorem liveHolding_recounted (m : Line) : liveHolding (recounted n s) m = liveHolding s m :=
  liveHolding_congr rfl fun _ _ => rfl

theorem driveFaultEnd_below (h : (s.cell n).mismatch < 4) : driveFaultEnd n s = s :=
  if_neg (Nat.not_le.mpr h)

theorem driveFaultEnd_held (h : 4 ≤ (s.cell n).mismatch) (hl : liveHolding s n = some (k, l)) :
    driveFaultEnd n s = (recounted n s).report (.fault (s.handle k) n) := by
  have hl' : liveHolding (recounted n s) n = some (k, l) := by rw [liveHolding_recounted, hl]
  unfold recounted at hl'
  unfold driveFaultEnd
  rw [if_pos (show Config.faultSamples ≤ (s.cell n).mismatch from h)]
  dsimp only
  rw [hl']
  rfl

theorem driveFaultEnd_rest (h : 4 ≤ (s.cell n).mismatch) (hl : liveHolding s n = none) :
    driveFaultEnd n s = restFaulted n (recounted n s) := by
  have hl' : liveHolding (recounted n s) n = none := by rw [liveHolding_recounted, hl]
  unfold recounted at hl'
  unfold driveFaultEnd
  rw [if_pos (show Config.faultSamples ≤ (s.cell n).mismatch from h)]
  dsimp only
  rw [hl']
  rfl

theorem recounted_cell (m : Line) :
    (recounted n s).cell m = if m = n then { s.cell n with mismatch := 0 } else s.cell m := State.setCell_cell ..

theorem restFaulted_profile (m : Line) : (restFaulted n s).profile m
    = if m = n then { s.profile n with restFault := true } else s.profile m := State.setProfile_profile ..

/-- A line at rest with its flag shows nothing. -/
theorem restFaulted_applied (hl : liveHolding s n = none) : appliedConfig (restFaulted n s) n = .highImpedance := by
  cases hr : s.rstnAsserted with
  | true => exact appliedConfig_reset (s := restFaulted n s) hr
  | false =>
    have hl' : liveHolding (restFaulted n s) n = none := (liveHolding_congr (s := s) rfl fun _ _ => rfl).trans hl
    rw [appliedConfig_rest (s := restFaulted n s) hr hl', restFaulted_profile, if_pos rfl]
    rfl

end

/-- A line of a live lease, outside its fault set. -/
theorem heldShown_of {s : State} {n : Line} {k : Slot} {l : Lease} (hr : s.rstnAsserted = false)
    (hn : vget s.heldBy n = some k) (hk : s.lease k = some l)
    (hst : l.state = .active ∨ (∃ q x, l.state = .handover q x) ∨ ∃ x, l.state = .grace x)
    (hf : has l.faults n = false) {params : KindParams} (hp : l.params = params) {a : Option Level}
    (ha : (s.cell n).assigned = a) :
    appliedConfig s n = kindConfig params a ∧ checkedLevel s n = (kindConfig params a).driven := by
  have hl : liveHolding s n = some (k, l) := by rw [liveHolding_held hn hk, if_pos ((live_iff _).mpr hst)]
  have hshown := heldShown hr hl hf
  rwa [hp, ha] at hshown

/-- Settles O53. -/
theorem debouncedChangeAndDriveFault : Obligations.DebouncedChangeAndDriveFault := by
  intro s n
  refine ⟨fun hr => ?_, fun k l hr hn hk hst => ⟨fun hf => ?_, fun hf => ⟨fun v hv => ⟨fun drive lv safe hp => ?_,
    fun spec ch hp => ?_, fun spec armed g hp => ?_⟩, fun pull rising falling changed hp => ?_⟩⟩, fun hr hn => ?_,
    fun hr hd => ?_, fun hm => ?_⟩
  · have happ := appliedConfig_reset (n := n) hr
    exact ⟨happ, checkedLevel_undriven (by rw [happ]; rfl)⟩
  · have hl : liveHolding s n = some (k, l) := by rw [liveHolding_held hn hk, if_pos ((live_iff _).mpr hst)]
    have happ : appliedConfig s n = .highImpedance := by rw [appliedConfig_held hr hl, if_pos hf]
    exact ⟨happ, checkedLevel_undriven (by rw [happ]; rfl)⟩
  · have hshown := heldShown_of hr hn hk hst hf hp hv
    cases drive with
    | pushPull => exact hshown
    | openDrain => cases v <;> exact hshown
  · have hshown := heldShown_of hr hn hk hst hf hp hv
    obtain ⟨drive, steps, loops, safe⟩ := spec
    cases drive with
    | pushPull => exact hshown
    | openDrain => cases v <;> exact hshown
  · exact heldShown_of hr hn hk hst hf hp hv
  · have hshown := heldShown_of hr hn hk hst hf hp rfl
    cases pull <;> exact hshown
  · have hshown := restShown hr (liveHolding_unheld hn)
    refine ⟨fun hflag => ?_, fun hflag => ?_⟩
    · have hrest : restConfig (s.profile n) = .highImpedance := by simp [restConfig, hflag]
      rw [hrest] at hshown
      exact ⟨hshown.1, hshown.2.trans (by cases (s.profile n).faultCheck <;> rfl)⟩
    · have hnone : (if (s.profile n).faultCheck then (none : Option Level) else none) = none := by
        cases (s.profile n).faultCheck <;> rfl
      unfold restConfig at hshown
      rw [hflag] at hshown
      cases hm : (s.profile n).rest with
      | hiZ | pullUp | pullDown => rw [hm] at hshown; exact ⟨hshown.1, hshown.2.trans hnone⟩
      | driveLow | driveHigh => rw [hm] at hshown; exact hshown
  · have hexec : exec (.debouncedChange n) s = .next (if !s.rstnAsserted ∧ (s.profile n).debounce ≤ (s.cell n).stability
        then debouncedTo n (!(s.cell n).debounced) s else s) := rfl
    rw [if_pos ⟨by simp [hr], hd⟩] at hexec
    refine ⟨_, hexec, ?_, fun m hm => ?_, fun g ch hg hno => ?_, fun g ch hg ho => ?_, debouncedTo_reports.1,
      debouncedTo_reports.2, debouncedTo_only ..⟩
    · rw [debouncedTo_cell, if_pos rfl]
    · rw [debouncedTo_cell, if_neg hm]
    · have ho : ¬ch.observes n = true := fun h => by
        obtain ⟨x, hx, e⟩ := observes_iff.mp h
        exact hno x hx e
      rw [debouncedTo_chan, hg, Option.map_some, GuardChannel.sees, if_neg ho]
    · rw [debouncedTo_chan, hg, Option.map_some, GuardChannel.sees, if_pos (observes_iff.mpr ho), react_eq,
        combination_eq]
      generalize AllTrue (debouncedTo n (!(s.cell n).debounced) s) ch.conditions = now
      unfold GuardChannel.react
      cases hsub : ch.substate <;> cases now <;> simp [hsub, holdMs, Config.msPerUnit]
  · have hexec : exec (.driveFault n) s = .next (driveFaultEnd n s) := rfl
    cases hl : liveHolding s n with
    | some e =>
      obtain ⟨k, l⟩ := e
      rw [driveFaultEnd_held hm hl] at hexec
      refine ⟨_, hexec, ?_, fun m hne => ⟨?_, rfl⟩, fun j x hj => ?_, fun h => ?_, rfl⟩
      · rw [State.report_cell, recounted_cell, if_pos rfl]
      · rw [State.report_cell, recounted_cell, if_neg hne]
      · obtain ⟨rfl, rfl⟩ := Prod.mk.inj (Option.some.inj hj)
        exact ⟨rfl, rfl⟩
      · cases h
    | none =>
      rw [driveFaultEnd_rest hm hl] at hexec
      have hl' : liveHolding (recounted n s) n = none := by rw [liveHolding_recounted, hl]
      refine ⟨_, hexec, ?_, fun m hne => ⟨?_, ?_⟩, fun j x hj => ?_, fun _ => ⟨rfl, ?_, restFaulted_applied hl'⟩, rfl⟩
      · exact (recounted_cell n).trans (if_pos rfl)
      · exact (recounted_cell m).trans (if_neg hne)
      · exact (restFaulted_profile m).trans (if_neg hne)
      · cases hj
      · exact (restFaulted_profile n).trans (if_pos rfl)

end Sys2Proof.Machine

/-! PROOFS. The instructions of the lease engine as the channels take them: O56 and O57. -/

namespace Sys2Proof.Machine

/-! ## A pattern channel (R107, R110 to R112) -/

section
variable {s f u : State} {c : PatChan} {rest : List PatternInstr} {i : PatternInstr} {ch : PatternChannel}

/-- The instruction in front has been taken from those sent to the pattern channel. -/
def patTook (c : PatChan) (rest : List PatternInstr) (s : State) : State :=
  { s with patInbox := vset s.patInbox c rest }

theorem takePatternFront_of {wanted : PatternInstr → Bool} (h : vget s.patInbox c = i :: rest) (hw : wanted i = true) :
    takePatternFront c wanted s = takePatternInstr c i (patTook c rest s) := by
  unfold takePatternFront
  rw [h]
  exact if_pos hw

/-- Only the channel and the levels of lines have changed. -/
structure PatOnly (c : PatChan) (f u : State) : Prop where
  only : { u with patChans := f.patChans, cells := f.cells } = f
  others : ∀ d, d ≠ c → vget u.patChans d = vget f.patChans d

theorem PatOnly.refl (c : PatChan) (f : State) : PatOnly c f f := ⟨rfl, fun _ _ => rfl⟩

theorem patOnly_set (x : Option PatternChannel) : PatOnly c f (f.setPatChan c x) :=
  ⟨rfl, fun d hd => by rw [setPatChan_chan, if_neg hd]⟩

theorem patOnly_applied (x : Option PatternChannel) (h : Handle) (may : Lease → Bool) (lv : Line → Level) :
    PatOnly c f (applyLevels h may lv (f.setPatChan c x)) := by
  have honly := applyLevels_only h may lv (f.setPatChan c x)
  refine ⟨(congrArg (fun v : State => { v with patChans := f.patChans }) honly :), fun d hd => ?_⟩
  have : (applyLevels h may lv (f.setPatChan c x)).patChans = (f.setPatChan c x).patChans :=
    (congrArg State.patChans honly :)
  rw [this, setPatChan_chan, if_neg hd]

theorem patOnly_beginStep (n : Nat) (left : Option Nat) : PatOnly c f (beginStep c ch n left f) := patOnly_applied ..

/-- What an instruction leaves of the rest of the state. -/
theorem PatOnly.kept (h : PatOnly c (patTook c rest s) u) : vget u.patInbox c = rest
    ∧ (∀ d, d ≠ c → vget u.patInbox d = vget s.patInbox d ∧ vget u.patChans d = vget s.patChans d)
    ∧ { u with patChans := s.patChans, patInbox := s.patInbox, cells := s.cells } = s := by
  have hinbox : u.patInbox = vset s.patInbox c rest := (congrArg State.patInbox h.only :)
  refine ⟨by rw [hinbox, vget_vset_self], fun d hd => ⟨by rw [hinbox, vget_vset_ne _ _ hd], h.others d hd⟩, ?_⟩
  exact (congrArg (fun v : State => { v with patInbox := s.patInbox }) h.only :)

theorem durationOfStep_zero (steps : List PatternStep) :
    durationOfStep steps 0 = (steps.head?.map (·.duration)).getD 0 := by
  rw [durationOfStep, List.head?_eq_getElem?]

/-- The channel with its pattern paused. -/
def pausedAt (ch : PatternChannel) (left : Option Nat) : PatternChannel := { ch with phase := .paused left }

/-- The channel paused, with the levels of its step handed over (R110, R125). -/
def patPaused (c : PatChan) (ch : PatternChannel) (left : Option Nat) (f : State) : State :=
  applyLevels ch.handle (fun l => l.state.isGrace && l.params.safe.isNone)
    (fun n => has (levelsOfStep ch.steps ch.step) n) (f.setPatChan c (some (pausedAt ch left)))

theorem patPaused_chan (left : Option Nat) : vget (patPaused c ch left f).patChans c = some (pausedAt ch left) := by
  have h : (patPaused c ch left f).patChans = (f.setPatChan c (some (pausedAt ch left))).patChans := by
    rw [patPaused]
    simp
  rw [h, setPatChan_chan, if_pos rfl]

section
variable {l : Lease} {n : Line} {spec : PatternSpec} {d : PatChan} (left : Option Nat)

/-- The levels reach the lines of a lease in GRACE without safe levels. -/
theorem patPaused_shows {x : Nat} (hl : f.lease ch.handle.slot = some l) (hh : f.handle ch.handle.slot = ch.handle)
    (hparams : l.params = .pattern spec d) (hst : l.state = .grace x) (hsafe : spec.safe = none)
    (hn : has l.lines n = true) (hheld : vget f.heldBy n = some ch.handle.slot) :
    ((patPaused c ch left f).cell n).assigned = some (has (levelsOfStep ch.steps ch.step) n) := by
  refine applyLevels_reached ⟨l, hl, hh, ?_, hheld, hn⟩
  simp [hst, hparams, LeaseState.isGrace, KindParams.safe, hsafe]

/-- The levels reach no line but those of the lease. -/
theorem patPaused_missed (hl : f.lease ch.handle.slot = some l)
    (hno : has l.lines n = false ∨ vget f.heldBy n ≠ some ch.handle.slot) :
    (patPaused c ch left f).cell n = f.cell n := by
  refine (applyLevels_missed ?_).trans rfl
  rintro ⟨m, hm, -, -, hheld, hn⟩
  obtain rfl := Option.some.inj (hl.symm.trans hm)
  rcases hno with h | h
  · rw [h] at hn
    cases hn
  · exact h hheld

/-- The levels are void for a lease that is not in GRACE, or has safe levels. -/
theorem patPaused_void (hno : ∀ m, f.lease ch.handle.slot = some m → f.handle ch.handle.slot = ch.handle →
    (m.state.isGrace && m.params.safe.isNone) = false) : (patPaused c ch left f).cells = f.cells := by
  rw [patPaused, applyLevels_void (s := f.setPatChan c (some (pausedAt ch left))) hno]
  rfl

end

section
variable (hc : vget f.patChans c = some ch)
include hc

theorem takePause_running {n : Nat} {left : Option Nat} (hp : ch.phase = .running n left) : takePatternInstr c .pause f
    = patPaused c ch left f := by
  unfold takePatternInstr
  rw [hc]
  dsimp only
  rw [hp]
  rfl

theorem takeResume_paused {left : Option Nat} (hp : ch.phase = .paused left) :
    takePatternInstr c .resume f = beginStep c ch ch.step left f := by
  unfold takePatternInstr
  rw [hc]
  dsimp only
  rw [hp]

theorem takeRestart_begun (hp : ch.phase = .done ∨ ∃ n left, ch.phase = .running n left) :
    takePatternInstr c .restart f = beginStep c ch 0 (fullLoops ch.loops) f := by
  unfold takePatternInstr
  rw [hc]
  dsimp only
  rcases hp with hp | ⟨n, left, hp⟩ <;> rw [hp]

theorem takePause_done (hp : ch.phase = .done) : takePatternInstr c .pause f = f := by
  unfold takePatternInstr
  rw [hc]
  dsimp only
  rw [hp]

theorem takeResume_done (hp : ch.phase = .done) : takePatternInstr c .resume f = f := by
  unfold takePatternInstr
  rw [hc]
  dsimp only
  rw [hp]

end

theorem takeFree_pattern : PatOnly c f (takePatternInstr c .free f)
    ∧ vget (takePatternInstr c .free f).patChans c = none ∧ (takePatternInstr c .free f).cells = f.cells := by
  cases hc : vget f.patChans c with
  | none =>
    have e : takePatternInstr c .free f = f := by unfold takePatternInstr; rw [hc]
    rw [e]
    exact ⟨.refl c f, hc, rfl⟩
  | some ch =>
    have e : takePatternInstr c .free f = f.setPatChan c none := by unfold takePatternInstr; rw [hc]
    rw [e]
    exact ⟨patOnly_set none, by rw [setPatChan_chan, if_pos rfl], rfl⟩

end

/-- Settles O56. -/
theorem patternInstructions : Obligations.PatternInstructions := by
  intro s c rest
  refine ⟨fun h spec hin => ?_, fun ch n left hin hc hp => ?_, fun ch left hin hc hp => ?_, fun ch hin hc hp => ?_,
    fun hin => ?_, fun ch hc hp => ⟨fun hin => ?_, fun hin => ?_⟩⟩
  · have hexec : exec (.patternSetup c) s = .next (takePatternFront c PatternInstr.isSetup s) := rfl
    rw [takePatternFront_of hin rfl] at hexec
    have honly : PatOnly c (patTook c rest s) (takePatternInstr c (.setup h spec) (patTook c rest s)) := patOnly_set _
    refine ⟨_, hexec, honly.kept, rfl, ?_⟩
    rw [← durationOfStep_zero]
    exact (setPatChan_chan ..).trans (if_pos rfl)
  · have hexec : exec (.patternPause c) s = .next (takePatternFront c (fun i => i = .pause) s) := rfl
    rw [takePatternFront_of hin (by simp), takePause_running (f := patTook c rest s) hc hp] at hexec
    refine ⟨_, hexec, (patOnly_applied ..).kept, patPaused_chan left,
      fun l n spec d x hl hh hparams hst hsafe hn hheld => patPaused_shows left hl hh hparams hst hsafe hn hheld,
      fun l n hl hno => by rw [patPaused_missed (f := patTook c rest s) left hl hno]; rfl, fun l spec d hl hparams hno => ?_, fun hl => ?_⟩
    · refine (patPaused_void left fun m hm hh => ?_).trans rfl
      obtain rfl := Option.some.inj (hl.symm.trans hm)
      rcases hno with h | h | h
      · exact absurd hh h
      · cases hst : l.state with
        | grace x => exact absurd hst (h x)
        | active | handover _ _ | retiring _ | closed _ => rfl
      · rw [hparams]
        cases hsafe : spec.safe with
        | none => exact absurd hsafe h
        | some lv => simp [KindParams.safe, hsafe]
    · refine (patPaused_void left fun m hm => ?_).trans rfl
      cases hl.symm.trans hm
  · have hexec : exec (.patternResume c) s = .next (takePatternFront c (fun i => i = .resume) s) := rfl
    rw [takePatternFront_of hin (by simp), takeResume_paused (f := patTook c rest s) hc hp] at hexec
    exact ⟨_, hexec, (patOnly_beginStep ..).kept, by rw [beginStep_chan, if_pos rfl]; rfl,
      fun l n hl hh hw hn hheld => beginStep_shows (s := patTook c rest s) hl hh hw hn hheld⟩
  · have hexec : exec (.patternRestart c) s = .next (takePatternFront c (fun i => i = .restart) s) := rfl
    rw [takePatternFront_of hin (by simp), takeRestart_begun (f := patTook c rest s) hc hp] at hexec
    exact ⟨_, hexec, (patOnly_beginStep ..).kept, by rw [beginStep_chan, if_pos rfl]; rfl,
      fun l n hl hh hw hn hheld => beginStep_shows (s := patTook c rest s) hl hh hw hn hheld⟩
  · have hexec : exec (.patternFree c) s = .next (takePatternFront c (fun i => i = .free) s) := rfl
    rw [takePatternFront_of hin (by simp)] at hexec
    obtain ⟨h₁, h₂, h₃⟩ := takeFree_pattern (f := patTook c rest s) (c := c)
    exact ⟨_, hexec, h₁.kept, h₂, h₃⟩
  · have hexec : exec (.patternPause c) s = .next (takePatternFront c (fun i => i = .pause) s) := rfl
    rw [takePatternFront_of hin (by simp), takePause_done (f := patTook c rest s) hc hp] at hexec
    exact ⟨_, hexec, (PatOnly.refl ..).kept, hc, rfl⟩
  · have hexec : exec (.patternResume c) s = .next (takePatternFront c (fun i => i = .resume) s) := rfl
    rw [takePatternFront_of hin (by simp), takeResume_done (f := patTook c rest s) hc hp] at hexec
    exact ⟨_, hexec, (PatOnly.refl ..).kept, hc, rfl⟩

/-! ## A guard channel (R89 to R92) -/

section
variable {s f u : State} {g : GuardChan} {rest : List GuardInstr} {i : GuardInstr} {ch : GuardChannel}

/-- The instruction in front has been taken from those sent to the guard channel. -/
def guardTook (g : GuardChan) (rest : List GuardInstr) (s : State) : State :=
  { s with guardInbox := vset s.guardInbox g rest }

theorem takeGuardFront_of {wanted : GuardInstr → Bool} (h : vget s.guardInbox g = i :: rest) (hw : wanted i = true) :
    takeGuardFront g wanted s = takeGuardInstr g i (guardTook g rest s) := by
  unfold takeGuardFront
  rw [h]
  exact if_pos hw

/-- Only the channel and the levels of lines have changed. -/
structure GuardOnly (g : GuardChan) (f u : State) : Prop where
  only : { u with guardChans := f.guardChans, cells := f.cells } = f
  others : ∀ d, d ≠ g → vget u.guardChans d = vget f.guardChans d

theorem GuardOnly.refl (g : GuardChan) (f : State) : GuardOnly g f f := ⟨rfl, fun _ _ => rfl⟩

theorem guardOnly_set (x : Option GuardChannel) : GuardOnly g f (f.setGuardChan g x) :=
  ⟨rfl, fun d hd => by rw [setGuardChan_chan, if_neg hd]⟩

theorem guardOnly_to (x : Option GuardChannel) (v : Action → Level) : GuardOnly g f (guardTo g ch x v f) :=
  ⟨guardTo_only .., fun d hd => by rw [guardTo_chan, if_neg hd]⟩

/-- What an instruction leaves of the rest of the state. -/
theorem GuardOnly.kept (h : GuardOnly g (guardTook g rest s) u) : vget u.guardInbox g = rest
    ∧ (∀ d, d ≠ g → vget u.guardInbox d = vget s.guardInbox d ∧ vget u.guardChans d = vget s.guardChans d)
    ∧ { u with guardChans := s.guardChans, guardInbox := s.guardInbox, cells := s.cells } = s := by
  have hinbox : u.guardInbox = vset s.guardInbox g rest := (congrArg State.guardInbox h.only :)
  refine ⟨by rw [hinbox, vget_vset_self], fun d hd => ⟨by rw [hinbox, vget_vset_ne _ _ hd], h.others d hd⟩, ?_⟩
  exact (congrArg (fun v : State => { v with guardInbox := s.guardInbox }) h.only :)

/-! ### The channel leaves its substate -/

theorem leaveFor_firing {n : Nat} (next : Option GuardChannel) (hs : ch.substate = .firing n) :
    leaveFor g ch next f = guardTo g ch next Action.idle f := by simp [leaveFor, hs, guardTo]

theorem leaveFor_quiet (next : Option GuardChannel) (hs : ∀ n, ch.substate ≠ .firing n) :
    leaveFor g ch next f = f.setGuardChan g next := by
  unfold leaveFor
  dsimp only
  split
  · rename_i n h
    exact absurd h (hs n)
  all_goals rfl

theorem leaveFor_only (next : Option GuardChannel) : GuardOnly g f (leaveFor g ch next f)
    ∧ vget (leaveFor g ch next f).guardChans g = next := by
  by_cases hs : ∃ n, ch.substate = .firing n
  · obtain ⟨n, hs⟩ := hs
    rw [leaveFor_firing next hs]
    exact ⟨guardOnly_to .., by rw [guardTo_chan, if_pos rfl]⟩
  · rw [leaveFor_quiet next fun n h => hs ⟨n, h⟩]
    exact ⟨guardOnly_set .., by rw [setGuardChan_chan, if_pos rfl]⟩

/-- A pulse in progress is cut, and the action line returns to idle (R89 to R92). -/
theorem leaveFor_cut (next : Option GuardChannel) :
    ((∀ n, ch.substate ≠ .firing n) → (leaveFor g ch next f).cells = f.cells)
      ∧ ∀ a n l m, ch.substate = .firing n → ch.action = some a → f.lease ch.handle.slot = some l →
        f.handle ch.handle.slot = ch.handle → l.state = .active → has l.lines m = true →
        vget f.heldBy m = some ch.handle.slot → ((leaveFor g ch next f).cell m).assigned = some (!a.pulseLevel) := by
  refine ⟨fun hs => by rw [leaveFor_quiet next hs]; rfl, fun a n l m hs ha hl hh hst hm hheld => ?_⟩
  rw [leaveFor_firing next hs]
  exact guardTo_shows ha hl hh hst hm hheld

/-! ### The instructions -/

/-- A combination that is as it was leaves the first substate as it is. -/
theorem react_start (ch : GuardChannel) (armed now : Bool) (h : ch.substate = startSubstate armed now) :
    ch.react now = ch := by
  cases armed <;> cases now <;> simp [startSubstate] at h <;> simp [GuardChannel.react, h]

theorem startSubstate_eq (armed now : Bool) :
    startSubstate armed now = if armed then (if now then .spent else .armed) else .disarmed := by
  cases armed <;> rfl

section
variable (hc : vget f.guardChans g = some ch)
include hc

theorem takeArm : takeGuardInstr g .arm f = f.setGuardChan g (some { ch with
    substate := if ch.substate = .disarmed then startSubstate true (AllTrue f ch.conditions) else ch.substate }) := by
  unfold takeGuardInstr
  rw [hc]
  dsimp only
  by_cases h : ch.substate = .disarmed
  · rw [if_pos h, if_pos h, combination_eq]
  · have hself : vset f.guardChans g (some ch) = f.guardChans := by
      apply vext
      intro d
      rw [vget_vset]
      split
      · rename_i e
        rw [e, hc]
      · rfl
    rw [if_neg h, if_neg h, State.setGuardChan, hself]

theorem takeDisarm (h : ch.substate ≠ .suspended) :
    takeGuardInstr g .disarm f = leaveFor g ch (some { ch with substate := .disarmed }) f := by
  unfold takeGuardInstr
  rw [hc]
  exact if_neg h

theorem takeSuspend : takeGuardInstr g .suspend f = leaveFor g ch (some { ch with substate := .suspended }) f := by
  unfold takeGuardInstr
  rw [hc]

theorem takeUnsuspend {now : Bool} (armed : Bool) (h : ch.substate = .suspended)
    (hnow : AllTrue f ch.conditions = now) : takeGuardInstr g (.unsuspend armed now) f
      = f.setGuardChan g (some { ch with substate := startSubstate armed now }) := by
  have := react_start { ch with substate := startSubstate armed now } armed now rfl
  unfold takeGuardInstr
  rw [hc]
  dsimp only
  rw [if_pos h, combination_eq, hnow, this]

theorem takeGuardFree : takeGuardInstr g .free f = leaveFor g ch none f := by
  unfold takeGuardInstr
  rw [hc]

end

theorem takeGuardSetup {now : Bool} (h : Handle) (spec : GuardSpec) (armed : Bool)
    (hnow : AllTrue f spec.conditions = now) : takeGuardInstr g (.setup h spec armed now) f
      = f.setGuardChan g (some ⟨h, spec.conditions, spec.hold, spec.action, spec.recallSpec.isSome,
          startSubstate armed now⟩) := by
  have := react_start ⟨h, spec.conditions, spec.hold, spec.action, spec.recallSpec.isSome, startSubstate armed now⟩
    armed now rfl
  change f.setGuardChan g (some (GuardChannel.react ⟨h, spec.conditions, spec.hold, spec.action,
    spec.recallSpec.isSome, startSubstate armed now⟩ (AllTrue f spec.conditions))) = _
  rw [hnow, this]

end

/-- Settles O57. -/
theorem guardInstructions : Obligations.GuardInstructions := by
  intro s g rest
  refine ⟨fun h spec armed hin => ?_, fun ch hc => ⟨fun hin => ?_, fun hin hsub => ?_, fun hin => ?_,
    fun armed hin hsub => ?_, fun hin => ?_⟩⟩
  · have hexec : exec (.guardSetup g) s = .next (takeGuardFront g GuardInstr.isSetup s) := rfl
    rw [takeGuardFront_of hin rfl, takeGuardSetup (f := guardTook g rest s) (now := AllTrue s spec.conditions) h spec armed rfl, startSubstate_eq] at hexec
    exact ⟨_, hexec, (guardOnly_set _).kept, rfl, (setGuardChan_chan ..).trans (if_pos rfl)⟩
  · have hexec : exec (.guardArm g) s = .next (takeGuardFront g (fun i => i = .arm) s) := rfl
    rw [takeGuardFront_of hin (by simp), takeArm (f := guardTook g rest s) hc, startSubstate_eq] at hexec
    exact ⟨_, hexec, (guardOnly_set _).kept, rfl, (setGuardChan_chan ..).trans (if_pos rfl)⟩
  · have hexec : exec (.guardDisarm g) s = .next (takeGuardFront g (fun i => i = .disarm) s) := rfl
    rw [takeGuardFront_of hin (by simp), takeDisarm (f := guardTook g rest s) hc hsub] at hexec
    obtain ⟨h₁, h₂⟩ := leaveFor_only (f := guardTook g rest s) (g := g) (ch := ch) (some { ch with substate := .disarmed })
    have hcut := leaveFor_cut (f := guardTook g rest s) (g := g) (ch := ch) (some { ch with substate := .disarmed })
    exact ⟨_, hexec, h₁.kept, hcut, h₂⟩
  · have hexec : exec (.guardSuspend g) s = .next (takeGuardFront g (fun i => i = .suspend) s) := rfl
    rw [takeGuardFront_of hin (by simp), takeSuspend (f := guardTook g rest s) hc] at hexec
    obtain ⟨h₁, h₂⟩ := leaveFor_only (f := guardTook g rest s) (g := g) (ch := ch) (some { ch with substate := .suspended })
    have hcut := leaveFor_cut (f := guardTook g rest s) (g := g) (ch := ch) (some { ch with substate := .suspended })
    exact ⟨_, hexec, h₁.kept, hcut, h₂⟩
  · have hexec : exec (.guardUnsuspend g) s = .next (takeGuardFront g GuardInstr.isUnsuspend s) := rfl
    rw [takeGuardFront_of hin rfl, takeUnsuspend (f := guardTook g rest s) (now := AllTrue s ch.conditions) hc armed hsub rfl, startSubstate_eq] at hexec
    exact ⟨_, hexec, (guardOnly_set _).kept, rfl, (setGuardChan_chan ..).trans (if_pos rfl)⟩
  · have hexec : exec (.guardFree g) s = .next (takeGuardFront g (fun i => i = .free) s) := rfl
    rw [takeGuardFront_of hin (by simp), takeGuardFree (f := guardTook g rest s) hc] at hexec
    obtain ⟨h₁, h₂⟩ := leaveFor_only (f := guardTook g rest s) (g := g) (ch := ch) none
    have hcut := leaveFor_cut (f := guardTook g rest s) (g := g) (ch := ch) none
    exact ⟨_, hexec, h₁.kept, hcut, h₂⟩

end Sys2Proof.Machine

/-! PROOFS. The 1 ms tick: every part once, in any order (log entry 6). -/

namespace Sys2Proof.Machine

/-! ## The order of the parts -/

theorem mem_allParts (x : TickPart) : x ∈ allParts := by
  cases x <;> simp [allParts]

theorem nodup_allParts : allParts.Nodup := by decide

theorem nodup_eraseDups (l : List TickPart) : l.eraseDups.Nodup := by
  induction h : l.length using Nat.strong_induction_on generalizing l with
  | _ n ih =>
    cases l with
    | nil => simp
    | cons a l =>
      have hlen : (l.filter fun b => !b == a).length < n := by
        have := List.length_filter_le (fun b => !b == a) l
        rw [List.length_cons] at h
        omega
      rw [List.eraseDups_cons, List.nodup_cons]
      exact ⟨by simp, ih _ hlen _ rfl⟩

theorem mem_tickParts (order : List TickPart) (x : TickPart) : x ∈ tickParts order := by
  simp only [tickParts, List.mem_append, List.mem_eraseDups, List.mem_filter, mem_allParts, true_and]
  cases h : order.contains x
  · exact .inr (by simp)
  · exact .inl (by simpa using h)

theorem nodup_tickParts (order : List TickPart) : (tickParts order).Nodup := by
  rw [tickParts, List.nodup_append]
  refine ⟨nodup_eraseDups order, nodup_allParts.filter _, fun a ha b hb e => ?_⟩
  rw [List.mem_eraseDups] at ha
  rw [List.mem_filter] at hb
  rw [e] at ha
  simp [ha] at hb

/-- The state after the parts of a tick. -/
def msTicked (pads : Levels) (scl : SclTick) (order : List TickPart) (s : State) : State :=
  ((tickParts order).foldl (tickPart pads scl) (s, [])).1

section
variable {pads : Levels} {scl : SclTick} {s : State}

theorem exec_msTick (order : List TickPart) (hr : s.rstnAsserted = false) :
    exec (.msTick pads scl order) s = .next (msTicked pads scl order s) := by
  have hexec : exec (.msTick pads scl order) s
      = .next (if s.rstnAsserted then s else msTicked pads scl order s) := rfl
  rw [hexec, hr]
  exact congrArg _ (if_neg (by simp))

/-- A tick state: the state between two parts, with the holds that samples of the tick have started. -/
abbrev TickState := State × List GuardChan

theorem tickParts_run {P : List TickPart → TickState → Prop}
    (step : ∀ y done x, y ∉ done → P done x → P (y :: done) (tickPart pads scl x y)) {parts : List TickPart}
    (hnd : parts.Nodup) {done : List TickPart} (hnew : ∀ y ∈ parts, y ∉ done) {x : TickState} (h₀ : P done x) :
    P (parts.reverse ++ done) (parts.foldl (tickPart pads scl) x) := by
  induction parts generalizing x done with
  | nil => exact h₀
  | cons y ys ih =>
    rw [List.nodup_cons] at hnd
    have h₁ := step y done x (hnew y (by simp)) h₀
    have hnew' : ∀ z ∈ ys, z ∉ y :: done := fun z hz h => by
      rcases List.mem_cons.mp h with rfl | h
      · exact hnd.1 hz
      · exact hnew z (List.mem_cons_of_mem _ hz) h
    have h₂ := ih hnd.2 hnew' h₁
    rw [List.reverse_cons, List.append_assoc]
    exact h₂

/-- The tick as a run of its parts, each of them once: what every part keeps, given the parts done before it. -/
theorem msTicked_run {P : List TickPart → TickState → Prop} (order : List TickPart)
    (step : ∀ y done x, y ∉ done → P done x → P (y :: done) (tickPart pads scl x y)) (h₀ : P [] (s, [])) :
    ∃ done fresh, (∀ y, y ∈ done) ∧ P done (msTicked pads scl order s, fresh) := by
  have h := tickParts_run step (nodup_tickParts order) (fun _ _ => List.not_mem_nil) h₀
  refine ⟨_, _, fun y => ?_, h⟩
  rw [List.append_nil, List.mem_reverse]
  exact mem_tickParts order y

/-- What every part keeps holds after the tick. -/
theorem msTicked_inv {P : TickState → Prop} (order : List TickPart) (h : ∀ y x, P x → P (tickPart pads scl x y))
    (h₀ : P (s, [])) : ∃ fresh, P (msTicked pads scl order s, fresh) := by
  obtain ⟨-, fresh, -, h⟩ := msTicked_run (P := fun _ => P) order (fun y _ x _ => h y x) h₀
  exact ⟨fresh, h⟩

/-- One part of the tick: what the others keep before it (`P`), what it makes of that, and what the others keep after
it (`Q`). -/
theorem msTicked_part {P Q : TickState → Prop} (part : TickPart) (order : List TickPart)
    (before : ∀ y x, y ≠ part → P x → P (tickPart pads scl x y)) (turn : ∀ x, P x → Q (tickPart pads scl x part))
    (after : ∀ y x, y ≠ part → Q x → Q (tickPart pads scl x y)) (h₀ : P (s, [])) :
    ∃ fresh, Q (msTicked pads scl order s, fresh) := by
  obtain ⟨done, fresh, hall, h⟩ := msTicked_run (P := fun done x => if part ∈ done then Q x else P x) order
    (fun y done x hy hx => by
      by_cases e : y = part
      · subst e
        rw [if_neg hy] at hx
        rw [if_pos (by simp)]
        exact turn x hx
      · have : part ∈ y :: done ↔ part ∈ done := by simp [Ne.symm e]
        simp only [this]
        split
        · rename_i hd
          rw [if_pos hd] at hx
          exact after y x e hx
        · rename_i hd
          rw [if_neg hd] at hx
          exact before y x e hx) (by rw [if_neg (by simp)]; exact h₀)
  rw [if_pos (hall part)] at h
  exact ⟨fresh, h⟩

end

end Sys2Proof.Machine

/-! PROOFS. What a part of the 1 ms tick does at its channel, and what it leaves alone. -/

namespace Sys2Proof.Machine

/-! ## The stores of the tick -/

/-- Nothing but what the 1 ms tick works on has changed. -/
def TickOnly (s t : State) : Prop :=
  { t with
    cells := s.cells, profiles := s.profiles, settling := s.settling, patChans := s.patChans,
    guardChans := s.guardChans, reports := s.reports, buses := s.buses } = s

section
variable {s t u : State}

theorem TickOnly.refl (s : State) : TickOnly s s := rfl

theorem TickOnly.trans (a : TickOnly s t) (b : TickOnly t u) : TickOnly s u :=
  (congrArg (fun v : State => { v with
    cells := s.cells, profiles := s.profiles, settling := s.settling, patChans := s.patChans,
    guardChans := s.guardChans, reports := s.reports, buses := s.buses }) b :).trans a

theorem TickOnly.heldBy (a : TickOnly s t) : t.heldBy = s.heldBy := (congrArg State.heldBy a :)
theorem TickOnly.slots (a : TickOnly s t) : t.slots = s.slots := (congrArg State.slots a :)
theorem TickOnly.rstn (a : TickOnly s t) : t.rstnAsserted = s.rstnAsserted := (congrArg State.rstnAsserted a :)
theorem TickOnly.lease (a : TickOnly s t) (k : Slot) : t.lease k = s.lease k := by rw [State.lease, a.slots]; rfl
theorem TickOnly.handle (a : TickOnly s t) (k : Slot) : t.handle k = s.handle k := by rw [State.handle, a.slots]; rfl

theorem TickOnly.liveHolding (a : TickOnly s t) (n : Line) : liveHolding t n = liveHolding s n :=
  liveHolding_congr (by rw [a.heldBy]) fun k _ => a.lease k

end

/-! ## A channel's work -/

/-- What the work of a channel with handle `h` does: it touches its channels, sends levels to the lines of its lease,
and makes reports. -/
structure ChanPart (h : Handle) (s t : State) : Prop where
  only : TickOnly s t
  reports : s.reports <+: t.reports
  settling : t.settling = s.settling
  profiles : t.profiles = s.profiles
  buses : t.buses = s.buses
  rest : ∀ n, (t.cell n).debounced = (s.cell n).debounced ∧ (t.cell n).stability = (s.cell n).stability
    ∧ (t.cell n).settle = (s.cell n).settle
  missed : ∀ n, (vget s.heldBy n = some h.slot → s.handle h.slot ≠ h) → t.cell n = s.cell n
  checks : ∀ n, (t.cell n).mismatch = 0
    ∨ (t.cell n).mismatch = (s.cell n).mismatch ∧ appliedConfig t n = appliedConfig s n

section
variable {s t u : State} {h : Handle}

theorem ChanPart.trans (a : ChanPart h s t) (b : ChanPart h t u) : ChanPart h s u where
  only := a.only.trans b.only
  reports := a.reports.trans b.reports
  settling := b.settling.trans a.settling
  profiles := b.profiles.trans a.profiles
  buses := b.buses.trans a.buses
  rest n := ⟨(b.rest n).1.trans (a.rest n).1, (b.rest n).2.1.trans (a.rest n).2.1, (b.rest n).2.2.trans (a.rest n).2.2⟩
  missed n hn := (b.missed n fun hheld => by
    rw [a.only.handle]
    rw [a.only.heldBy] at hheld
    exact hn hheld).trans (a.missed n hn)
  checks n := by
    rcases b.checks n with hb | ⟨hb, hb'⟩
    · exact .inl hb
    · rcases a.checks n with ha | ⟨ha, ha'⟩
      · exact .inl (hb.trans ha)
      · exact .inr ⟨hb.trans ha, hb'.trans ha'⟩

/-- A change of the channels and the reports alone. -/
theorem chanPart_of_cells (only : TickOnly s t) (reports : s.reports <+: t.reports) (settling : t.settling = s.settling)
    (profiles : t.profiles = s.profiles) (buses : t.buses = s.buses) (cells : t.cells = s.cells) : ChanPart h s t := by
  have hcell : ∀ n, t.cell n = s.cell n := fun n => by rw [State.cell, cells]; rfl
  refine ⟨only, reports, settling, profiles, buses, fun n => by rw [hcell]; exact ⟨rfl, rfl, rfl⟩, fun n _ => hcell n,
    fun n => .inr ⟨by rw [hcell], ?_⟩⟩
  have hsame : SameLine s t n :=
    ⟨only.rstn, by rw [State.profile, profiles]; rfl, only.liveHolding n, by rw [hcell]⟩
  exact hsame.applied.symm

theorem ChanPart.refl (h : Handle) (s : State) : ChanPart h s s :=
  chanPart_of_cells rfl List.prefix_rfl rfl rfl rfl rfl

theorem chanPart_setPatChan (c : PatChan) (x : Option PatternChannel) : ChanPart h s (s.setPatChan c x) :=
  chanPart_of_cells rfl List.prefix_rfl rfl rfl rfl rfl

theorem chanPart_setGuardChan (g : GuardChan) (x : Option GuardChannel) : ChanPart h s (s.setGuardChan g x) :=
  chanPart_of_cells rfl List.prefix_rfl rfl rfl rfl rfl

theorem chanPart_report (r : Report) : ChanPart h s (s.report r) :=
  chanPart_of_cells rfl (List.prefix_append ..) rfl rfl rfl rfl

theorem chanPart_applyLevels (may : Lease → Bool) (lv : Line → Level) : ChanPart h s (applyLevels h may lv s) := by
  have honly := applyLevels_only h may lv s
  refine ⟨?_, by simp, by simp, by simp, by simp, fun n => applyLevels_rest .., fun n hn => applyLevels_missed ?_,
    fun n => applyLevels_checks ..⟩
  · exact (congrArg (fun v : State => { v with
      profiles := s.profiles, settling := s.settling, patChans := s.patChans,
      guardChans := s.guardChans, reports := s.reports, buses := s.buses }) honly :)
  · rintro ⟨l, -, hh, -, hheld, -⟩
    exact hn hheld hh

end

/-! ## A pattern channel at the tick (R108, R109) -/

section
variable {s : State} {c : PatChan} {ch : PatternChannel}

theorem chanPart_beginStep (i : Nat) (left : Option Nat) : ChanPart ch.handle s (beginStep c ch i left s) :=
  (chanPart_setPatChan c _).trans (chanPart_applyLevels ..)

theorem chanPart_patternDone : ChanPart ch.handle s (patternDone c ch s) :=
  (chanPart_setPatChan c _).trans (chanPart_report _)

/-- The channel with its step countdown at 0. -/
def stepEnded (ch : PatternChannel) (left : Option Nat) : PatternChannel := { ch with phase := .running 0 left }

theorem patternTick_free (hc : vget s.patChans c = none) : patternTick c s = s := by simp [patternTick, hc]

section
variable (hc : vget s.patChans c = some ch)
include hc

theorem patternTick_idle (hp : ∀ n left, ch.phase ≠ .running n left) : patternTick c s = s := by
  unfold patternTick
  rw [hc]
  dsimp only
  split
  · rename_i n left h
    exact absurd h (hp n left)
  all_goals rfl

theorem patternTick_counts {n : Nat} {left : Option Nat} (hp : ch.phase = .running n left) (hn : 2 ≤ n) :
    patternTick c s = s.setPatChan c (some { ch with phase := .running (n - 1) left }) := by
  obtain ⟨m, rfl⟩ : ∃ m, n = m + 2 := ⟨n - 2, by omega⟩
  simp [patternTick, hc, hp, stepEndStep]

theorem patternTick_ends {n : Nat} {left : Option Nat} (hp : ch.phase = .running n left) (hn : n ≤ 1) :
    patternTick c s = stepEndStep c (s.setPatChan c (some (stepEnded ch left))) := by
  have : n - 1 = 0 := by omega
  simp [patternTick, hc, hp, this, stepEnded]

end

/-- What a pattern channel's part of the tick does. -/
theorem patternTick_cases (hc : vget s.patChans c = some ch) : patternTick c s = s
    ∨ (∃ x, patternTick c s = s.setPatChan c (some { ch with phase := x }))
    ∨ (∃ left i left', patternTick c s
        = beginStep c (stepEnded ch left) i left' (s.setPatChan c (some (stepEnded ch left))))
    ∨ ∃ left, patternTick c s = patternDone c (stepEnded ch left) (s.setPatChan c (some (stepEnded ch left))) := by
  cases hp : ch.phase with
  | running n left =>
    by_cases hn : 2 ≤ n
    · exact .inr (.inl ⟨_, patternTick_counts hc hp hn⟩)
    · rw [patternTick_ends hc hp (by omega)]
      have hc' : vget (s.setPatChan c (some (stepEnded ch left))).patChans c = some (stepEnded ch left) := by
        rw [setPatChan_chan, if_pos rfl]
      rcases stepEnd_cases hc' rfl with ⟨i, left', e⟩ | e
      · exact .inr (.inr (.inl ⟨left, i, left', e⟩))
      · exact .inr (.inr (.inr ⟨left, e⟩))
  | paused left => exact .inl (patternTick_idle hc fun n x e => by rw [hp] at e; cases e)
  | done => exact .inl (patternTick_idle hc fun n x e => by rw [hp] at e; cases e)

theorem chanPart_patternTick (hc : vget s.patChans c = some ch) : ChanPart ch.handle s (patternTick c s) := by
  rcases patternTick_cases hc with e | ⟨x, e⟩ | ⟨left, i, left', e⟩ | ⟨left, e⟩ <;> rw [e]
  · exact .refl ..
  · exact chanPart_setPatChan ..
  · exact (chanPart_setPatChan c _).trans (chanPart_beginStep (ch := stepEnded ch left) ..)
  · exact (chanPart_setPatChan c _).trans (chanPart_patternDone (ch := stepEnded ch left))

theorem patternTick_other {d : PatChan} (hd : d ≠ c) : vget (patternTick c s).patChans d = vget s.patChans d := by
  cases hc : vget s.patChans c with
  | none => rw [patternTick_free hc]
  | some ch =>
    rcases patternTick_cases hc with e | ⟨x, e⟩ | ⟨left, i, left', e⟩ | ⟨left, e⟩ <;> rw [e]
    · rw [setPatChan_chan, if_neg hd]
    · rw [beginStep_chan, if_neg hd, setPatChan_chan, if_neg hd]
    · rw [patternDone_chan, if_neg hd, setPatChan_chan, if_neg hd]

/-- A pattern channel keeps its handle. -/
theorem patternTick_chanHandle (d : PatChan) :
    (vget (patternTick c s).patChans d).map (·.handle) = (vget s.patChans d).map (·.handle) := by
  by_cases hd : d = c
  · subst hd
    cases hc : vget s.patChans d with
    | none => rw [patternTick_free hc, hc]
    | some ch =>
      rcases patternTick_cases hc with e | ⟨x, e⟩ | ⟨left, i, left', e⟩ | ⟨left, e⟩ <;> rw [e]
      · rw [hc]
      · rw [setPatChan_chan, if_pos rfl]
        rfl
      · rw [beginStep_chan, if_pos rfl]
        rfl
      · rw [patternDone_chan, if_pos rfl]
        rfl
  · rw [patternTick_other hd]

end

/-! ## A guard channel at the tick (R85 to R87) -/

section
variable {s : State} {g : GuardChan} {ch : GuardChannel}

theorem chanPart_guardTo (x : Option GuardChannel) (v : Action → Level) : ChanPart ch.handle s (guardTo g ch x v s) := by
  unfold guardTo sendAction
  split
  · exact (chanPart_setGuardChan g x).trans (chanPart_applyLevels ..)
  · exact chanPart_setGuardChan g x

theorem guardTick_free (hg : vget s.guardChans g = none) : guardTick g s = s := by simp [guardTick, hg]

section
variable (hg : vget s.guardChans g = some ch)
include hg

theorem guardTick_idle (hs : ∀ n, ch.substate ≠ .holding n ∧ ch.substate ≠ .firing n) : guardTick g s = s := by
  unfold guardTick
  rw [hg]
  dsimp only
  split
  · rename_i n h
    exact absurd h (hs n).1
  · rename_i n h
    exact absurd h (hs n).2
  all_goals rfl

theorem guardTick_holds {n : Nat} (hs : ch.substate = .holding n) (hn : 2 ≤ n) :
    guardTick g s = s.setGuardChan g (some { ch with substate := .holding (n - 1) }) := by
  obtain ⟨m, rfl⟩ : ∃ m, n = m + 2 := ⟨n - 2, by omega⟩
  simp [guardTick, hg, hs, guardFireEnd]

theorem guardTick_pulses {n : Nat} (hs : ch.substate = .firing n) (hn : 2 ≤ n) :
    guardTick g s = s.setGuardChan g (some { ch with substate := .firing (n - 1) }) := by
  obtain ⟨m, rfl⟩ : ∃ m, n = m + 2 := ⟨n - 2, by omega⟩
  simp [guardTick, hg, hs, pulseEndStep]

/-- The hold of the channel ends. -/
theorem guardTick_fires {n : Nat} (hs : ch.substate = .holding n) (hn : n ≤ 1) : guardTick g s
    = (guardTo g ch (some { ch with substate := afterHold ch }) (·.pulseLevel)
        (s.setGuardChan g (some { ch with substate := .holding 0 }))).report (.fire ch.handle ch.recallAttached) := by
  have hzero : n - 1 = 0 := by omega
  have hg' : vget (s.setGuardChan g (some { ch with substate := .holding 0 })).guardChans g
      = some { ch with substate := .holding 0 } := by rw [setGuardChan_chan, if_pos rfl]
  have : guardTick g s = guardFireEnd g (s.setGuardChan g (some { ch with substate := .holding 0 })) := by
    simp [guardTick, hg, hs, hzero]
  rw [this, guardFireEnd_zero hg' rfl]
  rfl

/-- The pulse of the channel ends. -/
theorem guardTick_ends {n : Nat} (hs : ch.substate = .firing n) (hn : n ≤ 1) : guardTick g s
    = guardTo g ch (some { ch with substate := startSubstate true (combination s ch.conditions) }) Action.idle
        (s.setGuardChan g (some { ch with substate := .firing 0 })) := by
  have hzero : n - 1 = 0 := by omega
  have hg' : vget (s.setGuardChan g (some { ch with substate := .firing 0 })).guardChans g
      = some { ch with substate := .firing 0 } := by rw [setGuardChan_chan, if_pos rfl]
  have : guardTick g s = pulseEndStep g (s.setGuardChan g (some { ch with substate := .firing 0 })) := by
    simp [guardTick, hg, hs, hzero]
  rw [this, pulseEndStep_zero hg' rfl]
  rfl

end

/-- What a guard channel's part of the tick does. -/
theorem guardTick_cases (hg : vget s.guardChans g = some ch) : guardTick g s = s
    ∨ (∃ x, guardTick g s = s.setGuardChan g (some { ch with substate := x }))
    ∨ (∃ x y v, guardTick g s = guardTo g ch (some { ch with substate := y }) v
        (s.setGuardChan g (some { ch with substate := x })))
    ∨ ∃ x y v r, guardTick g s = (guardTo g ch (some { ch with substate := y }) v
        (s.setGuardChan g (some { ch with substate := x }))).report r := by
  cases hs : ch.substate with
  | holding n =>
    by_cases hn : 2 ≤ n
    · exact .inr (.inl ⟨_, guardTick_holds hg hs hn⟩)
    · exact .inr (.inr (.inr ⟨_, _, _, _, guardTick_fires hg hs (by omega)⟩))
  | firing n =>
    by_cases hn : 2 ≤ n
    · exact .inr (.inl ⟨_, guardTick_pulses hg hs hn⟩)
    · exact .inr (.inr (.inl ⟨_, _, _, guardTick_ends hg hs (by omega)⟩))
  | disarmed | armed | spent | suspended => exact .inl (guardTick_idle hg fun n => by rw [hs]; exact ⟨nofun, nofun⟩)

theorem chanPart_guardTick (hg : vget s.guardChans g = some ch) : ChanPart ch.handle s (guardTick g s) := by
  rcases guardTick_cases hg with e | ⟨x, e⟩ | ⟨x, y, v, e⟩ | ⟨x, y, v, r, e⟩ <;> rw [e]
  · exact .refl ..
  · exact chanPart_setGuardChan ..
  · exact (chanPart_setGuardChan g _).trans (chanPart_guardTo ..)
  · exact ((chanPart_setGuardChan g _).trans (chanPart_guardTo ..)).trans (chanPart_report r)

theorem guardTick_chan (hg : vget s.guardChans g = some ch) (d : GuardChan) : ∃ x, vget (guardTick g s).guardChans d
    = if d = g then some { ch with substate := x } else vget s.guardChans d := by
  rcases guardTick_cases hg with e | ⟨x, e⟩ | ⟨x, y, v, e⟩ | ⟨x, y, v, r, e⟩ <;> rw [e]
  · refine ⟨ch.substate, ?_⟩
    split
    · rename_i h
      rw [h, hg]
    · rfl
  · exact ⟨x, setGuardChan_chan ..⟩
  · refine ⟨y, ?_⟩
    rw [guardTo_chan]
    split
    · rfl
    · rw [setGuardChan_chan, if_neg ‹_›]
  · refine ⟨y, ?_⟩
    rw [State.report_guardChans, guardTo_chan]
    split
    · rfl
    · rw [setGuardChan_chan, if_neg ‹_›]

theorem guardTick_other {d : GuardChan} (hd : d ≠ g) : vget (guardTick g s).guardChans d = vget s.guardChans d := by
  cases hg : vget s.guardChans g with
  | none => rw [guardTick_free hg]
  | some ch =>
    obtain ⟨x, e⟩ := guardTick_chan hg d
    rw [e, if_neg hd]

end

end Sys2Proof.Machine

/-! PROOFS. A sample, a settle countdown and a stall count at the 1 ms tick. -/

namespace Sys2Proof.Machine

/-! ## The debounce filter (R130) -/

/-- The sample makes a debounced change. -/
def Changes (s : State) (n : Line) (v : Level) : Prop :=
  v ≠ (s.cell n).debounced ∧ (s.profile n).debounce ≤ (s.cell n).stability

/-- The debounced level after a sample. -/
def filteredLevel (s : State) (n : Line) (v : Level) : Level :=
  if v = (s.cell n).debounced ∨ (s.cell n).stability < (s.profile n).debounce then (s.cell n).debounced else v

/-- The stability count after a sample. -/
def filteredCount (s : State) (n : Line) (v : Level) : Nat :=
  if v ≠ (s.cell n).debounced ∧ (s.cell n).stability < (s.profile n).debounce then (s.cell n).stability + 1 else 0

/-- What the debounce filter does with a sample. -/
structure Filtered (s u : State) (n : Line) (v : Level) : Prop where
  only : TickOnly s u
  reports : s.reports <+: u.reports
  profiles : u.profiles = s.profiles
  settling : u.settling = s.settling
  patChans : u.patChans = s.patChans
  buses : u.buses = s.buses
  cell : ∀ m, u.cell m = if m = n then
    { s.cell n with debounced := filteredLevel s n v, stability := filteredCount s n v } else s.cell m
  kept : ¬Changes s n v → u.guardChans = s.guardChans
  seen : Changes s n v → ∀ g, vget u.guardChans g
    = (vget s.guardChans g).map fun ch => ch.sees n (combination u ch.conditions)

section
variable {s u t : State} {n : Line} {v : Level}

theorem filtered_setCell {c : Cell} (hno : ¬Changes s n v) (hc : c = { s.cell n with
    debounced := filteredLevel s n v, stability := filteredCount s n v }) : Filtered s (s.setCell n c) n v := by
  subst hc
  exact ⟨rfl, List.prefix_rfl, rfl, rfl, rfl, rfl, fun m => State.setCell_cell .., fun _ => rfl, fun h => absurd h hno⟩

theorem tickOnly_of_sample (h : { u with cells := s.cells, guardChans := s.guardChans, reports := s.reports } = s) :
    TickOnly s u :=
  (congrArg (fun w : State => { w with
    profiles := s.profiles, settling := s.settling, patChans := s.patChans, buses := s.buses }) h :)

theorem debouncedTo_appends (n : Line) (v : Level) (s : State) : s.reports <+: (debouncedTo n v s).reports := by
  by_cases h : ∀ k l, liveHolding s n = some (k, l) → l.params.isWatch = false
  · rw [debouncedTo_reports.2 h]
  · simp only [not_forall, Bool.not_eq_false] at h
    obtain ⟨k, l, hl, hw⟩ := h
    rw [debouncedTo_reports.1 k l hl hw]
    exact List.prefix_append ..

theorem debounceSample_filtered (n : Line) (v : Level) (s : State) : Filtered s (debounceSample n v s) n v := by
  unfold debounceSample
  dsimp only
  split
  · rename_i h
    exact filtered_setCell (fun hc => hc.1 h) (by simp [filteredLevel, filteredCount, h])
  · rename_i h
    split
    · rename_i hlt
      exact filtered_setCell (fun hc => absurd hc.2 (by omega)) (by simp [filteredLevel, filteredCount, h, hlt])
    · rename_i hge
      refine ⟨tickOnly_of_sample (debouncedTo_only n v s), debouncedTo_appends n v s, by simp, by simp, by simp, by simp, fun m => ?_,
        fun hno => absurd ⟨h, by omega⟩ hno, fun _ g => debouncedTo_chan g⟩
      rw [debouncedTo_cell]
      split
      · simp [filteredLevel, filteredCount, h, hge]
      · rfl

/-! ## The comparator (R133) -/

/-- The mismatch count of a line that a sample has met, before a drive fault is looked for. -/
def sampledCount (s : State) (n : Line) (v : Level) : Nat :=
  match checkedLevel s n with
  | some d => if d = v then 0 else (s.cell n).mismatch + 1
  | none => 0

/-- What the comparator does with a sample. -/
structure Compared (s t : State) (n : Line) (v : Level) : Prop where
  only : TickOnly s t
  reports : s.reports <+: t.reports
  settling : t.settling = s.settling
  patChans : t.patChans = s.patChans
  guardChans : t.guardChans = s.guardChans
  buses : t.buses = s.buses
  cell : ∀ m, t.cell m = if m = n then
    { s.cell n with mismatch := if 4 ≤ sampledCount s n v then 0 else sampledCount s n v } else s.cell m
  others : ∀ m, m ≠ n → t.profile m = s.profile m
  below : sampledCount s n v < 4 → t.profile n = s.profile n
  held : 4 ≤ sampledCount s n v → ∀ k l, liveHolding s n = some (k, l) → Report.fault (s.handle k) n ∈ t.reports
    ∧ t.profile n = s.profile n
  rest : 4 ≤ sampledCount s n v → liveHolding s n = none → Report.restFault n ∈ t.reports
    ∧ t.profile n = { s.profile n with restFault := true }

/-- The line's mismatch count stands at `x`. -/
def countedTo (n : Line) (x : Nat) (s : State) : State := s.setCell n { s.cell n with mismatch := x }

theorem compareSample_eq : compareSample n v s = driveFaultEnd n (countedTo n (sampledCount s n v) s) := by
  cases h : checkedLevel s n with
  | none => simp only [compareSample, sampledCount, countedTo, h]
  | some d => simp only [compareSample, sampledCount, countedTo, h]

theorem countedTo_cell (x : Nat) (m : Line) : (countedTo n x s).cell m
    = if m = n then { s.cell n with mismatch := x } else s.cell m := State.setCell_cell ..

theorem countedTo_recounted_cell (x : Nat) (m : Line) : (recounted n (countedTo n x s)).cell m
    = if m = n then { s.cell n with mismatch := 0 } else s.cell m := by
  rw [recounted_cell, countedTo_cell, countedTo_cell, if_pos rfl]
  split <;> rfl

theorem countedTo_only (x : Nat) : { countedTo n x s with cells := s.cells } = s := rfl
theorem recounted_only : { recounted n s with cells := s.cells } = s := rfl
theorem restFaulted_only : { restFaulted n s with profiles := s.profiles, reports := s.reports } = s := rfl

/-- Nothing but cells has changed. -/
def CellsOnly (s t : State) : Prop := { t with cells := s.cells } = s

theorem CellsOnly.trans (a : CellsOnly s u) (b : CellsOnly u t) : CellsOnly s t :=
  (congrArg (fun v : State => { v with cells := s.cells }) b :).trans a

theorem faulted_only (x : Nat) : CellsOnly s (recounted n (countedTo n x s)) :=
  CellsOnly.trans (u := countedTo n x s) (countedTo_only x) recounted_only

/-- A drive fault of a held line: the count starts again, and a report is made. -/
theorem compared_held {k : Slot} {l : Lease} (h4 : 4 ≤ sampledCount s n v) (hl : liveHolding s n = some (k, l))
    (hu : CellsOnly s u) (hcell : ∀ m, u.cell m = if m = n then { s.cell n with mismatch := 0 } else s.cell m) :
    Compared s (u.report (.fault (s.handle k) n)) n v where
  only := (congrArg (fun w : State => { w with
    profiles := s.profiles, settling := s.settling, patChans := s.patChans, guardChans := s.guardChans,
    reports := s.reports, buses := s.buses }) hu :)
  reports := by
    rw [State.report_reports, (congrArg State.reports hu :)]
    exact List.prefix_append ..
  settling := (congrArg State.settling hu :)
  patChans := (congrArg State.patChans hu :)
  guardChans := (congrArg State.guardChans hu :)
  buses := (congrArg State.buses hu :)
  cell m := by
    rw [if_pos h4]
    exact hcell m
  others m _ := congrArg (fun f => vget f m) (congrArg State.profiles hu :)
  below h := absurd h (by omega)
  held _ j m hj := by
    obtain ⟨rfl, rfl⟩ := Prod.mk.inj (Option.some.inj (hl.symm.trans hj))
    exact ⟨List.mem_append_right _ (by simp), congrArg (fun f => vget f n) (congrArg State.profiles hu :)⟩
  rest _ h := by
    rw [hl] at h
    cases h

/-- A drive fault of a line at rest: it gets its flag, too. -/
theorem compared_rest (h4 : 4 ≤ sampledCount s n v) (hl : liveHolding s n = none)
    (hu : CellsOnly s u) (hcell : ∀ m, u.cell m = if m = n then { s.cell n with mismatch := 0 } else s.cell m) :
    Compared s (restFaulted n u) n v where
  only := (congrArg (fun w : State => { w with
    profiles := s.profiles, settling := s.settling, patChans := s.patChans, guardChans := s.guardChans,
    reports := s.reports, buses := s.buses }) hu :)
  reports := by
    have h : (restFaulted n u).reports = u.reports ++ [.restFault n] := rfl
    rw [h, (congrArg State.reports hu :)]
    exact List.prefix_append ..
  settling := (congrArg State.settling hu :)
  patChans := (congrArg State.patChans hu :)
  guardChans := (congrArg State.guardChans hu :)
  buses := (congrArg State.buses hu :)
  cell m := by
    rw [if_pos h4]
    exact hcell m
  others m hm := by
    rw [restFaulted_profile, if_neg hm]
    exact congrArg (fun f => vget f m) (congrArg State.profiles hu :)
  below h := absurd h (by omega)
  held _ j m hj := by
    rw [hl] at hj
    cases hj
  rest _ _ := by
    refine ⟨List.mem_append_right _ (by simp), ?_⟩
    rw [restFaulted_profile, if_pos rfl]
    have : u.profile n = s.profile n := congrArg (fun f => vget f n) (congrArg State.profiles hu :)
    rw [this]

theorem compared_below (h4 : ¬4 ≤ sampledCount s n v) : Compared s (countedTo n (sampledCount s n v) s) n v where
  only := rfl
  reports := List.prefix_rfl
  settling := rfl
  patChans := rfl
  guardChans := rfl
  buses := rfl
  cell m := by
    rw [if_neg h4]
    exact countedTo_cell ..
  others _ _ := rfl
  below _ := rfl
  held h := absurd h h4
  rest h := absurd h h4

theorem compareSample_compared (n : Line) (v : Level) (s : State) : Compared s (compareSample n v s) n v := by
  rw [compareSample_eq]
  have hx : ((countedTo n (sampledCount s n v) s).cell n).mismatch = sampledCount s n v := by
    rw [countedTo_cell, if_pos rfl]
  have hlive : liveHolding (countedTo n (sampledCount s n v) s) n = liveHolding s n :=
    liveHolding_congr rfl fun _ _ => rfl
  by_cases h4 : 4 ≤ sampledCount s n v
  · cases hl : liveHolding s n with
    | some e =>
      obtain ⟨k, l⟩ := e
      rw [driveFaultEnd_held (by rw [hx]; exact h4) (hlive.trans hl)]
      exact compared_held h4 hl (faulted_only _) fun m => countedTo_recounted_cell ..
    | none =>
      rw [driveFaultEnd_rest (by rw [hx]; exact h4) (hlive.trans hl)]
      exact compared_rest h4 hl (faulted_only _) fun m => countedTo_recounted_cell ..
  · rw [driveFaultEnd_below (by rw [hx]; omega)]
    exact compared_below h4

/-! ## A sample at both -/

/-- What a sample does. -/
structure Sampled (s t : State) (n : Line) (v : Level) : Prop where
  only : TickOnly s t
  reports : s.reports <+: t.reports
  settling : t.settling = s.settling
  patChans : t.patChans = s.patChans
  buses : t.buses = s.buses
  cell : t.cell n = { s.cell n with
    debounced := filteredLevel s n v, stability := filteredCount s n v
    mismatch := if 4 ≤ sampledCount s n v then 0 else sampledCount s n v }
  others : ∀ m, m ≠ n → t.cell m = s.cell m ∧ t.profile m = s.profile m
  below : sampledCount s n v < 4 → t.profile n = s.profile n
  held : 4 ≤ sampledCount s n v → ∀ k l, liveHolding s n = some (k, l) → Report.fault (s.handle k) n ∈ t.reports
    ∧ t.profile n = s.profile n
  rest : 4 ≤ sampledCount s n v → liveHolding s n = none → Report.restFault n ∈ t.reports
    ∧ t.profile n = { s.profile n with restFault := true }
  kept : ¬Changes s n v → t.guardChans = s.guardChans
  seen : Changes s n v → ∀ g, vget t.guardChans g
    = (vget s.guardChans g).map fun ch => ch.sees n (combination t ch.conditions)

theorem sampleLine_sampled (n : Line) (v : Level) (s : State) : Sampled s (sampleLine n v s) n v := by
  have a := debounceSample_filtered n v s
  have b := compareSample_compared n v (debounceSample n v s)
  have hdef : sampleLine n v s = compareSample n v (debounceSample n v s) := rfl
  rw [← hdef] at b
  generalize debounceSample n v s = u at a b
  have hcell : u.cell n = { s.cell n with debounced := filteredLevel s n v, stability := filteredCount s n v } := by
    rw [a.cell, if_pos rfl]
  have hprofile : ∀ m, u.profile m = s.profile m := fun m => by rw [State.profile, a.profiles]; rfl
  have hsame : SameLine s u n := ⟨a.only.rstn, hprofile n, a.only.liveHolding n, by rw [hcell]⟩
  have hcount : sampledCount u n v = sampledCount s n v := by
    unfold sampledCount
    rw [← hsame.checked, hcell]
  have hlive := a.only.liveHolding n
  have hdeb : ∀ m, ((sampleLine n v s).cell m).debounced = (u.cell m).debounced := fun m => by
    rw [b.cell]
    split
    · rename_i h
      rw [h]
    · rfl
  refine ⟨a.only.trans b.only, a.reports.trans b.reports, b.settling.trans a.settling, b.patChans.trans a.patChans,
    b.buses.trans a.buses, ?_, fun m hm => ⟨?_, ?_⟩, fun h => ?_, fun h k l hl => ?_, fun h hl => ?_, fun hno => ?_,
    fun hch g => ?_⟩
  · rw [b.cell, if_pos rfl, hcount, hcell]
  · rw [b.cell, if_neg hm, a.cell, if_neg hm]
  · rw [b.others m hm, hprofile]
  · rw [b.below (by rwa [hcount]), hprofile]
  · have := b.held (by rwa [hcount]) k l (hlive.trans hl)
    rwa [a.only.handle, hprofile] at this
  · have := b.rest (by rwa [hcount]) (hlive.trans hl)
    rwa [hprofile] at this
  · rw [b.guardChans, a.kept hno]
  · rw [b.guardChans, a.seen hch]
    simp only [combination_congr hdeb]

end

/-! ## A settle countdown (R60) -/

section
variable {s : State} {k : Slot} {r : Settling}

theorem settleTick_free (hk : vget s.settling k = none) : settleTick k s = s := by simp [settleTick, hk]

/-- The settle countdowns of a retirement have fallen by one. -/
def settleCounted (k : Slot) (r : Settling) (s : State) : State :=
  { s.mapCells r.lines (fun _ c => { c with settle := c.settle - 1 }) with
    settling := vset s.settling k (some { r with ticked := true }) }

theorem settleCounted_cell (n : Line) : (settleCounted k r s).cell n
    = if has r.lines n then { s.cell n with settle := (s.cell n).settle - 1 } else s.cell n := by
  simp only [settleCounted, State.cell, State.mapCells, vget_vmap]

theorem settleCounted_only (k : Slot) (r : Settling) (s : State) :
    { settleCounted k r s with cells := s.cells, settling := s.settling } = s := by
  unfold settleCounted State.mapCells
  rfl

/-- What stands when only cells and settle records have changed. -/
theorem settleOnly_reports {t : State} (h : { t with cells := s.cells, settling := s.settling } = s) :
    t.reports = s.reports ∧ { t with cells := s.cells, settling := s.settling, reports := s.reports } = s :=
  ⟨(congrArg State.reports h :), (congrArg (fun v : State => { v with reports := s.reports }) h :)⟩

theorem settled_settleCounted_only (k : Slot) (r x : Settling) (s : State) :
    { settled k x (settleCounted k r s) with cells := s.cells, settling := s.settling, reports := s.reports } = s := by
  unfold settled State.report settleCounted State.mapCells
  rfl

theorem settleCounted_settling (j : Slot) : vget (settleCounted k r s).settling j
    = if j = k then some { r with ticked := true } else vget s.settling j := by
  rw [settleCounted, vget_vset]

theorem settled_cell (n : Line) : (settled k r s).cell n = s.cell n := by
  unfold settled
  rfl

theorem settleTick_cases (hk : vget s.settling k = some r) : settleTick k s = settleCounted k r s
    ∧ (∃ n, has r.lines n = true ∧ 2 ≤ (s.cell n).settle)
    ∨ settleTick k s = settled k { r with ticked := true } (settleCounted k r s)
      ∧ ∀ n, has r.lines n = true → (s.cell n).settle ≤ 1 := by
  have hdef : settleTick k s = settleEnd k (settleCounted k r s) := by simp [settleTick, hk, settleCounted]
  have hk' : vget (settleCounted k r s).settling k = some { r with ticked := true } := by
    rw [settleCounted_settling, if_pos rfl]
  have hle : ∀ n, has r.lines n = true → (((settleCounted k r s).cell n).settle = 0 ↔ (s.cell n).settle ≤ 1) :=
    fun n hn => by
      rw [settleCounted_cell, if_pos hn]
      dsimp only
      omega
  rw [hdef]
  by_cases hdue : settleDue (settleCounted k r s) { r with ticked := true } = true
  · rw [settleEnd_due hk' hdue]
    exact .inr ⟨rfl, fun n hn => (hle n hn).mp (((settleDue_iff ..).mp hdue).2 n hn)⟩
  · rw [settleEnd_wait hk' (by simpa using hdue)]
    refine .inl ⟨rfl, ?_⟩
    by_contra hno
    refine hdue ((settleDue_iff ..).mpr ⟨rfl, fun n hn => (hle n hn).mpr ?_⟩)
    by_contra hlt
    exact hno ⟨n, hn, by omega⟩

/-- What a settle countdown's part of the tick does. -/
structure SettlePart (k : Slot) (s t : State) : Prop where
  only : TickOnly s t
  reports : s.reports <+: t.reports
  profiles : t.profiles = s.profiles
  patChans : t.patChans = s.patChans
  guardChans : t.guardChans = s.guardChans
  buses : t.buses = s.buses
  others : ∀ j, j ≠ k → vget t.settling j = vget s.settling j
  lines : ∀ x, vget t.settling k = some x → ∃ y, vget s.settling k = some y ∧ x.lines = y.lines
  cell : ∀ n, t.cell n = s.cell n
    ∨ (∃ r, vget s.settling k = some r ∧ has r.lines n = true)
      ∧ t.cell n = { s.cell n with settle := (s.cell n).settle - 1 }

theorem settlePart_of {t : State} (hk : vget s.settling k = some r)
    (honly : { t with cells := s.cells, settling := s.settling, reports := s.reports } = s)
    (hrep : s.reports <+: t.reports)
    (hset : ∀ j, j ≠ k → vget t.settling j = vget s.settling j)
    (hlines : ∀ x, vget t.settling k = some x → x.lines = r.lines)
    (hcell : ∀ n, t.cell n = s.cell n ∨ (∃ x, vget s.settling k = some x ∧ has x.lines n = true)
      ∧ t.cell n = { s.cell n with settle := (s.cell n).settle - 1 }) : SettlePart k s t where
  only := (congrArg (fun v : State => { v with
    profiles := s.profiles, patChans := s.patChans, guardChans := s.guardChans, buses := s.buses }) honly :)
  reports := hrep
  profiles := (congrArg State.profiles honly :)
  patChans := (congrArg State.patChans honly :)
  guardChans := (congrArg State.guardChans honly :)
  buses := (congrArg State.buses honly :)
  others := hset
  lines x hx := ⟨r, hk, hlines x hx⟩
  cell := hcell

theorem settleTick_part (k : Slot) (s : State) : SettlePart k s (settleTick k s) := by
  cases hk : vget s.settling k with
  | none =>
    rw [settleTick_free hk]
    exact ⟨rfl, List.prefix_rfl, rfl, rfl, rfl, rfl, fun _ _ => rfl, fun x hx => ⟨x, hx, rfl⟩, fun _ => .inl rfl⟩
  | some r =>
    have hcell : ∀ n, (settleCounted k r s).cell n = s.cell n
        ∨ (∃ x, vget s.settling k = some x ∧ has x.lines n = true)
          ∧ (settleCounted k r s).cell n = { s.cell n with settle := (s.cell n).settle - 1 } := fun n => by
      rw [settleCounted_cell]
      split
      · exact .inr ⟨⟨r, hk, ‹_›⟩, rfl⟩
      · exact .inl rfl
    rcases settleTick_cases hk with ⟨e, -⟩ | ⟨e, -⟩ <;> rw [e]
    · have hrep := settleOnly_reports (settleCounted_only k r s)
      refine settlePart_of hk hrep.2 (by rw [hrep.1]) (fun j hj => ?_) (fun x hx => ?_) hcell
      · rw [settleCounted_settling, if_neg hj]
      · rw [settleCounted_settling, if_pos rfl] at hx
        rw [← Option.some.inj hx]
    · have hrep := settleOnly_reports (settleCounted_only k r s)
      refine settlePart_of hk (settled_settleCounted_only ..) ?_ (fun j hj => ?_) (fun x hx => ?_) fun n => ?_
      · rw [settled_reports, hrep.1]
        exact List.prefix_append ..
      · rw [settled_settling, if_neg hj, settleCounted_settling, if_neg hj]
      · rw [settled_settling, if_pos rfl] at hx
        cases hx
      · rw [settled_cell]
        exact hcell n

end

/-! ## A stall count (R168) -/

section
variable {s : State} {p : Port} {low rose : Bool}

theorem busTick_only (p : Port) (low rose : Bool) (s : State) : { busTick p low rose s with buses := s.buses } = s := by
  unfold busTick stallEnd
  dsimp only
  split <;> rfl

end

end Sys2Proof.Machine

/-! PROOFS. What every part of the 1 ms tick leaves alone. -/

namespace Sys2Proof.Machine

/-! ## What a part does -/

/-- Nothing but the I2C interfaces has changed. -/
def BusOnly (s t : State) : Prop := { t with buses := s.buses } = s

section
variable {s t : State}

theorem BusOnly.cells (a : BusOnly s t) : t.cells = s.cells := (congrArg State.cells a :)
theorem BusOnly.cell (a : BusOnly s t) (n : Line) : t.cell n = s.cell n := by rw [State.cell, a.cells]; rfl
theorem BusOnly.profiles (a : BusOnly s t) : t.profiles = s.profiles := (congrArg State.profiles a :)
theorem BusOnly.reports (a : BusOnly s t) : t.reports = s.reports := (congrArg State.reports a :)
theorem BusOnly.patChans (a : BusOnly s t) : t.patChans = s.patChans := (congrArg State.patChans a :)
theorem BusOnly.guardChans (a : BusOnly s t) : t.guardChans = s.guardChans := (congrArg State.guardChans a :)
theorem BusOnly.settling (a : BusOnly s t) : t.settling = s.settling := (congrArg State.settling a :)

theorem BusOnly.only (a : BusOnly s t) : TickOnly s t :=
  (congrArg (fun v : State => { v with
    cells := s.cells, profiles := s.profiles, settling := s.settling, patChans := s.patChans,
    guardChans := s.guardChans, reports := s.reports }) a :)

end

/-- What one part of the tick does. -/
inductive PartDoes (pads : Levels) (s t : State) : TickPart → Prop
  | idle (y : TickPart) : t = s → (∀ n, y ≠ .sample n) → PartDoes pads s t y
  | sample (n : Line) : Sampled s t n (has pads n) → PartDoes pads s t (.sample n)
  | pattern (c : PatChan) (ch : PatternChannel) (x : PatternChannel) : vget s.patChans c = some ch →
      ChanPart ch.handle s t → vget t.patChans c = some x → x.handle = ch.handle →
      (∀ d, d ≠ c → vget t.patChans d = vget s.patChans d) → t.guardChans = s.guardChans →
      PartDoes pads s t (.pattern c)
  | guard (g : GuardChan) (ch : GuardChannel) (x : Substate) : vget s.guardChans g = some ch →
      ChanPart ch.handle s t → vget t.guardChans g = some { ch with substate := x } →
      (∀ d, d ≠ g → vget t.guardChans d = vget s.guardChans d) → t.patChans = s.patChans →
      PartDoes pads s t (.guard g)
  | settle (k : Slot) : SettlePart k s t → PartDoes pads s t (.settle k)
  | bus (p : Port) : BusOnly s t → PartDoes pads s t (.bus p)

theorem tickPart_does (pads : Levels) (scl : SclTick) (x : TickState) (y : TickPart) :
    PartDoes pads x.1 (tickPart pads scl x y).1 y := by
  cases y with
  | sample n => exact .sample n (sampleLine_sampled n _ x.1)
  | pattern c =>
    cases hc : vget x.1.patChans c with
    | none => exact .idle _ (patternTick_free hc) fun _ => nofun
    | some ch =>
      have hmap := patternTick_chanHandle (s := x.1) (c := c) c
      rw [hc] at hmap
      obtain ⟨y, hy, hh⟩ := Option.map_eq_some_iff.mp hmap
      exact .pattern c ch y hc (chanPart_patternTick hc) hy hh (fun d hd => patternTick_other hd)
        (by simp [tickPart])
  | guard g =>
    simp only [tickPart]
    split
    · exact .idle _ rfl fun _ => nofun
    · cases hg : vget x.1.guardChans g with
      | none => exact .idle _ (guardTick_free hg) fun _ => nofun
      | some ch =>
        obtain ⟨y, hy⟩ := guardTick_chan hg g
        rw [if_pos rfl] at hy
        exact .guard g ch y hg (chanPart_guardTick hg) hy (fun d hd => guardTick_other hd) (by simp)
  | settle k => exact .settle k (settleTick_part k x.1)
  | bus p => exact .bus p (busTick_only ..)

/-- The holds that samples of the tick have started stay noted. -/
theorem tickPart_fresh (pads : Levels) (scl : SclTick) (x : TickState) (y : TickPart) {g : GuardChan} (h : g ∈ x.2) :
    g ∈ (tickPart pads scl x y).2 := by
  cases y with
  | sample n => exact List.mem_append_right _ h
  | pattern _ | guard _ | settle _ | bus _ => exact h

/-! ## What stands through every part -/

/-- What no part of the tick changes. -/
structure TickFrame (s t : State) : Prop where
  only : TickOnly s t
  reports : s.reports <+: t.reports
  patHandle : ∀ c x, vget t.patChans c = some x → ∃ ch, vget s.patChans c = some ch ∧ x.handle = ch.handle
  guardSetUp : ∀ g x, vget t.guardChans g = some x →
    ∃ ch, vget s.guardChans g = some ch ∧ x = { ch with substate := x.substate }
  settleLines : ∀ j x, vget t.settling j = some x → ∃ y, vget s.settling j = some y ∧ x.lines = y.lines
  settle : ∀ n, (t.cell n).settle ≤ (s.cell n).settle

section
variable {pads : Levels} {s t u : State} {y : TickPart}

theorem TickFrame.refl (s : State) : TickFrame s s :=
  ⟨rfl, List.prefix_rfl, fun _ x h => ⟨x, h, rfl⟩, fun _ x h => ⟨x, h, rfl⟩, fun _ x h => ⟨x, h, rfl⟩, fun _ => le_rfl⟩

theorem TickFrame.trans (a : TickFrame s t) (b : TickFrame t u) : TickFrame s u where
  only := a.only.trans b.only
  reports := a.reports.trans b.reports
  patHandle c x h := by
    obtain ⟨y, hy, e⟩ := b.patHandle c x h
    obtain ⟨z, hz, e'⟩ := a.patHandle c y hy
    exact ⟨z, hz, e.trans e'⟩
  guardSetUp g x h := by
    obtain ⟨y, hy, e⟩ := b.guardSetUp g x h
    obtain ⟨z, hz, e'⟩ := a.guardSetUp g y hy
    exact ⟨z, hz, by rw [e, e']⟩
  settleLines j x h := by
    obtain ⟨y, hy, e⟩ := b.settleLines j x h
    obtain ⟨z, hz, e'⟩ := a.settleLines j y hy
    exact ⟨z, hz, e.trans e'⟩
  settle n := (b.settle n).trans (a.settle n)

theorem sees_eq (ch : GuardChannel) (n : Line) (now : Bool) :
    ch.sees n now = { ch with substate := (ch.sees n now).substate } := by
  unfold GuardChannel.sees
  split
  · exact react_eq ch now
  · rfl

/-- A guard channel keeps its set-up through a sample. -/
theorem Sampled.setUp {n : Line} {v : Level} (a : Sampled s t n v) (g : GuardChan) (x : GuardChannel)
    (h : vget t.guardChans g = some x) :
    ∃ ch, vget s.guardChans g = some ch ∧ x = { ch with substate := x.substate } := by
  by_cases hch : Changes s n v
  · rw [a.seen hch g] at h
    obtain ⟨ch, hg, e⟩ := Option.map_eq_some_iff.mp h
    refine ⟨ch, hg, ?_⟩
    rw [← e]
    exact sees_eq ..
  · rw [a.kept hch] at h
    exact ⟨x, h, rfl⟩

theorem Sampled.settle {n : Line} {v : Level} (a : Sampled s t n v) (m : Line) :
    (t.cell m).settle = (s.cell m).settle := by
  by_cases hm : m = n
  · rw [hm, a.cell]
  · rw [(a.others m hm).1]

theorem PartDoes.frame (h : PartDoes pads s t y) : TickFrame s t := by
  cases h with
  | idle _ e _ => rw [e]; exact .refl s
  | sample n a =>
    exact ⟨a.only, a.reports, fun c x h => ⟨x, by rwa [← a.patChans], rfl⟩, a.setUp,
      fun j x h => ⟨x, by rwa [← a.settling], rfl⟩, fun m => (a.settle m).le⟩
  | pattern c ch x hc a hx hh others hguard =>
    refine ⟨a.only, a.reports, fun d z hz => ?_, fun g x h => ⟨x, by rwa [← hguard], rfl⟩,
      fun j x h => ⟨x, by rwa [← a.settling], rfl⟩, fun n => (a.rest n).2.2.le⟩
    by_cases hd : d = c
    · subst hd
      obtain rfl := Option.some.inj (hx.symm.trans hz)
      exact ⟨ch, hc, hh⟩
    · exact ⟨z, by rwa [← others d hd], rfl⟩
  | guard g ch x hg a hx others hpat =>
    refine ⟨a.only, a.reports, fun c x h => ⟨x, by rwa [← hpat], rfl⟩, fun d z hz => ?_,
      fun j x h => ⟨x, by rwa [← a.settling], rfl⟩, fun n => (a.rest n).2.2.le⟩
    by_cases hd : d = g
    · subst hd
      obtain rfl := Option.some.inj (hx.symm.trans hz)
      exact ⟨ch, hg, rfl⟩
    · exact ⟨z, by rwa [← others d hd], rfl⟩
  | settle k a =>
    refine ⟨a.only, a.reports, fun c x h => ⟨x, by rwa [← a.patChans], rfl⟩,
      fun g x h => ⟨x, by rwa [← a.guardChans], rfl⟩, fun j x h => ?_, fun n => ?_⟩
    · by_cases hj : j = k
      · subst hj
        exact a.lines x h
      · exact ⟨x, by rwa [← a.others j hj], rfl⟩
    · rcases a.cell n with e | ⟨-, e⟩ <;> rw [e]
      exact Nat.sub_le ..
  | bus p a =>
    refine ⟨a.only, by rw [a.reports], fun c x h => ⟨x, by rwa [← a.patChans], rfl⟩,
      fun g x h => ⟨x, by rwa [← a.guardChans], rfl⟩, fun j x h => ⟨x, by rwa [← a.settling], rfl⟩,
      fun n => by rw [a.cell]⟩

/-! ## One line through the parts of others -/

/-- The debounce filter of a line and its profile, through every part but its own sample. -/
theorem PartDoes.filter (h : PartDoes pads s t y) {n : Line} (hy : y ≠ .sample n) :
    (t.cell n).debounced = (s.cell n).debounced ∧ (t.cell n).stability = (s.cell n).stability
      ∧ t.profile n = s.profile n := by
  have hprofile : t.profiles = s.profiles → t.profile n = s.profile n := fun e => by rw [State.profile, e]; rfl
  cases h with
  | idle _ e _ => rw [e]; exact ⟨rfl, rfl, rfl⟩
  | sample m a =>
    have hm : n ≠ m := fun e => hy (by rw [e])
    rw [(a.others n hm).1, (a.others n hm).2]
    exact ⟨rfl, rfl, rfl⟩
  | pattern c ch x hc a _ _ _ _ => exact ⟨(a.rest n).1, (a.rest n).2.1, hprofile a.profiles⟩
  | guard g ch x hg a _ _ _ => exact ⟨(a.rest n).1, (a.rest n).2.1, hprofile a.profiles⟩
  | settle k a =>
    refine ⟨?_, ?_, hprofile a.profiles⟩ <;> rcases a.cell n with e | ⟨-, e⟩ <;> rw [e]
  | bus p a =>
    rw [a.cell]
    exact ⟨rfl, rfl, hprofile a.profiles⟩

/-- The checks of a line that a part sends no level and no sample. -/
theorem SettlePart.checks {k : Slot} (a : SettlePart k s t) (n : Line) :
    (t.cell n).assigned = (s.cell n).assigned ∧ (t.cell n).mismatch = (s.cell n).mismatch := by
  rcases a.cell n with e | ⟨-, e⟩ <;> rw [e] <;> exact ⟨rfl, rfl⟩

/-- No channel that a part of another works for has the handle `h`. -/
structure Foreign (s : State) (own : TickPart) (h : Handle) : Prop where
  pattern : ∀ d x, .pattern d ≠ own → vget s.patChans d = some x → x.handle ≠ h
  guard : ∀ g x, .guard g ≠ own → vget s.guardChans g = some x → x.handle ≠ h

theorem OnlyPattern.foreign {c : PatChan} {h : Handle} (o : OnlyPattern s c h) : Foreign s (.pattern c) h :=
  ⟨fun d x hd => o.1 d x fun e => hd (by rw [e]), fun g x _ => o.2 g x⟩

theorem OnlyGuard.foreign {g : GuardChan} {h : Handle} (o : OnlyGuard s g h) : Foreign s (.guard g) h :=
  ⟨fun d x _ => o.2 d x, fun d x hd => o.1 d x fun e => hd (by rw [e])⟩

/-- The level of a line stays through the parts that do not work for its channel. -/
theorem PartDoes.assigned {own : TickPart} {h : Handle} {n : Line} (d : PartDoes pads t u y) (f : TickFrame s t)
    (o : Foreign s own h) (hy : y ≠ own) (hn : vget s.heldBy n = some h.slot) (hh : s.handle h.slot = h) :
    (u.cell n).assigned = (t.cell n).assigned := by
  have missed : ∀ h' : Handle, h' ≠ h → ChanPart h' t u → u.cell n = t.cell n := fun h' hne a => by
    refine a.missed n fun hheld e => hne ?_
    rw [f.only.heldBy, hn] at hheld
    rw [f.only.handle, ← Option.some.inj hheld, hh] at e
    exact e.symm
  cases d with
  | idle _ e _ => rw [e]
  | sample m a =>
    by_cases hm : n = m
    · rw [hm, a.cell]
    · rw [(a.others n hm).1]
  | pattern c ch x hc a _ _ _ _ =>
    obtain ⟨z, hz, e⟩ := f.patHandle c ch hc
    rw [missed ch.handle (by rw [e]; exact o.pattern c z hy hz) a]
  | guard g ch x hg a _ _ _ =>
    obtain ⟨z, hz, e⟩ := f.guardSetUp g ch hg
    have he : ch.handle = z.handle := by rw [e]
    rw [missed ch.handle (by rw [he]; exact o.guard g z hy hz) a]
  | settle k a => exact (a.checks n).1
  | bus p a => rw [a.cell]

end

end Sys2Proof.Machine

/-! PROOFS. The 1 ms tick at one line: the debounce filter, the comparator and a change of configuration. -/

namespace Sys2Proof.Machine

section
variable {pads : Levels} {scl : SclTick} {s t u : State}

theorem msTicked_frame (pads : Levels) (scl : SclTick) (order : List TickPart) (s : State) :
    TickFrame s (msTicked pads scl order s) := by
  obtain ⟨_, h⟩ := msTicked_inv (P := fun x => TickFrame s x.1) (pads := pads) (scl := scl) order
    (fun y x h => h.trans (tickPart_does pads scl x y).frame) (.refl s)
  exact h

/-! ## The debounce filter (R130) -/

/-- A drive fault may set the rest-fault flag of the line; nothing else of its profile changes. -/
theorem Sampled.profile {n : Line} {v : Level} (a : Sampled s t n v) : t.profile n = s.profile n
    ∨ t.profile n = { s.profile n with restFault := true } ∧ (t.cell n).mismatch = 0 := by
  by_cases h4 : 4 ≤ sampledCount s n v
  · cases hl : liveHolding s n with
    | some e => exact .inl (a.held h4 e.1 e.2 hl).2
    | none => exact .inr ⟨(a.rest h4 hl).2, by rw [a.cell]; exact if_pos h4⟩
  · exact .inl (a.below (by omega))

/-- The filter of a line looks at its levels, its count and its profile alone. -/
theorem filtered_congr {n : Line} {v : Level} (hd : (u.cell n).debounced = (s.cell n).debounced)
    (hc : (u.cell n).stability = (s.cell n).stability) (hp : u.profile n = s.profile n) :
    filteredLevel u n v = filteredLevel s n v ∧ filteredCount u n v = filteredCount s n v := by
  unfold filteredLevel filteredCount
  rw [hd, hc, hp]
  exact ⟨rfl, rfl⟩

/-- Each line's debounce filter takes one sample. -/
theorem msTicked_filter (order : List TickPart) (n : Line) : let t := msTicked pads scl order s
    (t.cell n).debounced = filteredLevel s n (has pads n) ∧ (t.cell n).stability = filteredCount s n (has pads n)
      ∧ { t.profile n with restFault := (s.profile n).restFault } = s.profile n := by
  obtain ⟨_, h⟩ := msTicked_part (pads := pads) (scl := scl) (s := s) (.sample n) order
    (P := fun x => (x.1.cell n).debounced = (s.cell n).debounced ∧ (x.1.cell n).stability = (s.cell n).stability
      ∧ x.1.profile n = s.profile n)
    (Q := fun x => (x.1.cell n).debounced = filteredLevel s n (has pads n)
      ∧ (x.1.cell n).stability = filteredCount s n (has pads n)
      ∧ { x.1.profile n with restFault := (s.profile n).restFault } = s.profile n)
    (fun y x hy ⟨hd, hc, hp⟩ => by
      obtain ⟨h₁, h₂, h₃⟩ := (tickPart_does pads scl x y).filter hy
      exact ⟨h₁.trans hd, h₂.trans hc, h₃.trans hp⟩)
    (fun x ⟨hd, hc, hp⟩ => by
      have a : Sampled x.1 (tickPart pads scl x (.sample n)).1 n (has pads n) := sampleLine_sampled ..
      obtain ⟨h₁, h₂⟩ := filtered_congr (v := has pads n) hd hc hp
      refine ⟨by rw [a.cell]; exact h₁, by rw [a.cell]; exact h₂, ?_⟩
      rcases a.profile with e | ⟨e, -⟩ <;> rw [e, hp])
    (fun y x hy ⟨hd, hc, hp⟩ => by
      obtain ⟨h₁, h₂, h₃⟩ := (tickPart_does pads scl x y).filter hy
      exact ⟨h₁.trans hd, h₂.trans hc, by rw [h₃, hp]⟩)
    ⟨rfl, rfl, rfl⟩
  exact h

/-! ## What is still ahead of the channels -/

/-- Between two parts of a tick: the channels whose part is still ahead. -/
structure Ahead (s : State) (done : List TickPart) (x : TickState) : Prop where
  frame : TickFrame s x.1
  pattern : ∀ c, .pattern c ∉ done → vget x.1.patChans c = vget s.patChans c
  guard : ∀ g ch m, .guard g ∉ done → vget x.1.guardChans g = some ch →
    (ch.substate = .holding m ∨ ch.substate = .firing m) → g ∈ x.2 ∨ vget s.guardChans g = some ch

theorem ahead_start (s : State) : Ahead s [] (s, []) :=
  ⟨.refl s, fun _ _ => rfl, fun _ _ _ _ h _ => .inr h⟩

/-- A sample starts a hold, ends one, or leaves the countdowns of the guard channels alone. -/
theorem react_counts {ch : GuardChannel} {now : Bool} {m : Nat}
    (h : (ch.react now).substate = .holding m ∨ (ch.react now).substate = .firing m) :
    ch.react now = ch ∨ ch.substate = .armed := by
  unfold GuardChannel.react at h ⊢
  split at h <;> simp_all

theorem sees_counts {ch : GuardChannel} {n : Line} {now : Bool} {m : Nat}
    (h : (ch.sees n now).substate = .holding m ∨ (ch.sees n now).substate = .firing m) :
    ch.sees n now = ch ∨ ch.substate = .armed := by
  unfold GuardChannel.sees at h ⊢
  split
  · rename_i ho
    rw [if_pos ho] at h
    exact react_counts h
  · exact .inl rfl

theorem isHolding_of {g : GuardChan} {ch : GuardChannel} (hg : vget s.guardChans g = some ch) :
    isHolding s g = true ↔ ∃ m, ch.substate = .holding m := by
  unfold isHolding
  rw [hg]
  dsimp only
  cases ch.substate <;> simp

theorem mem_freshHolds {g : GuardChan} :
    g ∈ freshHolds s t ↔ isHolding s g = false ∧ isHolding t g = true := by
  simp [freshHolds]

/-- A channel that no debounced change has made count is as it was, or its hold has just begun. -/
theorem Sampled.counts {n : Line} {v : Level} (a : Sampled s t n v) {g : GuardChan} {x : GuardChannel} {m : Nat}
    (hx : vget t.guardChans g = some x) (hm : x.substate = .holding m ∨ x.substate = .firing m) :
    vget s.guardChans g = some x ∨ g ∈ freshHolds s t := by
  by_cases hch : Changes s n v
  · have hx' := hx
    rw [a.seen hch g] at hx'
    obtain ⟨ch, hg, e⟩ := Option.map_eq_some_iff.mp hx'
    rw [← e] at hm
    rcases sees_counts hm with h | h
    · exact .inl (by rw [hg, ← e, h])
    · refine .inr (mem_freshHolds.mpr ⟨?_, ?_⟩)
      · rw [← Bool.not_eq_true, isHolding_of hg, h]
        rintro ⟨_, h⟩
        cases h
      · rw [isHolding_of hx, ← e]
        rcases hm with hm | hm
        · exact ⟨m, hm⟩
        · have hne : ∀ now, (ch.sees n now).substate ≠ .firing m := fun now hf => by
            unfold GuardChannel.sees GuardChannel.react at hf
            split at hf
            · rw [h] at hf
              cases now <;> simp [h] at hf
            · rw [h] at hf
              cases hf
          exact absurd hm (hne _)
  · rw [a.kept hch] at hx
    exact .inl hx

theorem Ahead.step {done : List TickPart} {x : TickState} {y : TickPart} (a : Ahead s done x) (hy : y ∉ done) :
    Ahead s (y :: done) (tickPart pads scl x y) := by
  have d := tickPart_does pads scl x y
  refine ⟨a.frame.trans d.frame, fun c hc => ?_, fun g ch m hg hch hm => ?_⟩
  · obtain ⟨hne, hc⟩ := not_or.mp (fun h => hc (List.mem_cons.mpr h))
    rw [← a.pattern c hc]
    generalize (tickPart pads scl x y).1 = t at d
    cases d with
    | idle _ e _ => rw [e]
    | sample n a => rw [a.patChans]
    | pattern c' _ _ _ _ _ _ others _ => exact others c fun e => hne (by rw [e])
    | guard _ _ _ _ _ _ _ hpat => rw [hpat]
    | settle _ a => rw [a.patChans]
    | bus _ a => rw [a.patChans]
  · obtain ⟨hne, hg⟩ := not_or.mp (fun h => hg (List.mem_cons.mpr h))
    have back : vget x.1.guardChans g = some ch → g ∈ (tickPart pads scl x y).2 ∨ vget s.guardChans g = some ch :=
      fun h => (a.guard g ch m hg h hm).imp_left (tickPart_fresh pads scl x y)
    cases y with
    | sample n =>
      have b : Sampled x.1 (tickPart pads scl x (.sample n)).1 n (has pads n) := sampleLine_sampled ..
      rcases b.counts hch hm with h | h
      · exact back h
      · exact .inl (List.mem_append_left _ h)
    | guard g' =>
      refine back ?_
      have hother : vget (tickPart pads scl x (.guard g')).1.guardChans g = vget x.1.guardChans g := by
        simp only [tickPart]
        split
        · rfl
        · exact guardTick_other fun e => hne (by rw [e])
      rwa [hother] at hch
    | pattern c =>
      have : (tickPart pads scl x (.pattern c)).1.guardChans = x.1.guardChans := by simp [tickPart]
      exact back (by rwa [this] at hch)
    | settle k =>
      have : (tickPart pads scl x (.settle k)).1.guardChans = x.1.guardChans := by simp [tickPart]
      exact back (by rwa [this] at hch)
    | bus p =>
      have : (tickPart pads scl x (.bus p)).1.guardChans = x.1.guardChans := by simp [tickPart]
      exact back (by rwa [this] at hch)

end

end Sys2Proof.Machine

/-! PROOFS. The 1 ms tick at one line: the comparator (R133 to R135), and a change of configuration. -/

namespace Sys2Proof.Machine

section
variable {pads : Levels} {scl : SclTick} {s t u : State}

/-! ## A channel that comes to no end -/

theorem patternTick_quiet {c : PatChan} (h : ∀ ch m left, vget s.patChans c = some ch → ch.phase = .running m left → 2 ≤ m) :
    (patternTick c s).cells = s.cells := by
  cases hc : vget s.patChans c with
  | none => rw [patternTick_free hc]
  | some ch =>
    cases hp : ch.phase with
    | running m left =>
      rw [patternTick_counts hc hp (h ch m left hc hp)]
      rfl
    | paused _ | done => rw [patternTick_idle hc fun n x e => by rw [hp] at e; cases e]

theorem guardTick_quiet {g : GuardChan} (h : ∀ ch m, vget s.guardChans g = some ch →
    (ch.substate = .holding m ∨ ch.substate = .firing m) → 2 ≤ m) : (guardTick g s).cells = s.cells := by
  cases hg : vget s.guardChans g with
  | none => rw [guardTick_free hg]
  | some ch =>
    cases hs : ch.substate with
    | holding m =>
      rw [guardTick_holds hg hs (h ch m hg (.inl hs))]
      rfl
    | firing m =>
      rw [guardTick_pulses hg hs (h ch m hg (.inr hs))]
      rfl
    | disarmed | armed | spent | suspended =>
      rw [guardTick_idle hg fun n => by rw [hs]; exact ⟨nofun, nofun⟩]

theorem cell_of_cells (h : t.cells = s.cells) (n : Line) : t.cell n = s.cell n := by
  rw [State.cell, h]
  rfl

/-- The level and the mismatch count of a line that no channel's end reaches stay through every part but its sample. -/
theorem Ahead.checks {done : List TickPart} {x : TickState} {y : TickPart} {n : Line} (a : Ahead s done x)
    (hy : y ∉ done) (hn : y ≠ .sample n) (hl : LineLeftAlone s n) :
    ((tickPart pads scl x y).1.cell n).assigned = (x.1.cell n).assigned
      ∧ ((tickPart pads scl x y).1.cell n).mismatch = (x.1.cell n).mismatch := by
  have same : ∀ {t : State}, t.cell n = x.1.cell n → (t.cell n).assigned = (x.1.cell n).assigned
      ∧ (t.cell n).mismatch = (x.1.cell n).mismatch := fun e => by rw [e]; exact ⟨rfl, rfl⟩
  cases y with
  | sample m => exact same ((sampleLine_sampled m _ x.1).others n fun e => hn (by rw [e])).1
  | pattern c =>
    cases hc : vget x.1.patChans c with
    | none => exact same (by rw [tickPart, patternTick_free hc])
    | some ch =>
      by_cases hheld : vget s.heldBy n = some ch.handle.slot
      · refine same (cell_of_cells (patternTick_quiet fun ch' m left hc' hp => ?_) n)
        obtain rfl := Option.some.inj (hc.symm.trans hc')
        exact hl.1 c ch m left (by rw [← a.pattern c hy, hc]) hheld hp
      · exact same ((chanPart_patternTick hc).missed n fun h => absurd (by rwa [a.frame.only.heldBy] at h) hheld)
  | guard g =>
    simp only [tickPart]
    split
    · exact same rfl
    · rename_i hfresh
      cases hg : vget x.1.guardChans g with
      | none => exact same (by rw [guardTick_free hg])
      | some ch =>
        by_cases hheld : vget s.heldBy n = some ch.handle.slot
        · refine same (cell_of_cells (guardTick_quiet fun ch' m hg' hm => ?_) n)
          obtain rfl := Option.some.inj (hg.symm.trans hg')
          exact hl.2 g ch m ((a.guard g ch m hy hg hm).resolve_left hfresh) hheld hm
        · exact same ((chanPart_guardTick hg).missed n fun h => absurd (by rwa [a.frame.only.heldBy] at h) hheld)
  | settle k => exact (settleTick_part k x.1).checks n
  | bus p => exact same (BusOnly.cell (busTick_only ..) n)

/-! ## The comparator -/

/-- What the comparator has made of line `n`'s sample. -/
structure CheckedBy (s t : State) (n : Line) (v : Level) : Prop where
  assigned : (t.cell n).assigned = (s.cell n).assigned
  mismatch : (t.cell n).mismatch = if 4 ≤ sampledCount s n v then 0 else sampledCount s n v
  held : 4 ≤ sampledCount s n v → ∀ k l, liveHolding s n = some (k, l) → Report.fault (s.handle k) n ∈ t.reports
  rest : 4 ≤ sampledCount s n v → liveHolding s n = none → Report.restFault n ∈ t.reports
    ∧ (t.profile n).restFault = true

theorem sampledCount_congr {n : Line} {v : Level} (h : SameLine s u n) (hm : (u.cell n).mismatch = (s.cell n).mismatch) :
    sampledCount u n v = sampledCount s n v := by
  unfold sampledCount
  rw [← h.checked, hm]

/-- A line that no channel's end reaches is checked once, with its level as it was. -/
theorem msTicked_checked (order : List TickPart) {n : Line} (hl : LineLeftAlone s n) :
    CheckedBy s (msTicked pads scl order s) n (has pads n) := by
  obtain ⟨done, _, hall, -, h⟩ := msTicked_run (pads := pads) (scl := scl) (s := s) order
    (P := fun done x => Ahead s done x ∧ if .sample n ∈ done then CheckedBy s x.1 n (has pads n) else
      (x.1.cell n).assigned = (s.cell n).assigned ∧ (x.1.cell n).mismatch = (s.cell n).mismatch
        ∧ x.1.profile n = s.profile n)
    (fun y done x hy ⟨a, hx⟩ => ⟨a.step hy, by
      have d := tickPart_does pads scl x y
      by_cases e : y = .sample n
      · subst e
        rw [if_neg hy] at hx
        obtain ⟨ha, hm, hp⟩ := hx
        rw [if_pos (by simp)]
        have b : Sampled x.1 (tickPart pads scl x (.sample n)).1 n (has pads n) := sampleLine_sampled ..
        have hlive := a.frame.only.liveHolding n
        have hcount : sampledCount x.1 n (has pads n) = sampledCount s n (has pads n) :=
          sampledCount_congr ⟨a.frame.only.rstn, hp, hlive, ha⟩ hm
        refine ⟨?_, ?_, fun h k l hk => ?_, fun h hk => ?_⟩
        · rw [b.cell]
          exact ha
        · rw [b.cell, hcount]
        · rw [← a.frame.only.handle]
          exact (b.held (by rwa [hcount]) k l (hlive.trans hk)).1
        · obtain ⟨h₁, h₂⟩ := b.rest (by rwa [hcount]) (hlive.trans hk)
          exact ⟨h₁, by rw [h₂]⟩
      · obtain ⟨h₁, h₂⟩ := a.checks (pads := pads) (scl := scl) hy e hl
        obtain ⟨-, -, h₃⟩ := d.filter e
        have hmem : TickPart.sample n ∈ y :: done ↔ TickPart.sample n ∈ done := by simp [Ne.symm e]
        simp only [hmem]
        split
        · rename_i hd
          rw [if_pos hd] at hx
          exact ⟨h₁.trans hx.assigned, h₂.trans hx.mismatch, fun h k l hk => d.frame.reports.subset (hx.held h k l hk),
            fun h hk => ⟨d.frame.reports.subset (hx.rest h hk).1, by rw [h₃]; exact (hx.rest h hk).2⟩⟩
        · rename_i hd
          rw [if_neg hd] at hx
          exact ⟨h₁.trans hx.1, h₂.trans hx.2.1, h₃.trans hx.2.2⟩⟩)
    ⟨ahead_start s, by rw [if_neg (by simp)]; exact ⟨rfl, rfl, rfl⟩⟩
  rwa [if_pos (hall (.sample n))] at h

/-! ## A change of configuration (R130, R133) -/

/-- A line shows what it showed, or its count is at most `b`. -/
def CountsFrom (s t : State) (n : Line) (b : Nat) : Prop :=
  appliedConfig t n = appliedConfig s n ∨ (t.cell n).mismatch ≤ b

theorem sameLine_of_cell {n : Line} (only : TickOnly s t) (hp : t.profile n = s.profile n)
    (ha : (t.cell n).assigned = (s.cell n).assigned) : SameLine s t n := ⟨only.rstn, hp, only.liveHolding n, ha⟩

theorem sampledCount_le (u : State) (n : Line) (v : Level) : sampledCount u n v ≤ (u.cell n).mismatch + 1 := by
  unfold sampledCount
  split
  · split <;> omega
  · omega

/-- One sample leaves at most one mismatch on a line whose configuration had changed. -/
theorem Sampled.countsFrom {n : Line} {v : Level} (a : Sampled u t n v) (h : CountsFrom s u n 0) :
    CountsFrom s t n 1 := by
  by_cases h4 : 4 ≤ sampledCount u n v
  · refine .inr ?_
    rw [a.cell]
    simp [h4]
  · have hcell : (t.cell n).mismatch = sampledCount u n v := by
      rw [a.cell]
      exact if_neg h4
    have hsame : SameLine u t n := sameLine_of_cell a.only (a.below (by omega)) (by rw [a.cell])
    rcases h with h | h
    · exact .inl (hsame.applied.symm.trans h)
    · refine .inr ?_
      have := sampledCount_le u n v
      omega

/-- The other parts count no mismatch. -/
theorem PartDoes.countsFrom {y : TickPart} {n : Line} {b : Nat} (d : PartDoes pads u t y) (hy : y ≠ .sample n)
    (h : CountsFrom s u n b) : CountsFrom s t n b := by
  have same : SameLine u t n → (t.cell n).mismatch = (u.cell n).mismatch → CountsFrom s t n b := fun hs hm =>
    h.imp (hs.applied.symm.trans ·) fun h => by rwa [hm]
  have chan : ∀ {h' : Handle}, ChanPart h' u t → CountsFrom s t n b := fun a => by
    rcases a.checks n with hm | ⟨hm, happ⟩
    · exact .inr (by omega)
    · exact h.imp happ.trans fun h => by rwa [hm]
  have hp := (d.filter hy).2.2
  cases d with
  | idle _ e _ => rwa [e]
  | sample m a =>
    have hm : n ≠ m := fun e => hy (by rw [e])
    exact same (sameLine_of_cell a.only hp (by rw [(a.others n hm).1])) (by rw [(a.others n hm).1])
  | pattern _ _ _ _ a _ _ _ _ => exact chan a
  | guard _ _ _ _ a _ _ _ => exact chan a
  | settle k a => exact same (sameLine_of_cell a.only hp (a.checks n).1) (a.checks n).2
  | bus p a => exact same (sameLine_of_cell a.only hp (by rw [a.cell])) (by rw [a.cell])

/-- A line whose configuration has changed has at most one sample counted. -/
theorem msTicked_countsFrom (order : List TickPart) (n : Line) : CountsFrom s (msTicked pads scl order s) n 1 := by
  obtain ⟨_, h⟩ := msTicked_part (pads := pads) (scl := scl) (s := s) (.sample n) order
    (P := fun x => CountsFrom s x.1 n 0) (Q := fun x => CountsFrom s x.1 n 1)
    (fun y x hy h => (tickPart_does pads scl x y).countsFrom hy h)
    (fun x h => (sampleLine_sampled n (has pads n) x.1).countsFrom h)
    (fun y x hy h => (tickPart_does pads scl x y).countsFrom hy h) (.inl rfl)
  exact h

end

end Sys2Proof.Machine

/-! PROOFS. The 1 ms tick at one channel: the turn of its part among the others. -/

namespace Sys2Proof.Machine

section
variable {pads : Levels} {scl : SclTick} {s t u v : State} {y : TickPart}

/-! ## After the turn of a channel -/

/-- The reports and the levels that a channel's part has left stand through the other parts. -/
structure TurnKept (s : State) (own : TickPart) (v t : State) : Prop where
  before : TickFrame s v
  after : TickFrame v t
  assigned : ∀ h, Foreign s own h → ∀ n, vget s.heldBy n = some h.slot → s.handle h.slot = h →
    (t.cell n).assigned = (v.cell n).assigned

theorem TurnKept.start {own : TickPart} (f : TickFrame s v) : TurnKept s own v v := ⟨f, .refl v, fun _ _ _ _ _ => rfl⟩

theorem TurnKept.step {own : TickPart} (a : TurnKept s own v t) (d : PartDoes pads t u y) (hy : y ≠ own) :
    TurnKept s own v u :=
  ⟨a.before, a.after.trans d.frame, fun h o n hn hh =>
    (d.assigned (a.before.trans a.after) o hy hn hh).trans (a.assigned h o n hn hh)⟩

/-! ## A pattern channel (R108, R109) -/

theorem PartDoes.patChan {c : PatChan} (d : PartDoes pads s t y) (hy : y ≠ .pattern c) :
    vget t.patChans c = vget s.patChans c := by
  cases d with
  | idle _ e _ => rw [e]
  | sample n a => rw [a.patChans]
  | pattern c' _ _ _ _ _ _ others _ => exact others c fun e => hy (by rw [e])
  | guard _ _ _ _ _ _ _ hpat => rw [hpat]
  | settle _ a => rw [a.patChans]
  | bus _ a => rw [a.patChans]

/-- The turn of a pattern channel: its part finds it as it was, and what it leaves stands. -/
theorem msTicked_patternTurn (order : List TickPart) (c : PatChan) : ∃ u, TickFrame s u
    ∧ vget u.patChans c = vget s.patChans c ∧ TurnKept s (.pattern c) (patternTick c u) (msTicked pads scl order s)
    ∧ vget (msTicked pads scl order s).patChans c = vget (patternTick c u).patChans c := by
  obtain ⟨_, h⟩ := msTicked_part (pads := pads) (scl := scl) (s := s) (.pattern c) order
    (P := fun x => TickFrame s x.1 ∧ vget x.1.patChans c = vget s.patChans c)
    (Q := fun x => ∃ u, TickFrame s u ∧ vget u.patChans c = vget s.patChans c
      ∧ TurnKept s (.pattern c) (patternTick c u) x.1 ∧ vget x.1.patChans c = vget (patternTick c u).patChans c)
    (fun y x hy ⟨f, hc⟩ =>
      ⟨f.trans (tickPart_does pads scl x y).frame, ((tickPart_does pads scl x y).patChan hy).trans hc⟩)
    (fun x ⟨f, hc⟩ => ⟨x.1, f, hc, .start (f.trans (tickPart_does pads scl x (.pattern c)).frame), rfl⟩)
    (fun y x hy ⟨u, f, hc, a, ha⟩ => ⟨u, f, hc, a.step (tickPart_does pads scl x y) hy,
      ((tickPart_does pads scl x y).patChan hy).trans ha⟩)
    ⟨.refl s, rfl⟩
  exact h

/-! ## A guard channel (R84 to R87) -/

/-- Only a debounced change that it observes touches a guard channel outside its part. -/
theorem PartDoes.guardChan {g : GuardChan} (d : PartDoes pads s t y) (hy : y ≠ .guard g) :
    vget t.guardChans g = vget s.guardChans g ∨ ∃ n ch now, y = .sample n ∧ Changes s n (has pads n)
      ∧ vget s.guardChans g = some ch ∧ vget t.guardChans g = some (ch.sees n now) := by
  cases d with
  | idle _ e _ => exact .inl (by rw [e])
  | sample n a =>
    by_cases hch : Changes s n (has pads n)
    · rw [a.seen hch g]
      cases hg : vget s.guardChans g with
      | none => exact .inl rfl
      | some ch => exact .inr ⟨n, ch, _, rfl, hch, rfl, rfl⟩
    · exact .inl (by rw [a.kept hch])
  | pattern _ _ _ _ _ _ _ _ hguard => exact .inl (by rw [hguard])
  | guard g' _ _ _ _ _ others _ => exact .inl (others g fun e => hy (by rw [e]))
  | settle _ a => exact .inl (by rw [a.guardChans])
  | bus _ a => exact .inl (by rw [a.guardChans])

/-- What a guard channel has, and keeps whatever change it sees, it keeps outside its part. -/
theorem PartDoes.guardHas {g : GuardChan} {C : GuardChannel → Prop} (hC : ∀ ch n now, C ch → C (ch.sees n now))
    (d : PartDoes pads s t y) (hy : y ≠ .guard g) (h : ∃ z, vget s.guardChans g = some z ∧ C z) :
    ∃ z, vget t.guardChans g = some z ∧ C z := by
  obtain ⟨z, hz, hc⟩ := h
  rcases d.guardChan hy with e | ⟨n, ch, now, -, -, hch, e⟩
  · exact ⟨z, e.trans hz, hc⟩
  · obtain rfl := Option.some.inj (hch.symm.trans hz)
    exact ⟨_, e, hC ch n now hc⟩

theorem sees_firing {ch : GuardChannel} {m : Nat} (h : ch.substate = .firing m) (n : Line) (now : Bool) :
    ch.sees n now = ch := by
  unfold GuardChannel.sees GuardChannel.react
  split
  · rw [h]
  · rfl

theorem sees_notFiring {ch : GuardChannel} (h : ∀ m, ch.substate ≠ .firing m) (n : Line) (now : Bool) (m : Nat) :
    (ch.sees n now).substate ≠ .firing m := fun e => by
  rcases sees_counts (.inr e) with hs | hs
  · rw [hs] at e
    exact h m e
  · unfold GuardChannel.sees GuardChannel.react at e
    rw [hs] at e
    split at e
    · cases now <;> simp [hs] at e
    · rw [hs] at e
      cases e

/-- No sample of the tick has started a hold of a channel that keeps counting or never counts. -/
theorem tickPart_notFresh {x : TickState} {g : GuardChan} (hg : g ∉ x.2)
    (h : isHolding x.1 g = true ∨ isHolding (tickPart pads scl x y).1 g = false) :
    g ∉ (tickPart pads scl x y).2 := by
  cases y with
  | sample n =>
    intro hmem
    rcases List.mem_append.mp hmem with hmem | hmem
    · obtain ⟨h₁, h₂⟩ := mem_freshHolds.mp hmem
      rcases h with h | h
      · rw [h] at h₁
        cases h₁
      · have h : isHolding (sampleLine n (has pads n) x.1) g = false := h
        rw [h] at h₂
        cases h₂
    · exact hg hmem
  | pattern _ | guard _ | settle _ | bus _ => exact hg

theorem guardPart_takes {x : TickState} {g : GuardChan} (hg : g ∉ x.2) :
    (tickPart pads scl x (.guard g)).1 = guardTick g x.1 := if_neg hg

/-- The turn of a guard channel whose pulse runs. -/
theorem msTicked_firingTurn (order : List TickPart) {g : GuardChan} {ch : GuardChannel} {m : Nat}
    (hg : vget s.guardChans g = some ch) (hs : ch.substate = .firing m) : ∃ u, TickFrame s u
    ∧ vget u.guardChans g = some ch ∧ TurnKept s (.guard g) (guardTick g u) (msTicked pads scl order s)
    ∧ ∀ C : GuardChannel → Prop, (∀ ch n now, C ch → C (ch.sees n now)) →
      (∃ z, vget (guardTick g u).guardChans g = some z ∧ C z) →
      ∃ z, vget (msTicked pads scl order s).guardChans g = some z ∧ C z := by
  have idle : ∀ u : State, vget u.guardChans g = some ch → isHolding u g = false := fun u h => by
    rw [← Bool.not_eq_true, isHolding_of h, hs]
    rintro ⟨_, e⟩
    cases e
  obtain ⟨_, h⟩ := msTicked_part (pads := pads) (scl := scl) (s := s) (.guard g) order
    (P := fun x => TickFrame s x.1 ∧ vget x.1.guardChans g = some ch ∧ g ∉ x.2)
    (Q := fun x => ∃ u, TickFrame s u ∧ vget u.guardChans g = some ch ∧ TurnKept s (.guard g) (guardTick g u) x.1
      ∧ ∀ C : GuardChannel → Prop, (∀ ch n now, C ch → C (ch.sees n now)) →
        (∃ z, vget (guardTick g u).guardChans g = some z ∧ C z) → ∃ z, vget x.1.guardChans g = some z ∧ C z)
    (fun y x hy ⟨f, hc, hn⟩ => by
      have d := tickPart_does pads scl x y
      obtain ⟨z, hz, e⟩ := d.guardHas (C := (· = ch)) (fun c n now e => by rw [e, sees_firing hs]) hy ⟨ch, hc, rfl⟩
      rw [e] at hz
      exact ⟨f.trans d.frame, hz, tickPart_notFresh hn (.inr (idle _ hz))⟩)
    (fun x ⟨f, hc, hn⟩ => by
      have d := tickPart_does pads scl x (.guard g)
      rw [guardPart_takes hn] at d ⊢
      exact ⟨x.1, f, hc, .start (f.trans d.frame), fun C _ h => h⟩)
    (fun y x hy ⟨u, f, hc, a, hC⟩ => ⟨u, f, hc, a.step (tickPart_does pads scl x y) hy,
      fun C hsees h => (tickPart_does pads scl x y).guardHas hsees hy (hC C hsees h)⟩)
    ⟨.refl s, hg, by simp⟩
  exact h

/-! ### A guard channel that observes no change -/

/-- The lines of a guard's conditions show what they showed. -/
def Steady (s t : State) (cs : List Condition) : Prop :=
  ∀ c ∈ cs, (t.cell c.line).debounced = (s.cell c.line).debounced

theorem Steady.combination {cs : List Condition} (h : Steady s t cs) : combination t cs = combination s cs := by
  have : ∀ c ∈ cs, Condition.holds t c = Condition.holds s c := fun c hc => by rw [Condition.holds, h c hc]; rfl
  rw [Machine.combination, Machine.combination, Bool.eq_iff_iff, List.all_eq_true, List.all_eq_true]
  exact ⟨fun h c hc => by rw [← this c hc]; exact h c hc, fun h c hc => by rw [this c hc]; exact h c hc⟩

section
variable {cs : List Condition} (hpads : ∀ c ∈ cs, (s.cell c.line).debounced = has pads c.line)
include hpads

theorem Steady.step (h : Steady s t cs) (d : PartDoes pads t u y) : Steady s u cs := fun c hc => by
  by_cases hy : y = .sample c.line
  · subst hy
    have hdeb : has pads c.line = (t.cell c.line).debounced := by rw [h c hc, hpads c hc]
    cases d with
    | idle _ e _ => rw [e]; exact h c hc
    | sample _ a =>
      rw [a.cell, ← h c hc]
      simp [filteredLevel, hdeb]
  · rw [(d.filter hy).1]
    exact h c hc

/-- A channel whose observed lines do not change is touched by its own part alone. -/
theorem Steady.guardChan (h : Steady s t cs) (d : PartDoes pads t u y) {g : GuardChan} {z : GuardChannel}
    (hy : y ≠ .guard g) (hz : vget t.guardChans g = some z) (hcs : z.conditions = cs) :
    vget u.guardChans g = some z := by
  rcases d.guardChan hy with e | ⟨n, ch, now, -, hch, hg, e⟩
  · exact e.trans hz
  · obtain rfl := Option.some.inj (hg.symm.trans hz)
    rw [e]
    by_cases ho : ch.observes n = true
    · obtain ⟨c, hc, rfl⟩ := observes_iff.mp ho
      rw [hcs] at hc
      exact absurd (by rw [h c hc, hpads c hc]) hch.1
    · rw [GuardChannel.sees, if_neg ho]

end

/-- The turn of a guard channel that observes no change. -/
theorem msTicked_steadyTurn (order : List TickPart) {g : GuardChan} {ch : GuardChannel}
    (hg : vget s.guardChans g = some ch)
    (hpads : ∀ c ∈ ch.conditions, (s.cell c.line).debounced = has pads c.line) : ∃ u, TickFrame s u
    ∧ vget u.guardChans g = some ch ∧ Steady s u ch.conditions
    ∧ TurnKept s (.guard g) (guardTick g u) (msTicked pads scl order s)
    ∧ vget (msTicked pads scl order s).guardChans g = vget (guardTick g u).guardChans g := by
  obtain ⟨_, h⟩ := msTicked_part (pads := pads) (scl := scl) (s := s) (.guard g) order
    (P := fun x => TickFrame s x.1 ∧ vget x.1.guardChans g = some ch ∧ Steady s x.1 ch.conditions ∧ g ∉ x.2)
    (Q := fun x => ∃ u, TickFrame s u ∧ vget u.guardChans g = some ch ∧ Steady s u ch.conditions
      ∧ TurnKept s (.guard g) (guardTick g u) x.1 ∧ Steady s x.1 ch.conditions
      ∧ vget x.1.guardChans g = vget (guardTick g u).guardChans g)
    (fun y x hy ⟨f, hc, hst, hn⟩ => by
      have d := tickPart_does pads scl x y
      have hc' := hst.guardChan hpads d hy hc rfl
      refine ⟨f.trans d.frame, hc', hst.step hpads d, tickPart_notFresh hn ?_⟩
      have : isHolding (tickPart pads scl x y).1 g = isHolding x.1 g := by
        unfold isHolding
        rw [hc', hc]
      rw [this]
      cases isHolding x.1 g
      · exact .inr rfl
      · exact .inl rfl)
    (fun x ⟨f, hc, hst, hn⟩ => by
      have d := tickPart_does pads scl x (.guard g)
      rw [guardPart_takes hn] at d ⊢
      exact ⟨x.1, f, hc, hst, .start (f.trans d.frame), hst.step hpads d, rfl⟩)
    (fun y x hy ⟨u, f, hc, hst, a, hst', ha⟩ => by
      have d := tickPart_does pads scl x y
      refine ⟨u, f, hc, hst, a.step d hy, hst'.step hpads d, ?_⟩
      obtain ⟨z, hz⟩ := guardTick_chan hc g
      rw [if_pos rfl] at hz
      rw [hz]
      exact hst'.guardChan hpads d hy (ha.trans hz) rfl)
    ⟨.refl s, hg, fun _ _ => rfl, by simp⟩
  obtain ⟨u, f, hc, hst, a, -, ha⟩ := h
  exact ⟨u, f, hc, hst, a, ha⟩

end

end Sys2Proof.Machine

/-! PROOFS. The 1 ms tick at the settle countdowns and the stall counts; O51 and O52. -/

namespace Sys2Proof.Machine

section
variable {pads : Levels} {scl : SclTick} {s t u : State} {y : TickPart}

/-! ## A settle countdown (R60) -/

theorem PartDoes.settleRecord {k : Slot} (d : PartDoes pads s t y) (hy : y ≠ .settle k) :
    vget t.settling k = vget s.settling k := by
  cases d with
  | idle _ e _ => rw [e]
  | sample n a => rw [a.settling]
  | pattern _ _ _ _ a _ _ _ _ => rw [a.settling]
  | guard _ _ _ _ a _ _ _ => rw [a.settling]
  | settle j a => exact a.others k fun e => hy (by rw [e])
  | bus _ a => rw [a.settling]

/-- The settle countdown of a line of one retirement alone. -/
theorem PartDoes.settleCell {k : Slot} {r : Settling} {n : Line} (d : PartDoes pads t u y) (f : TickFrame s t)
    (hy : y ≠ .settle k) (hn : has r.lines n = true)
    (hno : ∀ j x, j ≠ k → vget s.settling j = some x → x.lines &&& r.lines = 0#16) :
    (u.cell n).settle = (t.cell n).settle := by
  cases d with
  | idle _ e _ => rw [e]
  | sample m a => exact a.settle n
  | pattern _ _ _ _ a _ _ _ _ => exact (a.rest n).2.2
  | guard _ _ _ _ a _ _ _ => exact (a.rest n).2.2
  | settle j a =>
    rcases a.cell n with e | ⟨⟨x, hx, hxn⟩, -⟩
    · rw [e]
    · obtain ⟨z, hz, e⟩ := f.settleLines j x hx
      have hzero := hno j z (fun e => hy (by rw [e])) hz
      have : has (z.lines &&& r.lines) n = true := by rw [has_and, ← e, hxn, hn]; rfl
      rw [hzero] at this
      simp [has] at this
  | bus _ a => rw [a.cell]

/-- A retirement whose lines have all settled by the tick is complete. -/
theorem msTicked_settles (order : List TickPart) {k : Slot} {r : Settling} (hk : vget s.settling k = some r)
    (hle : ∀ n, has r.lines n = true → (s.cell n).settle ≤ 1) : vget (msTicked pads scl order s).settling k = none
      ∧ Report.settleComplete { slot := k, gen := r.gen } ∈ (msTicked pads scl order s).reports := by
  obtain ⟨_, h⟩ := msTicked_part (pads := pads) (scl := scl) (s := s) (.settle k) order
    (P := fun x => TickFrame s x.1 ∧ vget x.1.settling k = some r)
    (Q := fun x => vget x.1.settling k = none ∧ Report.settleComplete { slot := k, gen := r.gen } ∈ x.1.reports)
    (fun y x hy ⟨f, h⟩ =>
      ⟨f.trans (tickPart_does pads scl x y).frame, ((tickPart_does pads scl x y).settleRecord hy).trans h⟩)
    (fun x ⟨f, h⟩ => by
      have hpart : (tickPart pads scl x (.settle k)).1 = settleTick k x.1 := rfl
      rw [hpart]
      rcases settleTick_cases h with ⟨-, n, hn, hlt⟩ | ⟨e, -⟩
      · have := f.settle n
        have := hle n hn
        omega
      · rw [e, settled_settling, if_pos rfl, settled_reports]
        exact ⟨rfl, List.mem_append_right _ (by simp)⟩)
    (fun y x hy ⟨h, hr⟩ => by
      have d := tickPart_does pads scl x y
      exact ⟨(d.settleRecord hy).trans h, d.frame.reports.subset hr⟩)
    ⟨.refl s, hk⟩
  exact h

/-- A line of one retirement counts once, and the retirement is not complete before it has settled. -/
theorem msTicked_settling (order : List TickPart) {k : Slot} {r : Settling} {n : Line}
    (hk : vget s.settling k = some r) (hn : has r.lines n = true) (h2 : 2 ≤ (s.cell n).settle)
    (hno : ∀ j x, j ≠ k → vget s.settling j = some x → x.lines &&& r.lines = 0#16) :
    vget (msTicked pads scl order s).settling k = some { r with ticked := true }
      ∧ ((msTicked pads scl order s).cell n).settle = (s.cell n).settle - 1 := by
  obtain ⟨_, -, h⟩ := msTicked_part (pads := pads) (scl := scl) (s := s) (.settle k) order
    (P := fun x => TickFrame s x.1 ∧ vget x.1.settling k = some r ∧ (x.1.cell n).settle = (s.cell n).settle)
    (Q := fun x => TickFrame s x.1 ∧ vget x.1.settling k = some { r with ticked := true }
      ∧ (x.1.cell n).settle = (s.cell n).settle - 1)
    (fun y x hy ⟨f, h, hc⟩ => by
      have d := tickPart_does pads scl x y
      exact ⟨f.trans d.frame, (d.settleRecord hy).trans h, (d.settleCell f hy hn hno).trans hc⟩)
    (fun x ⟨f, h, hc⟩ => by
      have d := tickPart_does pads scl x (.settle k)
      have hpart : (tickPart pads scl x (.settle k)).1 = settleTick k x.1 := rfl
      rw [hpart] at d ⊢
      refine ⟨f.trans d.frame, ?_⟩
      rcases settleTick_cases h with ⟨e, -⟩ | ⟨-, hle⟩
      · rw [e, settleCounted_settling, if_pos rfl, settleCounted_cell, if_pos hn, hc]
        exact ⟨rfl, rfl⟩
      · have := hle n hn
        omega)
    (fun y x hy ⟨f, h, hc⟩ => by
      have d := tickPart_does pads scl x y
      exact ⟨f.trans d.frame, (d.settleRecord hy).trans h, (d.settleCell f hy hn hno).trans hc⟩)
    ⟨.refl s, hk, rfl⟩
  exact h

/-! ## A stall count (R168) -/

/-- A port's interface after a tick. -/
def Bus.stalled (b : Bus) (low rose : Bool) : Bus :=
  if b.state.addressed ∧ Config.stallTicks ≤ stallAfter b low rose then
    { b with state := .waiting, stall := 0, acked := false }
  else { b with stall := stallAfter b low rose }

theorem PartDoes.busRecord (d : PartDoes pads s t y) (hy : ∀ q, y ≠ .bus q) : t.buses = s.buses := by
  cases d with
  | idle _ e _ => rw [e]
  | sample _ a => exact a.buses
  | pattern _ _ _ _ a _ _ _ _ => exact a.buses
  | guard _ _ _ _ a _ _ _ => exact a.buses
  | settle _ a => exact a.buses
  | bus q _ => exact absurd rfl (hy q)

theorem tickPart_bus (x : TickState) (y : TickPart) (p : Port) : (tickPart pads scl x y).1.bus p
    = if y = .bus p then (x.1.bus p).stalled (scl.low.getLsbD p.val) (scl.rose.getLsbD p.val) else x.1.bus p := by
  have same : ∀ {t : State}, t.buses = x.1.buses → t.bus p = x.1.bus p := fun e => by rw [State.bus, e]; rfl
  have d := tickPart_does pads scl x y
  cases y with
  | bus q =>
    have hpart : (tickPart pads scl x (.bus q)).1
        = busTick q (scl.low.getLsbD q.val) (scl.rose.getLsbD q.val) x.1 := rfl
    rw [hpart, busTick_bus]
    by_cases h : p = q
    · subst h
      rw [if_pos rfl, if_pos rfl]
      rfl
    · rw [if_neg h, if_neg fun e => h (TickPart.bus.inj e).symm]
  | sample n | pattern c | guard g | settle k =>
    rw [if_neg nofun]
    exact same (d.busRecord fun q => nofun)

theorem msTicked_bus (order : List TickPart) (p : Port) : (msTicked pads scl order s).bus p
    = (s.bus p).stalled (scl.low.getLsbD p.val) (scl.rose.getLsbD p.val) := by
  obtain ⟨_, h⟩ := msTicked_part (pads := pads) (scl := scl) (s := s) (.bus p) order
    (P := fun x => x.1.bus p = s.bus p)
    (Q := fun x => x.1.bus p = (s.bus p).stalled (scl.low.getLsbD p.val) (scl.rose.getLsbD p.val))
    (fun y x hy h => by rw [tickPart_bus, if_neg hy, h]) (fun x h => by rw [tickPart_bus, if_pos rfl, h])
    (fun y x hy h => by rw [tickPart_bus, if_neg hy, h]) rfl
  exact h

theorem addressed_iff (b : BusState) : b.addressed = true ↔ b ≠ .waiting := by
  cases b <;> simp [BusState.addressed]

theorem stalled_clauses (b : Bus) (low rose : Bool) : let t := b.stalled low rose
    t.pointer = b.pointer
      ∧ ((b.state = .waiting ∨ low = false) → t = { b with stall := 0 })
      ∧ (b.state ≠ .waiting → low = true → rose = true → t = { b with stall := 1 })
      ∧ (b.state ≠ .waiting → low = true → rose = false → b.stall < 25 → t = { b with stall := b.stall + 1 })
      ∧ (b.state ≠ .waiting → low = true → rose = false → 25 ≤ b.stall → t.state = .waiting ∧ t.stall = 0) := by
  have below : stallAfter b low rose < 26 → b.stalled low rose = { b with stall := stallAfter b low rose } :=
    fun h => if_neg fun ⟨_, h'⟩ => by
      have h' : 26 ≤ stallAfter b low rose := h'
      omega
  refine ⟨?_, fun h => ?_, fun hw hl hr => ?_, fun hw hl hr hs => ?_, fun hw hl hr hs => ?_⟩
  · unfold Bus.stalled
    split <;> rfl
  · have hzero : stallAfter b low rose = 0 := by
      unfold stallAfter
      rcases h with h | h <;> simp [h, BusState.addressed]
    rw [below (by omega), hzero]
  · have hone : stallAfter b low rose = 1 := by simp [stallAfter, (addressed_iff _).mpr hw, hl, hr]
    rw [below (by omega), hone]
  · have hnext : stallAfter b low rose = b.stall + 1 := by simp [stallAfter, (addressed_iff _).mpr hw, hl, hr]
    rw [below (by omega), hnext]
  · have hnext : stallAfter b low rose = b.stall + 1 := by simp [stallAfter, (addressed_iff _).mpr hw, hl, hr]
    have hstall : b.stalled low rose = { b with state := .waiting, stall := 0, acked := false } :=
      if_pos ⟨(addressed_iff _).mpr hw, by
        rw [hnext]
        have : Config.stallTicks = 26 := rfl
        omega⟩
    rw [hstall]
    exact ⟨rfl, rfl⟩

/-! ## A pattern channel (R108, R109) -/

/-- The channel has begun step `i`, and its levels have reached the lines of its lease. -/
def Begun (s t : State) (c : PatChan) (ch : PatternChannel) (i : Nat) (left : Option Nat) : Prop :=
  vget t.patChans c = some (atStep ch i left)
    ∧ (OnlyPattern s c ch.handle → LinesShow s t ch.handle (fun st => st = .active ∨ ∃ q x, st = .handover q x)
        fun m => has (levelsOfStep ch.steps i) m)

/-- What stands of a step that a pattern channel has begun at its turn. -/
theorem begun_of_turn {c : PatChan} {ch : PatternChannel} {i : Nat} {left left' : Option Nat} (f : TickFrame s u)
    (hturn : patternTick c u = beginStep c (stepEnded ch left') i left (u.setPatChan c (some (stepEnded ch left'))))
    (a : TurnKept s (.pattern c) (patternTick c u) t) (hchan : vget t.patChans c = vget (patternTick c u).patChans c) :
    Begun s t c ch i left := by
  rw [hturn] at a hchan
  refine ⟨?_, fun ho l n hl hh hmay hn hheld => ?_⟩
  · rw [hchan, beginStep_chan, if_pos rfl]
    rfl
  · rw [a.assigned ch.handle ho.foreign n hheld hh]
    exact beginStep_shows (s := u.setPatChan c (some (stepEnded ch left'))) (ch := stepEnded ch left')
      ((f.only.lease _).trans hl) ((f.only.handle _).trans hh) hmay hn ((congrArg (vget · n) f.only.heldBy).trans hheld)

section
variable {order : List TickPart} {c : PatChan} {ch : PatternChannel} (hc : vget s.patChans c = some ch)
include hc

theorem msTicked_patternCounts {n : Nat} {left : Option Nat} (hp : ch.phase = .running n left) (h2 : 2 ≤ n) :
    vget (msTicked pads scl order s).patChans c = some { ch with phase := .running (n - 1) left } := by
  obtain ⟨u, -, hu, -, h⟩ := msTicked_patternTurn (pads := pads) (scl := scl) (s := s) order c
  rw [h, patternTick_counts (hu.trans hc) hp h2, setPatChan_chan, if_pos rfl]

/-- The turn of a pattern channel whose step ends. -/
theorem msTicked_stepTurn {n : Nat} {left : Option Nat} (hp : ch.phase = .running n left) (h1 : n ≤ 1) :
    ∃ u w, TickFrame s u ∧ vget w.patChans c = some (stepEnded ch left) ∧ w = u.setPatChan c (some (stepEnded ch left))
      ∧ patternTick c u = stepEndStep c w ∧ TurnKept s (.pattern c) (patternTick c u) (msTicked pads scl order s)
      ∧ vget (msTicked pads scl order s).patChans c = vget (patternTick c u).patChans c := by
  obtain ⟨u, f, hu, a, h⟩ := msTicked_patternTurn (pads := pads) (scl := scl) (s := s) order c
  exact ⟨u, _, f, by rw [setPatChan_chan, if_pos rfl], rfl, patternTick_ends (hu.trans hc) hp h1, a, h⟩

theorem msTicked_stepEnds {n : Nat} {left : Option Nat} (hp : ch.phase = .running n left) (h1 : n ≤ 1) :
    (ch.step + 1 < ch.steps.length → Begun s (msTicked pads scl order s) c ch (ch.step + 1) left)
      ∧ (ch.steps.length ≤ ch.step + 1 → left = none → Begun s (msTicked pads scl order s) c ch 0 none)
      ∧ (∀ m, ch.steps.length ≤ ch.step + 1 → left = some m → 2 ≤ m →
          Begun s (msTicked pads scl order s) c ch 0 (some (m - 1)))
      ∧ (∀ m, ch.steps.length ≤ ch.step + 1 → left = some m → m ≤ 1 →
          vget (msTicked pads scl order s).patChans c = some { ch with phase := .done }
            ∧ Report.patternDone ch.handle ∈ (msTicked pads scl order s).reports) := by
  obtain ⟨u, w, f, hw, rfl, hturn, a, h⟩ := msTicked_stepTurn (pads := pads) (scl := scl) (order := order) hc hp h1
  refine ⟨fun hlt => ?_, fun hle hl => ?_, fun m hle hl hm => ?_, fun m hle hl hm => ?_⟩
  · exact begun_of_turn f (hturn.trans (stepEnd_next hw rfl hlt)) a h
  · exact begun_of_turn f (hturn.trans (stepEnd_endless hw rfl hle hl)) a h
  · exact begun_of_turn f (hturn.trans (stepEnd_loop hw rfl hle hl hm)) a h
  · have hdone := hturn.trans (stepEnd_done hw rfl hle hl hm)
    rw [h, hdone, patternDone_chan, if_pos rfl]
    refine ⟨rfl, a.after.reports.subset ?_⟩
    rw [hdone, patternDone_reports]
    exact List.mem_append_right _ (by simp [stepEnded])

end

theorem msTicked_patternIdle {order : List TickPart} {c : PatChan}
    (hp : ∀ ch n left, vget s.patChans c = some ch → ch.phase ≠ .running n left) :
    vget (msTicked pads scl order s).patChans c = vget s.patChans c := by
  obtain ⟨u, -, hu, -, h⟩ := msTicked_patternTurn (pads := pads) (scl := scl) (s := s) order c
  rw [h]
  cases hc : vget u.patChans c with
  | none => rw [patternTick_free hc, hc, ← hu, hc]
  | some ch => rw [patternTick_idle hc fun n left => hp ch n left (by rw [← hu, hc]), hu]

/-! ## A guard channel (R85 to R87) -/

/-- The levels of a guard at its turn stand on the lines of its lease. -/
theorem guardShows_of_turn {g : GuardChan} {ch : GuardChannel} {a : Action} {x y : Option GuardChannel}
    {v : Action → Level} {w : State} (f : TickFrame s u) (ha : ch.action = some a)
    (hturn : (guardTick g u).cells = (guardTo g ch x v (u.setGuardChan g y)).cells)
    (k : TurnKept s (.guard g) (guardTick g u) w) (ho : OnlyGuard s g ch.handle) :
    LinesShow s w ch.handle (fun st => st = .active) fun _ => v a := by
  intro l n hl hh hmay hn hheld
  rw [k.assigned ch.handle ho.foreign n hheld hh, cell_of_cells hturn]
  exact guardTo_shows (s := u.setGuardChan g y) ha ((f.only.lease _).trans hl) ((f.only.handle _).trans hh) hmay hn
    ((congrArg (vget · n) f.only.heldBy).trans hheld)

section
variable {order : List TickPart} {g : GuardChan} {ch : GuardChannel} {n : Nat} (hg : vget s.guardChans g = some ch)
include hg

theorem msTicked_pulseCounts (hs : ch.substate = .firing n) (h2 : 2 ≤ n) :
    vget (msTicked pads scl order s).guardChans g = some { ch with substate := .firing (n - 1) } := by
  obtain ⟨u, -, hu, -, h⟩ := msTicked_firingTurn (pads := pads) (scl := scl) order hg hs
  obtain ⟨z, hz, e⟩ := h (· = { ch with substate := .firing (n - 1) })
    (fun c m now e => by rw [e]; exact sees_firing rfl m now)
    ⟨_, by rw [guardTick_pulses hu hs h2, setGuardChan_chan, if_pos rfl], rfl⟩
  rw [hz, e]

/-- A pulse that ends leaves FIRING. -/
theorem msTicked_pulseEnds (hs : ch.substate = .firing n) (h1 : n ≤ 1) :
    ∃ x, vget (msTicked pads scl order s).guardChans g = some { ch with substate := x } ∧ ∀ m, x ≠ .firing m := by
  obtain ⟨u, -, hu, -, h⟩ := msTicked_firingTurn (pads := pads) (scl := scl) order hg hs
  obtain ⟨z, hz, e, hne⟩ := h (fun z => z = { ch with substate := z.substate } ∧ ∀ m, z.substate ≠ .firing m)
    (fun c m now ⟨e, hne⟩ => ⟨(sees_eq c m now).trans
      (congrArg (fun z : GuardChannel => { z with substate := (c.sees m now).substate }) e), sees_notFiring hne m now⟩)
    ⟨_, by rw [guardTick_ends hu hs h1, guardTo_chan, if_pos rfl], rfl, fun m => by
      rw [startSubstate_armed]
      dsimp only
      split <;> nofun⟩
  exact ⟨z.substate, by rw [hz, ← e], hne⟩

theorem msTicked_pulseEnds_steady (hs : ch.substate = .firing n) (h1 : n ≤ 1)
    (hpads : ∀ c ∈ ch.conditions, (s.cell c.line).debounced = has pads c.line) :
    vget (msTicked pads scl order s).guardChans g
      = some { ch with substate := if AllTrue s ch.conditions then .spent else .armed } := by
  obtain ⟨u, -, hu, hst, -, h⟩ := msTicked_steadyTurn (pads := pads) (scl := scl) order hg hpads
  rw [h, guardTick_ends hu hs h1, guardTo_chan, if_pos rfl, startSubstate_armed, hst.combination]
  rfl

theorem msTicked_pulseShows (hs : ch.substate = .firing n) (h1 : n ≤ 1) {a : Action} (ha : ch.action = some a)
    (ho : OnlyGuard s g ch.handle) :
    LinesShow s (msTicked pads scl order s) ch.handle (fun st => st = .active) fun _ => !a.pulseLevel := by
  obtain ⟨u, f, hu, k, -⟩ := msTicked_firingTurn (pads := pads) (scl := scl) order hg hs
  exact guardShows_of_turn f ha (by rw [guardTick_ends hu hs h1]) k ho

end

/-! ## The whole tick -/

/-- A tick that finds the comparator's sample agreeing, differing for less than the fourth time, or for the fourth. -/
theorem sampledCount_cases (s : State) (n : Line) (v : Level) : (checkedLevel s n = none → sampledCount s n v = 0)
    ∧ ∀ d, checkedLevel s n = some d → (d = v → sampledCount s n v = 0)
      ∧ (d ≠ v → sampledCount s n v = (s.cell n).mismatch + 1) := by
  unfold sampledCount
  refine ⟨fun h => by rw [h], fun d h => ⟨fun e => ?_, fun e => ?_⟩⟩ <;> rw [h]
  · exact if_pos e
  · exact if_neg e

theorem filtered_cases (s : State) (n : Line) (v : Level) :
    (v = (s.cell n).debounced → filteredLevel s n v = (s.cell n).debounced ∧ filteredCount s n v = 0)
      ∧ (v ≠ (s.cell n).debounced → (s.cell n).stability < (s.profile n).debounce →
          filteredLevel s n v = (s.cell n).debounced ∧ filteredCount s n v = (s.cell n).stability + 1)
      ∧ (v ≠ (s.cell n).debounced → (s.profile n).debounce ≤ (s.cell n).stability →
          filteredLevel s n v = v ∧ filteredCount s n v = 0) := by
  unfold filteredLevel filteredCount
  refine ⟨fun h => ⟨if_pos (.inl h), if_neg fun h' => h'.1 h⟩, fun h hlt => ⟨if_pos (.inr hlt), if_pos ⟨h, hlt⟩⟩,
    fun h hge => ⟨if_neg ?_, if_neg fun h' => by omega⟩⟩
  rintro (h' | h')
  · exact h h'
  · omega

end

/-- Settles O51. -/
theorem msTick : Obligations.MsTick := by
  intro s pads scl order
  refine ⟨fun hr => ?_, fun hr => ⟨msTicked pads scl order s, exec_msTick order hr,
    (msTicked_frame pads scl order s).reports, (msTicked_frame pads scl order s).only, fun n => ?_, fun n hl => ?_,
    fun n hne => ?_, fun c ch n left hc hp h2 => msTicked_patternCounts hc hp h2, fun c hp => msTicked_patternIdle hp,
    fun c ch n left hc hp h1 => msTicked_stepEnds hc hp h1, fun g ch n hg hs => ⟨msTicked_pulseCounts hg hs,
      fun h1 => ⟨msTicked_pulseEnds hg hs h1, msTicked_pulseEnds_steady hg hs h1,
        fun a ha ho => msTicked_pulseShows hg hs h1 ha ho⟩⟩,
    fun k r hk hle => msTicked_settles order hk hle, fun k r n hk hn h2 hno => msTicked_settling order hk hn h2 hno,
    fun p => ?_⟩⟩
  · have hexec : exec (.msTick pads scl order) s
        = .next (if s.rstnAsserted then s else msTicked pads scl order s) := rfl
    rw [hexec, if_pos hr]
  · obtain ⟨h₁, h₂, h₃⟩ := msTicked_filter (pads := pads) (scl := scl) (s := s) order n
    obtain ⟨c₁, c₂, c₃⟩ := filtered_cases s n (has pads n)
    rw [← h₁, ← h₂] at c₁ c₂ c₃
    exact ⟨c₁, c₂, c₃, h₃⟩
  · have h := msTicked_checked (pads := pads) (scl := scl) order hl
    obtain ⟨c₁, c₂⟩ := sampledCount_cases s n (has pads n)
    refine ⟨h.assigned, fun hd => ?_, fun d hd => ⟨fun e => ?_, fun e hlt => ?_, fun e hge => ?_⟩⟩
    · rw [h.mismatch, c₁ hd]
      rfl
    · rw [h.mismatch, (c₂ d hd).1 e]
      rfl
    · rw [h.mismatch, (c₂ d hd).2 e, if_neg (by omega)]
    · have h4 : 4 ≤ sampledCount s n (has pads n) := by
        rw [(c₂ d hd).2 e]
        omega
      exact ⟨by rw [h.mismatch, if_pos h4], h.held h4, h.rest h4⟩
  · exact (msTicked_countsFrom order n).resolve_left hne
  · rw [msTicked_bus]
    exact stalled_clauses ..

end Sys2Proof.Machine

/-! PROOFS. Holds at the 1 ms tick: O52. -/

namespace Sys2Proof.Machine

section
variable {pads : Levels} {scl : SclTick} {s t u : State} {g : GuardChan} {ch : GuardChannel}

/-! ## A hold that counts (R85, R86) -/

theorem msTicked_holdCounts {order : List TickPart} {n : Nat} (hg : vget s.guardChans g = some ch)
    (hs : ch.substate = .holding n) (hpads : ∀ c ∈ ch.conditions, (s.cell c.line).debounced = has pads c.line)
    (h2 : 2 ≤ n) :
    vget (msTicked pads scl order s).guardChans g = some { ch with substate := .holding (n - 1) } := by
  obtain ⟨u, -, hu, -, -, h⟩ := msTicked_steadyTurn (pads := pads) (scl := scl) order hg hpads
  rw [h, guardTick_holds hu hs h2, setGuardChan_chan, if_pos rfl]

/-- A hold that ends fires, with its report and the pulse level on the action line. -/
theorem msTicked_fires {order : List TickPart} {n : Nat} (hg : vget s.guardChans g = some ch)
    (hs : ch.substate = .holding n) (hpads : ∀ c ∈ ch.conditions, (s.cell c.line).debounced = has pads c.line)
    (h1 : n ≤ 1) : Report.fire ch.handle ch.recallAttached ∈ (msTicked pads scl order s).reports
      ∧ vget (msTicked pads scl order s).guardChans g = some { ch with substate := afterHold ch }
      ∧ ∀ a, ch.action = some a → OnlyGuard s g ch.handle →
        LinesShow s (msTicked pads scl order s) ch.handle (fun st => st = .active) fun _ => a.pulseLevel := by
  obtain ⟨u, f, hu, -, k, h⟩ := msTicked_steadyTurn (pads := pads) (scl := scl) order hg hpads
  have hturn := guardTick_fires hu hs h1
  refine ⟨k.after.reports.subset ?_, ?_, fun a ha ho => guardShows_of_turn f ha (by rw [hturn]; rfl) k ho⟩
  · rw [hturn, State.report_reports]
    exact List.mem_append_right _ (by simp)
  · rw [h, hturn, State.report_guardChans, guardTo_chan, if_pos rfl]

/-! ## A hold that begins (R84, R85) -/

/-- Between two parts of a tick whose samples make the combination true: the channel is ARMED until it is, and then
its hold has begun in this tick. -/
inductive Begins (g : GuardChan) (ch : GuardChannel) (x : TickState) : Prop
  | armed : vget x.1.guardChans g = some ch → AllTrue x.1 ch.conditions = false → Begins g ch x
  | holding : vget x.1.guardChans g = some { ch with substate := .holding (holdMs ch) } →
      AllTrue x.1 ch.conditions = true → g ∈ x.2 → Begins g ch x

theorem allTrue_congr {cs : List Condition} (h : ∀ c ∈ cs, (t.cell c.line).debounced = (s.cell c.line).debounced) :
    AllTrue t cs = AllTrue s cs := Steady.combination (s := s) (t := t) h

/-- A part that changes no observed line leaves the channel where it is. -/
theorem Begins.still {x : TickState} {y : TickPart} (b : Begins g ch x)
    (hst : Steady x.1 (tickPart pads scl x y).1 ch.conditions)
    (hch : vget (tickPart pads scl x y).1.guardChans g = vget x.1.guardChans g) :
    Begins g ch (tickPart pads scl x y) := by
  cases b with
  | armed h hall => exact .armed (hch.trans h) ((allTrue_congr hst).trans hall)
  | holding h hall hf => exact .holding (hch.trans h) ((allTrue_congr hst).trans hall) (tickPart_fresh pads scl x y hf)

/-- The channel's own part counts neither an ARMED channel nor a hold that has begun in this tick. -/
theorem Begins.own {x : TickState} (hs : ch.substate = .armed) (b : Begins g ch x) :
    (tickPart pads scl x (.guard g)).1 = x.1 := by
  cases b with
  | armed h _ =>
    simp only [tickPart]
    split
    · rfl
    · exact guardTick_idle h fun n => by rw [hs]; exact ⟨nofun, nofun⟩
  | holding _ _ hf => exact if_pos hf

theorem react_armed (hs : ch.substate = .armed) (now : Bool) :
    ch.react now = if now then { ch with substate := .holding (holdMs ch) } else ch := by
  unfold GuardChannel.react
  rw [hs]
  cases now <;> rfl

/-- A sample of an observed line makes its condition true, and the hold begins with the last of them. -/
theorem Begins.sample {x : TickState} {n : Line} (hs : ch.substate = .armed)
    (hpads : ∀ c ∈ ch.conditions, has pads c.line = c.level) (b : Begins g ch x) :
    Begins g ch (tickPart pads scl x (.sample n)) := by
  have a : Sampled x.1 (tickPart pads scl x (.sample n)).1 n (has pads n) := sampleLine_sampled ..
  have hother : ∀ m, m ≠ n → ((tickPart pads scl x (.sample n)).1.cell m).debounced = (x.1.cell m).debounced :=
    fun m hm => by rw [(a.others m hm).1]
  by_cases hch : Changes x.1 n (has pads n)
  · have hseen := a.seen hch g
    by_cases ho : ch.observes n = true
    · obtain ⟨c, hc, hline⟩ := observes_iff.mp ho
      cases b with
      | armed h hall =>
        rw [h, Option.map_some, GuardChannel.sees, if_pos ho, react_armed hs, combination_eq] at hseen
        cases hnow : AllTrue (tickPart pads scl x (.sample n)).1 ch.conditions with
        | false =>
          rw [hnow] at hseen
          exact .armed hseen hnow
        | true =>
          rw [hnow] at hseen
          refine .holding hseen hnow (List.mem_append_left _ (mem_freshHolds.mpr ⟨?_, ?_⟩))
          · rw [← Bool.not_eq_true, isHolding_of h, hs]
            rintro ⟨_, e⟩
            cases e
          · exact (isHolding_of hseen).mpr ⟨_, rfl⟩
      | holding h hall _ =>
        have hlevel : (x.1.cell n).debounced = c.level := by
          rw [AllTrue, List.all_eq_true] at hall
          have := hall c hc
          rw [hline] at this
          simpa using this
        have := hpads c hc
        rw [hline] at this
        exact absurd (this.trans hlevel.symm) hch.1
    · have hno : ∀ c ∈ ch.conditions, c.line ≠ n := fun c hc e => ho (observes_iff.mpr ⟨c, hc, e⟩)
      refine b.still (fun c hc => hother _ (hno c hc)) ?_
      have unseen : ∀ z : GuardChannel, z.conditions = ch.conditions → ∀ now, z.sees n now = z := fun z hz now => by
        rw [GuardChannel.sees, GuardChannel.observes, hz]
        exact if_neg ho
      cases b with
      | armed h _ => rw [hseen, h, Option.map_some, unseen ch rfl]
      | holding h _ _ => rw [hseen, h, Option.map_some, unseen { ch with substate := .holding (holdMs ch) } rfl]
  · refine b.still (fun c _ => ?_) (by rw [a.kept hch])
    by_cases hm : c.line = n
    · rw [hm, a.cell]
      unfold filteredLevel
      dsimp only
      split
      · rfl
      · rename_i h
        exact absurd ⟨fun e => h (.inl e), by omega⟩ hch
    · exact hother _ hm

/-- A part of the tick that is neither a sample nor the channel's own changes nothing that its hold turns on. -/
theorem Begins.other {x : TickState} {y : TickPart} (hg : y ≠ .guard g) (hn : ∀ n, y ≠ .sample n)
    (b : Begins g ch x) : Begins g ch (tickPart pads scl x y) := by
  have d := tickPart_does pads scl x y
  refine b.still (fun c _ => (d.filter (hn c.line)).1) ?_
  rcases d.guardChan hg with e | ⟨n, _, _, e, -⟩
  · exact e
  · exact absurd e (hn n)

theorem Begins.step {x : TickState} {y : TickPart} (hs : ch.substate = .armed)
    (hpads : ∀ c ∈ ch.conditions, has pads c.line = c.level) (b : Begins g ch x) :
    Begins g ch (tickPart pads scl x y) := by
  by_cases hg : y = .guard g
  · subst hg
    have e : (tickPart pads scl x (.guard g)).1 = x.1 := b.own hs
    exact b.still (fun c _ => by rw [e]) (by rw [e])
  · by_cases hn : ∃ n, y = .sample n
    · obtain ⟨n, rfl⟩ := hn
      exact b.sample hs hpads
    · exact b.other hg fun n e => hn ⟨n, e⟩

/-- A hold that the samples of a tick begin is not counted by that tick, whatever the order. -/
theorem msTicked_begins (order : List TickPart) (hg : vget s.guardChans g = some ch) (hs : ch.substate = .armed)
    (hfalse : AllTrue s ch.conditions = false)
    (hpads : ∀ c ∈ ch.conditions, has pads c.line = c.level
      ∧ ((s.cell c.line).debounced = c.level ∨ (s.profile c.line).debounce ≤ (s.cell c.line).stability)) :
    vget (msTicked pads scl order s).guardChans g = some { ch with substate := .holding (holdMs ch) } := by
  obtain ⟨_, b⟩ := msTicked_inv (pads := pads) (scl := scl) (s := s) (P := Begins g ch) order
    (fun y x b => b.step hs fun c hc => (hpads c hc).1) (.armed hg hfalse)
  have htrue : AllTrue (msTicked pads scl order s) ch.conditions = true := by
    rw [AllTrue, List.all_eq_true]
    intro c hc
    obtain ⟨hp, hd⟩ := hpads c hc
    rw [(msTicked_filter (pads := pads) (scl := scl) order c.line).1, beq_iff_eq, ← hp]
    unfold filteredLevel
    split
    · rename_i h
      rcases h with h | h
      · exact h.symm
      · rcases hd with hd | hd
        · rw [hd, hp]
        · omega
    · rfl
  cases b with
  | armed _ h =>
    rw [htrue] at h
    cases h
  | holding h _ _ => exact h

end

/-- Settles O52. -/
theorem guardHoldCounts : Obligations.GuardHoldCounts := by
  intro s pads scl g ch hr hg
  refine ⟨fun n hs hpads => ⟨_, exec_msTick [] hr, msTicked_holdCounts hg hs hpads, fun h1 => ?_⟩,
    fun order hs hfalse hpads => ⟨_, exec_msTick order hr, msTicked_begins order hg hs hfalse hpads⟩⟩
  obtain ⟨h₁, h₂, h₃⟩ := msTicked_fires (scl := scl) (order := []) hg hs hpads h1
  refine ⟨h₁, h₂.trans ?_, h₃⟩
  unfold afterHold
  cases ch.action <;> rfl

end Sys2Proof.Machine
